-- ==== Sys2Proof/Word.lean ====
section
/-! DEFINITION. The widths of the KG818: bytes, half words, words and the 16-byte key (R1, R7, R8, R184). -/

namespace Sys2Proof

/-- A byte of the exchange memory (12.1). -/
abbrev Byte := BitVec 8

/-- A 16-bit field. -/
abbrev Half := BitVec 16

/-- A register of the control window (R184), a 32-bit field, or a time in event seconds (R83). -/
abbrev Word := BitVec 32

/-- The 16-byte key K0 to K15 under which the part knows a credential (R7, R8). -/
abbrev Key := Vector Byte 16

/-- The lanes 0 to 7. -/
abbrev LaneId := Fin 8

/-- The zones 0 to 15 (R146). -/
abbrev ZoneId := Fin 16

/-- The monitors 0 to 7 (R153). -/
abbrev MonitorId := Fin 8

/-- The window profiles 0 to 31 (R86). -/
abbrev ProfileId := Fin 32

/-- The key of a record that names no credential (R182). -/
def zeroKey : Key := Vector.replicate 16 0

end Sys2Proof
end

