-- ==== Sys2Proof/Syntax.lean ====
section
/-! DEFINITION. The commands of the KG818, one constructor for each row of spec/opcode_table.json, and the operands they carry. -/

namespace Sys2Proof

/-- The four levels of a lane port (R111). -/
structure Levels where
  armA : Bool
  armB : Bool
  beam : Bool
  fire : Bool
deriving DecidableEq, Repr

/-- The two request rings (chapter The Request Rings). -/
inductive RingId where
  | gate
  | list
deriving DecidableEq, Repr

/-- A part of the table memory that one check covers (R26): a main slot of a bucket, the chain head of a bucket, an overflow
place, the free list head and the format marker (log 11). -/
inductive TableWord where
  | slot (bucket : Nat) (index : Fin 4)
  | head (bucket : Nat)
  | place (index : Nat)
  | freeHead
  | marker
deriving DecidableEq, Repr

/-- What a STOP, an INIT or the fall of RESET_N meets half done (log 9). Of the table port's operations at most one has begun its
writes (R32): the one at the front of the gate side, or the list side's, which gate requests may since have joined at the port
(R27). A taken PROFILE may have been carried out and not yet returned (R88); it takes no turn at the port, so an operation of the
gate side may have come before or after it. -/
inductive InFlight where
  /-- Nothing. -/
  | idle
  /-- The gate side's operation has begun its writes. -/
  | gate
  /-- The list side's operation has begun its writes. -/
  | list
  /-- The taken PROFILE has been carried out. -/
  | profile
  /-- The gate side's operation was taken before the PROFILE was carried out. -/
  | gateThenProfile
  /-- The gate side's operation was taken after the PROFILE was carried out. -/
  | profileThenGate
deriving DecidableEq, Repr

/-- How far a setup has come (R186, R187, R188, log 22). -/
inductive SetupStage where
  /-- SETTING_UP has been entered and the setup block read, and check 1 has not passed. -/
  | entered
  /-- Check 1 has passed, and the table step has not begun. -/
  | checking
  /-- Checks 2 to 5 have passed, and the table step is being made. -/
  | table
deriving DecidableEq, Repr

/-- How an INIT goes: what it meets half done, where it finds the part RUNNING, and how far the setup has come before the next
command, unless a check ends it first (log 9, log 22). -/
structure InitCourse where
  flight : InFlight
  stage : SetupStage
deriving DecidableEq, Repr

/-- The commands and events of the KG818 (spec/opcode_table.json). -/
inductive Instr where
  /-- POWER_ON: supply is applied (R184). -/
  | powerOn
  /-- RESET_N: the RESET_N input is released (R185). -/
  | resetN
  /-- STOP written in CONTROL (R185); `flight` says what it meets half done (R32, R88). -/
  | stop (flight : InFlight)
  /-- INIT written in CONTROL (R185). -/
  | init (course : InitCourse)
  /-- RUN written in CONTROL (R185). -/
  | run
  /-- PROMPT written in CONTROL (R167). -/
  | prompt
  /-- A processor write to NOTICE with its byte enables (R189). -/
  | noticeWrite (enables : BitVec 4) (value : Word)
  /-- A processor write to NOTICE_EN (R184). -/
  | noticeEnWrite (enables : BitVec 4) (value : Word)
  /-- A processor write to CLOCK (R83). -/
  | clockWrite (enables : BitVec 4) (value : Word)
  /-- A processor write to word `word` of the exchange memory window, at offset 4 × `word` (R184, log 4). -/
  | registerWrite (word : BitVec 16) (enables : BitVec 4) (value : Word)
  /-- TABLE_STEP: setup's table step ends (R187); `bad` lists the words that fail their check (R30, R29). -/
  | tableStep (bad : List TableWord)
  /-- LANE_EVENT: the pins of a lane port read `pins`, and, where `sampled`, the sample instant of its period falls (R113). -/
  | laneEvent (lane : LaneId) (pins : Levels) (sampled : Bool)
  /-- RELEASE_TIMER_EXPIRY (R95). -/
  | releaseTimerExpiry (lane : LaneId)
  /-- ESCORT_TOKEN_EXPIRY (R110). -/
  | escortTokenExpiry (lane : LaneId)
  /-- CLOCK_SECOND (R83). -/
  | clockSecond
  /-- RING_POLL_EXPIRY (R166). -/
  | ringPollExpiry (ring : RingId)
  /-- CHAIN_WAIT_EXPIRY (R56). -/
  | chainWaitExpiry
  /-- JOURNAL_POLL_EXPIRY (R177). -/
  | journalPollExpiry
  /-- PRESENT: the taken PRESENT descriptor is judged (R64). -/
  | present
  /-- ADMISSION_LOOKUP at the table port (R67); `bad` lists words found damaged from now on (R26, log 11). -/
  | admissionLookup (bad : List TableWord)
  /-- CLOSING_OPERATION at the table port (R97). -/
  | closingOperation (bad : List TableWord)
  /-- MANUAL RELEASE (R107). -/
  | manualRelease
  /-- MANUAL ESCORT (R109). -/
  | manualEscort
  /-- The LANE request (R132). -/
  | lane
  /-- ALERT TAKE (R143). -/
  | alertTake
  /-- ALERT CLEAR (R143). -/
  | alertClear
  /-- ALERT ENABLE (R143). -/
  | alertEnable
  /-- ALERT DISABLE (R143). -/
  | alertDisable
  /-- ALERT RAISE (R143). -/
  | alertRaise
  /-- LOAD: the taken LOAD descriptor is checked (R43). -/
  | load
  /-- BATCH_RECORD at the table port (R44). -/
  | batchRecord (bad : List TableWord)
  /-- REVOKE with action REVOKE (R60). -/
  | revoke
  /-- REVOKE with action RESTORE (R60). -/
  | restore
  /-- MARK (R61). -/
  | mark
  /-- QUERY (R62). -/
  | query
  /-- The table operation of a REVOKE, MARK or QUERY (R42). -/
  | listRequest (bad : List TableWord)
  /-- REBUILD (R63). -/
  | rebuild
  /-- One bucket of the rebuild walk at the table port (R37). -/
  | rebuildWalkBucket (bad : List TableWord)
  /-- ZONE SET_OCCUPANCY (R150). -/
  | zoneSetOccupancy
  /-- ZONE ADJUST (R150). -/
  | zoneAdjust
  /-- ZONE SET_CAPACITY (R150). -/
  | zoneSetCapacity
  /-- MONITOR (R159). -/
  | monitor
  /-- PROFILE (R88). -/
  | profile
  /-- RESET_N_ASSERTED: the RESET_N input becomes active (R32); bit i of `cut` says that byte i of the journal slot at the put
  position was written before the reset cut the write step (R176). -/
  | resetNAsserted (flight : InFlight) (cut : BitVec 32)
deriving DecidableEq, Repr

end Sys2Proof
end

