-- ==== Sys2Proof/Config.lean ====
section
/-! DEFINITION. What the manual fixes for every KG818, and the one content the manual leaves open that the model fixes:
the byte of exchange memory that nothing has written (log 5). -/

namespace Sys2Proof.Config

/-- DESIGN CHOICE (log 5), unsafe: what a byte of exchange memory that nothing has written reads as. -/
def unwrittenByte : Byte := 0

/-- The first offset of the exchange memory window that reaches memory (R184). -/
def windowBase : Nat := 0x40

/-- The first offset beyond the exchange memory window of 256 KiB. -/
def windowEnd : Nat := 0x40000

/-- The length of the setup block in bytes (12.3). -/
def setupBytes : Nat := 1088

/-- The length of a request descriptor in bytes (R161). -/
def descBytes : Nat := 64

/-- The length of a journal slot in bytes (R175). -/
def slotBytes : Nat := 32

/-- The length of a batch record in bytes (12.5). -/
def recordBytes : Nat := 32

/-- The records the holding queue holds (R179). -/
def queueRecords : Nat := 32

/-- The limit of an occupancy, a capacity and the gap count (R146, R180). -/
def countLimit : Nat := 65535

/-- The limit of a chain total (R51). -/
def totalLimit : Nat := 4294967295

/-- The free passages after which the tally is reported (R123). -/
def tallyReport : Nat := 50

/-- The reloads a BEAM rise may make for one hold (R94). -/
def reloadLimit : Nat := 3

/-- The milliseconds in one unit of 100 ms. -/
def unitMs : Nat := 100

/-- The milliseconds in one second. -/
def secondMs : Nat := 1000

end Sys2Proof.Config
end

