-- ==== Sys2Proof/Machine/State.lean ====
section
/-! DEFINITION. The state of the KG818, block by block as the introduction's block table gives the owners, as plain data; the
reasons a step can stop; and the machine right after reset. -/

namespace Sys2Proof.Machine

/-! ## Enumerated values (12.1) -/

/-- The part state (chapter 11). -/
inductive PartState where
  | halted
  | settingUp
  | standby
  | running
deriving DecidableEq, Repr

/-- The failure code of a setup (R188). -/
inductive FailureCode where
  | none
  | version
  | placement
  | overlap
  | geometry
  | tableTest
  | unformatted
  | abandoned
deriving DecidableEq, Repr

/-- The filter state (R33). -/
inductive FilterState where
  | suspect
  | valid
  | rebuilding
deriving DecidableEq, Repr

/-- The check scheme (R4). -/
inductive CheckScheme where
  | none
  | mod10
deriving DecidableEq, Repr

/-- The state of a ticket entry (R18). -/
inductive EntryState where
  | outside
  | inside
  | revoked
deriving DecidableEq, Repr

/-- A zone grant (R18). -/
inductive Grant where
  | never
  | once
  | returning
  | escort
deriving DecidableEq, Repr

/-- The direction of a lane or a hold (R112, R90). -/
inductive Direction where
  | entry
  | exit
deriving DecidableEq, Repr

/-- A lane mode that can be requested: OPEN, CLOSED or FREE (R130). -/
inductive BaseMode where
  | opened
  | closed
  | free
deriving DecidableEq, Repr

/-- A lane mode (R125): one of the three that can be requested, or EMERGENCY. -/
inductive LaneMode where
  | base (mode : BaseMode)
  | emergency
deriving DecidableEq, Repr

/-- The sample period of a lane (R113). -/
inductive Period where
  | raw
  | ms1
  | ms4
  | ms16
deriving DecidableEq, Repr

/-- The tracker state (R116). -/
inductive TrackerState where
  | rest
  | turning
  | fault
deriving DecidableEq, Repr

/-- A term specification (R135). -/
inductive TermSpec where
  | ignore
  | low
  | high
  | fall
  | rise
  | either
deriving DecidableEq, Repr

/-- The mode of a watch specification (R135). -/
inductive WatchMode where
  | all
  | any
  | first
deriving DecidableEq, Repr

/-- The state of an alert (R139). -/
inductive AlertState where
  | idle
  | pending
  | inService
deriving DecidableEq, Repr

/-- The mode of a monitor (R153). -/
inductive MonitorMode where
  | level
  | window
deriving DecidableEq, Repr

/-- The edge of a monitor (R156). -/
inductive MonitorEdge where
  | rise
  | fall
  | both
deriving DecidableEq, Repr

/-- The link action of a monitor (R157). -/
inductive LinkAction where
  | none
  | closeEntry
  | openEntry
  | freeExits
deriving DecidableEq, Repr

/-- The outcome of a CLOSING hold (R90). -/
inductive HoldOutcome where
  | commit
  | lapsed
  | notPassed
  | emergency
  | fault
deriving DecidableEq, Repr

/-- The phase of a hold, with the outcome that a CLOSING hold has met (R90). -/
inductive HoldPhase where
  | standing
  | closing (outcome : HoldOutcome)
deriving DecidableEq, Repr

/-- The action of a REVOKE request and of a pending revoke (R60). -/
inductive RevokeAction where
  | revoke
  | restore
deriving DecidableEq, Repr

/-- The thirteen kinds of journal record (R183). -/
inductive RecordKind where
  | passage
  | manualPassage
  | lapsed
  | cancelled
  | forced
  | reverse
  | tally
  | mode
  | alert
  | fault
  | monitor
  | rebuildDone
  | tableFault
deriving DecidableEq, Repr

/-! ## The table unit -/

/-- A ticket entry without its chain link, which its place in a bucket's chain gives (R18). -/
structure Entry where
  key : Key
  state : EntryState
  tier : Fin 4
  /-- The sixteen zone grants, zone z at bits 2z and 2z + 1 (12.1). -/
  grants : Word
  profile : ProfileId
  returns : Fin 16
  count : Nat
  lastLane : Option LaneId
  lastTime : Option Word
  remote : Option Byte
  batch : Half
deriving DecidableEq, Repr

/-- One bucket: four main slots, and its chain as the overflow places it links, from the chain head to the tail (R17). -/
structure Bucket where
  slots : Vector (Option Entry) 4
  chain : List (Nat × Entry)
deriving DecidableEq, Repr

/-- A bucket as format leaves it (R17). -/
def Bucket.empty : Bucket := ⟨Vector.replicate 4 none, []⟩

/-- The location of an entry: a bucket and main slot, or an overflow place of a bucket's chain (R22). -/
inductive Location where
  | main (bucket : Nat) (slot : Fin 4)
  | overflow (bucket : Nat) (place : Nat)
deriving DecidableEq, Repr

/-- The format marker when its completion mark is set (R29). -/
structure Marker where
  k : Nat
  u : Nat
  withdrawn : Nat
deriving DecidableEq, Repr

/-- The table memory: the marker (absent when cleared), the buckets that are not empty by rising index, the free list from its
head (R20), the withdrawn overflow places (R19), and the words that fail their check when read (R26). -/
structure TableMemory where
  marker : Option Marker
  buckets : List (Nat × Bucket)
  free : List Nat
  withdrawn : List Nat
  damaged : List TableWord
deriving DecidableEq, Repr

/-- A request waiting on the gate side of the table port (R27). -/
inductive PortRequest where
  | lookup
  | closing (lane : LaneId)
deriving DecidableEq, Repr

/-- The table unit: the geometry in force (R16), the table memory, the set bits of the presence filter and of the shadow filter
by rising index (R33), the filter state, the walk position (R36) and the gate side's queue at the port (R27). -/
structure TableUnit where
  k : Nat
  u : Nat
  memory : TableMemory
  presence : List Nat
  shadow : List Nat
  filter : FilterState
  walk : Nat
  port : List PortRequest
deriving DecidableEq, Repr

/-! ## Timers, control window and setup unit -/

/-- A timer of units, with the milliseconds of the current unit that have passed. -/
structure Countdown where
  units : Nat
  ms : Nat
deriving DecidableEq, Repr

/-- A setup in progress: the block's offset, the block as it was read, and how far the setup has come (R186). -/
structure SetupRun where
  base : Nat
  block : List Host.Cell
  stage : SetupStage
deriving DecidableEq, Repr

/-- The control window's registers and flags, the part state, the setup in progress, and whether RESET_N is active
(R184, R185, R188, R189). -/
structure Control where
  part : PartState
  setupComplete : Bool
  failure : FailureCode
  setupRun : Option SetupRun
  resetActive : Bool
  /-- NOTICE: bit i is notice flag i of 12.2. -/
  notice : BitVec 7
  /-- NOTICE_EN, the flag enables. -/
  enables : BitVec 7
  /-- NOTICE_EN, the master enable. -/
  master : Bool
  setupAt : Word
deriving DecidableEq, Repr

/-- The event clock: its signed value, VALID, and the milliseconds of the current second (R83). -/
structure Clock where
  value : Word
  valid : Bool
  ms : Nat
deriving DecidableEq, Repr

/-- A ring in force: its base offset and size exponent (R161, R175). -/
structure Ring where
  base : Nat
  exp : Nat
deriving DecidableEq, Repr

/-- The ring placements in force, the poll interval in ms and the chain wait in 100 ms units (R161, R166, R51). -/
structure RingConfig where
  gate : Option Ring
  list : Option Ring
  journal : Option Ring
  poll : Nat
  chainWait : Nat
deriving DecidableEq, Repr

/-! ## Ring units -/

/-- The fields of a descriptor as the ring unit read them at the take (R162). -/
structure Desc where
  notify : Bool
  chain : Byte
  kind : Byte
  lane : Byte
  payload : List Byte
deriving DecidableEq, Repr

/-- How far the gate descriptor in progress is: taken, or waiting at the port with the key the normaliser gave (R67). -/
inductive GatePhase where
  | taken
  | lookup (key : Key)
deriving DecidableEq, Repr

/-- The gate descriptor in progress (R165). -/
structure GateWork where
  desc : Desc
  phase : GatePhase
deriving DecidableEq, Repr

/-- The gate ring unit: its take position, its poll timer in ms, and the descriptor in progress (R165, R166). -/
structure GateUnit where
  take : Nat
  poll : Option Nat
  work : Option GateWork
deriving DecidableEq, Repr

/-- The seven counts of a LOAD descriptor, and the seven chain totals (R50, R51). -/
structure Counts where
  added : Nat
  replaced : Nat
  dropped : Nat
  notFound : Nat
  malformed : Nat
  heldSkip : Nat
  full : Nat
deriving DecidableEq, Repr

/-- All seven counts at 0. -/
def Counts.zero : Counts := ⟨0, 0, 0, 0, 0, 0, 0⟩

/-- How far the list descriptor in progress is: taken, applying its batch records from index `next`, or waiting at the port
with a REVOKE, MARK or QUERY (R41). -/
inductive ListPhase where
  | taken
  | loading (next : Nat) (counts : Counts)
  | request
deriving DecidableEq, Repr

/-- The list descriptor in progress. -/
structure ListWork where
  desc : Desc
  phase : ListPhase
deriving DecidableEq, Repr

/-- The kept descriptor of an open chain: its index, its notify-on-return mark and its own counts (R53). -/
structure Kept where
  index : Nat
  notify : Bool
  counts : Counts
deriving DecidableEq, Repr

/-- The list ring unit: its take position, its poll timer, the descriptor in progress, and the open-chain record (R51). -/
structure ListUnit where
  take : Nat
  poll : Option Nat
  work : Option ListWork
  chainOpen : Bool
  kept : Option Kept
  totals : Counts
  /-- The chain wait timer, in units of 100 ms (R51). -/
  wait : Option Countdown
deriving DecidableEq, Repr

/-! ## Admission unit and hold table -/

/-- A window profile (R86). -/
structure Profile where
  openTime : Word
  closeTime : Word
  noOpen : Bool
  noClose : Bool
deriving DecidableEq, Repr

/-- The admission unit's settings: the window profiles and the check scheme (R86, R4). -/
structure Admission where
  profiles : Vector Profile 32
  scheme : CheckScheme
deriving DecidableEq, Repr

/-- What a hold binds: a credential with its key, entry location and effective tier, or a MANUAL RELEASE (R90). -/
inductive HoldKind where
  | credential (key : Key) (location : Location) (tier : Fin 4)
  | manual
deriving DecidableEq, Repr

/-- A pending mark: whether it marks INSIDE, its remote cluster and its time (R61). -/
structure PendingMark where
  inside : Bool
  cluster : Byte
  time : Word
deriving DecidableEq, Repr

/-- A hold record (R90), with the lane unit's release timer, which the record names. Reserved is read from the direction. -/
structure Hold where
  kind : HoldKind
  direction : Direction
  zone : ZoneId
  phase : HoldPhase
  /-- The release timer remaining, in 100 ms units, and the milliseconds of the current unit. -/
  remaining : Nat
  ms : Nat
  /-- The hold's full hold time, which reloads use (R92). -/
  fullTime : Nat
  reloads : Nat
  startedAt : Word
  beamSeen : Bool
  mark : Option PendingMark
  revoke : Option RevokeAction
deriving DecidableEq, Repr

/-! ## Lane and watch units -/

/-- The agreement counts of the four inputs (R113). -/
structure Agreement where
  armA : Nat
  armB : Nat
  beam : Nat
  fire : Nat
deriving DecidableEq, Repr

/-- All agreement counts at 0. -/
def Agreement.zero : Agreement := ⟨0, 0, 0, 0⟩

/-- The passage tracker (R116); the turn is 0 but in TURNING. -/
structure Tracker where
  state : TrackerState
  position : Fin 4
  turn : Int
deriving DecidableEq, Repr

/-- A tracker at REST. -/
def Tracker.atRest : Tracker := ⟨.rest, 0, 0⟩

/-- A watch specification (R135). -/
structure WatchSpec where
  terms : Vector TermSpec 6
  mode : WatchMode
  lock : Bool
deriving DecidableEq, Repr

/-- The six term values (R134). -/
structure Terms where
  armA : Bool
  armB : Bool
  beam : Bool
  fire : Bool
  hold : Bool
  fault : Bool
deriving DecidableEq, Repr

/-- One lane: its pins, the lane unit's settings and state (R112) and its watch unit (chapter 7). -/
structure Lane where
  /-- The levels at the four input pins. -/
  pins : Levels
  /-- The conditioned levels. -/
  level : Levels
  agree : Agreement
  /-- The milliseconds since the last sample. -/
  sampleMs : Nat
  enabled : Bool
  direction : Direction
  zone : ZoneId
  tier : Fin 4
  holdTime : Nat
  retrigger : Bool
  period : Period
  escortTime : Nat
  tracker : Tracker
  mode : LaneMode
  pendingMode : Option BaseMode
  afterEmergency : Option BaseMode
  tally : Nat
  /-- The escort token's remaining life in seconds (R110). -/
  token : Option Countdown
  watch : WatchSpec
  prev : Terms
  alert : AlertState
  /-- The alert's ENABLED flag (R139). -/
  alertOn : Bool
  overrun : Bool
deriving DecidableEq, Repr

/-! ## Zone unit -/

/-- A zone (R146). -/
structure Zone where
  capacity : Nat
  occupancy : Nat
  reserved : Nat
deriving DecidableEq, Repr

/-- An occupancy monitor (R153). -/
structure Monitor where
  enable : Bool
  zone : ZoneId
  mode : MonitorMode
  level : Nat
  low : Nat
  high : Nat
  edge : MonitorEdge
  steadiness : Nat
  recordOn : Bool
  link : LinkAction
  output : Bool
  count : Nat
deriving DecidableEq, Repr

/-! ## Journal unit -/

/-- The flags of a journal record (R182, 12.5). -/
structure RecordFlags where
  beamUnseen : Bool := false
  noClock : Bool := false
  clamped : Bool := false
  contested : Bool := false
  revokedAfter : Bool := false
  tableError : Bool := false
  incomplete : Bool := false
deriving DecidableEq, Repr

/-- A journal record as it waits in the holding queue (R182); its gap count is filled at the write. -/
structure Record where
  kind : RecordKind
  lane : Option LaneId
  zone : Option ZoneId
  flags : RecordFlags
  seconds : Word
  /-- D0 to D3, with D0 the least significant byte (12.5). -/
  detail : Word
  key : Key
deriving DecidableEq, Repr

/-- The journal unit (R177, R179, R180). -/
structure Journal where
  put : Nat
  queue : List Record
  gap : Nat
  poll : Option Nat
deriving DecidableEq, Repr

/-! ## The whole part -/

/-- The state of the KG818, and the queue of the commands that wait for it. -/
structure State where
  ctl : Control
  clk : Clock
  /-- The exchange memory: the bytes that differ from `Config.unwrittenByte`, by rising offset. -/
  xmem : List Host.Cell
  cfg : RingConfig
  gate : GateUnit
  list : ListUnit
  tab : TableUnit
  adm : Admission
  holds : Vector (Option Hold) 8
  lanes : Vector Lane 8
  zones : Vector Zone 16
  monitors : Vector Monitor 8
  jrn : Journal
  pending : List Instr
deriving DecidableEq, Repr

/-! ## Why a step can stop -/

/-- A fault. -/
inductive Fault where
  /-- Raised by CLOSING_OPERATION when the location a CREDENTIAL hold records holds no entry of its key. R24 says that this
  cannot happen, so no rule gives an effect. Safe: the model stops where no KG818 can be (log 26). -/
  | entryMissing (lane : LaneId)
deriving DecidableEq, Repr

/-- A refusal. -/
inductive Refusal where
  /-- Raised by exec for a command that has no meaning yet; no command of this model is refused. Safe. -/
  | notModelled (mnemonic : String)
deriving DecidableEq, Repr

/-! ## Reset -/

/-- The pins of a lane port with every input inactive: DESIGN CHOICE (log 6). -/
def Levels.low : Levels := ⟨false, false, false, false⟩

/-- The window profile of power-on: always open (R87). -/
def Profile.alwaysOpen : Profile := ⟨0, 0, true, true⟩

/-- The watch specification of power-on (R145). -/
def WatchSpec.powerOn : WatchSpec := ⟨Vector.replicate 6 .ignore, .any, false⟩

/-- A lane at power-on and RESET_N (R133, R145). -/
def Lane.powerOn : Lane where
  pins := Levels.low
  level := Levels.low
  agree := Agreement.zero
  sampleMs := 0
  enabled := false
  direction := .entry
  zone := 0
  tier := 0
  holdTime := 5
  retrigger := false
  period := .ms16
  escortTime := 1
  tracker := Tracker.atRest
  mode := .base .closed
  pendingMode := none
  afterEmergency := none
  tally := 0
  token := none
  watch := WatchSpec.powerOn
  prev := ⟨false, false, false, false, false, false⟩
  alert := .idle
  alertOn := false
  overrun := false

/-- A monitor at power-on and RESET_N (R160). -/
def Monitor.powerOn : Monitor :=
  ⟨false, 0, .level, 0, 0, 0, .rise, 0, false, .none, false, 0⟩

/-- The table memory at power-on, which the manual leaves undefined but for the marker, which counts as not valid (R29); no
command reads anything else of it before a format (log 12). -/
def TableMemory.powerOn : TableMemory := ⟨none, [], [], [], []⟩

/-- The machine right after power-on: HALTED, no valid setup, every register and queue at the value the manual gives (R184,
R40, R51, R84, R87, R89, R133, R145, R152, R160, R165, R181, R189). DESIGN CHOICE: the walk position, which the manual gives only
while a rebuild runs, is 0 (log 35); the geometry, the poll interval and the chain wait before the first setup (log 30); and the
pins (log 6). -/
def State.reset : State where
  ctl := ⟨.halted, false, .none, none, false, 0, 0, false, 0⟩
  clk := ⟨0, false, 0⟩
  xmem := []
  cfg := ⟨none, none, none, 1, 1⟩
  gate := ⟨0, none, none⟩
  list := ⟨0, none, none, false, none, Counts.zero, none⟩
  tab := ⟨12, 1, TableMemory.powerOn, [], [], .suspect, 0, []⟩
  adm := ⟨Vector.replicate 32 Profile.alwaysOpen, .none⟩
  holds := Vector.replicate 8 none
  lanes := Vector.replicate 8 Lane.powerOn
  zones := Vector.replicate 16 ⟨0, 0, 0⟩
  monitors := Vector.replicate 8 Monitor.powerOn
  jrn := ⟨0, [], 0, none⟩
  pending := []

end Sys2Proof.Machine
end

