-- ==== Sys2Proof/Machine/Ops.lean ====
section
/-! DEFINITION. The named operations over the exchange memory, sparse tables, bit sets, bytes and the fields of the state, which
every command goes through. -/

namespace Sys2Proof.Machine

/-! ## Sparse tables in canonical form -/

/-- What a sparse table holds at `k`: the listed value, or `d` where nothing is listed. -/
def sparseGet {α : Type} (d : α) : List (Nat × α) → Nat → α
  | [], _ => d
  | (a, v) :: m, k => if a = k then v else sparseGet d m k

/-- A sparse table with `v` put at `k`, in canonical form: putting the default value removes the entry. -/
def sparsePut {α : Type} [DecidableEq α] (d : α) : List (Nat × α) → Nat → α → List (Nat × α)
  | [], k, v => if v = d then [] else [(k, v)]
  | (a, w) :: m, k, v =>
    if k < a then (if v = d then (a, w) :: m else (k, v) :: (a, w) :: m)
    else if k = a then (if v = d then m else (k, v) :: m)
    else (a, w) :: sparsePut d m k v

/-- The canonical form: indexes strictly rising, and no entry equal to the default value. -/
abbrev sparseWf {α : Type} [DecidableEq α] (d : α) (m : List (Nat × α)) : Prop :=
  m.Pairwise (fun p q => p.1 < q.1) ∧ ∀ p ∈ m, p.2 ≠ d

/-! ## The exchange memory -/

/-- The byte at an offset of the exchange memory. -/
def Memory.read (m : List Host.Cell) (a : Nat) : Byte := sparseGet Config.unwrittenByte m a

/-- The exchange memory with one byte written. -/
def Memory.write (m : List Host.Cell) (a : Nat) (v : Byte) : List Host.Cell := sparsePut Config.unwrittenByte m a v

/-- The canonical form of the exchange memory. -/
abbrev Memory.wf (m : List Host.Cell) : Prop := sparseWf Config.unwrittenByte m

/-- The exchange memory with bytes written at rising offsets from `a`. -/
def Memory.writeBytes (m : List Host.Cell) (a : Nat) : List Byte → List Host.Cell
  | [] => m
  | b :: bs => Memory.writeBytes (Memory.write m a b) (a + 1) bs

/-- The `n` bytes from offset `a` on. -/
def Memory.readBytes (m : List Host.Cell) (a n : Nat) : List Byte :=
  (List.range n).map (fun i => Memory.read m (a + i))

/-- The cells that lie in the `n` bytes from offset `a` on: what a unit that reads a whole block keeps of it (R186). -/
def Memory.clip (m : List Host.Cell) (a n : Nat) : List Host.Cell :=
  m.filter (fun c => decide (a ≤ c.1 ∧ c.1 < a + n))

/-! ## Bytes and little-endian fields (12) -/

/-- Byte `i` of a word, byte 0 the least significant. -/
def byteOf (v : Word) (i : Nat) : Byte := (v >>> (8 * i)).setWidth 8

/-- The four bytes of a word, least significant first. -/
def wordBytes (v : Word) : List Byte := [byteOf v 0, byteOf v 1, byteOf v 2, byteOf v 3]

/-- The two bytes of a count, least significant first. -/
def halfBytes (n : Nat) : List Byte := [BitVec.ofNat 8 n, BitVec.ofNat 8 (n / 256)]

/-- The word of four bytes, the first the least significant. -/
def wordOf (b0 b1 b2 b3 : Byte) : Word :=
  b0.setWidth 32 ||| (b1.setWidth 32 <<< 8) ||| (b2.setWidth 32 <<< 16) ||| (b3.setWidth 32 <<< 24)

/-- The half word of two bytes, the first the least significant. -/
def halfOf (b0 b1 : Byte) : Half := b0.setWidth 16 ||| (b1.setWidth 16 <<< 8)

/-- A boolean field: 0 is clear and any other value is set (R190). -/
def flagOf (b : Byte) : Bool := decide (b ≠ 0)

/-- A boolean as the part writes it (R190). -/
def flagByte (b : Bool) : Byte := if b then 1 else 0

/-- A bit as a number. -/
def bitNat (b : Bool) : Nat := if b then 1 else 0

/-- Byte `i` of a byte list, 0 beyond its end. -/
def byteAt (bs : List Byte) (i : Nat) : Byte := bs.getD i 0

/-- The half word at byte `i` of a byte list. -/
def halfAt (bs : List Byte) (i : Nat) : Half := halfOf (byteAt bs i) (byteAt bs (i + 1))

/-- The word at byte `i` of a byte list. -/
def wordAt (bs : List Byte) (i : Nat) : Word :=
  wordOf (byteAt bs i) (byteAt bs (i + 1)) (byteAt bs (i + 2)) (byteAt bs (i + 3))

/-- A byte list cut or filled with zeros to `n` bytes. -/
def padTo (n : Nat) (bs : List Byte) : List Byte := (List.range n).map (byteAt bs)

/-- A word with the bytes whose enables are active taken from a write (R184). -/
def mergeBytes (enables : BitVec 4) (old new : Word) : Word :=
  let pick (i : Nat) : Byte := if enables.getLsbD i then byteOf new i else byteOf old i
  wordOf (pick 0) (pick 1) (pick 2) (pick 3)

/-! ## Bounded arithmetic -/

/-- A value clamped to a range: the nearer end replaces a value outside it. -/
def clamp (lo hi n : Nat) : Nat := if n < lo then lo else if hi < n then hi else n

/-- A count that rises by 1 and saturates. -/
def saturate (limit n : Nat) : Nat := if n < limit then n + 1 else n

/-! ## Sets of filter bits -/

/-- A set of bits with bit `i` set, the indexes kept strictly rising. -/
def bitInsert (i : Nat) : List Nat → List Nat
  | [] => [i]
  | j :: bs => if i < j then i :: j :: bs else if i = j then j :: bs else j :: bitInsert i bs

/-- Words added to the damaged words, each once. -/
def addWords (bad : List TableWord) (ws : List TableWord) : List TableWord :=
  bad.foldl (fun acc w => if w ∈ acc then acc else acc ++ [w]) ws

/-! ## The fields of the state -/

/-- The state with another control block. -/
def State.setCtl (s : State) (x : Control) : State := { s with ctl := x }

/-- The state with another event clock. -/
def State.setClk (s : State) (x : Clock) : State := { s with clk := x }

/-- The state with another exchange memory. -/
def State.setXmem (s : State) (x : List Host.Cell) : State := { s with xmem := x }

/-- The state with another ring configuration. -/
def State.setCfg (s : State) (x : RingConfig) : State := { s with cfg := x }

/-- The state with another gate ring unit. -/
def State.setGate (s : State) (x : GateUnit) : State := { s with gate := x }

/-- The state with another list ring unit. -/
def State.setList (s : State) (x : ListUnit) : State := { s with list := x }

/-- The state with another table unit. -/
def State.setTab (s : State) (x : TableUnit) : State := { s with tab := x }

/-- The state with other admission settings. -/
def State.setAdm (s : State) (x : Admission) : State := { s with adm := x }

/-- The state with another journal unit. -/
def State.setJrn (s : State) (x : Journal) : State := { s with jrn := x }

/-- The hold at a lane (R89). -/
def State.hold (s : State) (i : LaneId) : Option Hold := s.holds.get i

/-- The state with another hold, or none, at a lane. -/
def State.setHold (s : State) (i : LaneId) (h : Option Hold) : State := { s with holds := s.holds.set i.val h i.isLt }

/-- A lane. -/
def State.lane (s : State) (i : LaneId) : Lane := s.lanes.get i

/-- The state with another lane. -/
def State.setLane (s : State) (i : LaneId) (l : Lane) : State := { s with lanes := s.lanes.set i.val l i.isLt }

/-- A zone. -/
def State.zone (s : State) (z : ZoneId) : Zone := s.zones.get z

/-- The state with another zone. -/
def State.setZone (s : State) (z : ZoneId) (x : Zone) : State := { s with zones := s.zones.set z.val x z.isLt }

/-- A monitor. -/
def State.monitor (s : State) (m : MonitorId) : Monitor := s.monitors.get m

/-- The state with another monitor. -/
def State.setMonitor (s : State) (m : MonitorId) (x : Monitor) : State :=
  { s with monitors := s.monitors.set m.val x m.isLt }

/-- The state with another command queue. -/
def State.setPending (s : State) (q : List Instr) : State := { s with pending := q }

/-- A byte of the exchange memory. -/
def State.read (s : State) (a : Nat) : Byte := Memory.read s.xmem a

/-- The state with bytes written into the exchange memory. -/
def State.writeBytes (s : State) (a : Nat) (bs : List Byte) : State := s.setXmem (Memory.writeBytes s.xmem a bs)

/-- The lanes in ascending number. -/
def laneOrder : List LaneId := [0, 1, 2, 3, 4, 5, 6, 7]

/-- The monitors in ascending number. -/
def monitorOrder : List MonitorId := [0, 1, 2, 3, 4, 5, 6, 7]

/-- The zones in ascending number. -/
def zoneOrder : List ZoneId := [0, 1, 2, 3, 4, 5, 6, 7, 8, 9, 10, 11, 12, 13, 14, 15]

/-- The part is RUNNING. -/
def State.running (s : State) : Bool := decide (s.ctl.part = .running)

end Sys2Proof.Machine
end

