-- ==== Sys2Proof/Machine/Keys.lean ====
section
/-! DEFINITION. Credentials and keys: the normaliser, the check digit, the packing of a key, the check of a packed key and the
placement arithmetic (R1 to R15). -/

namespace Sys2Proof.Machine

/-- The outcome of normalisation (R6). -/
inductive NormOutcome where
  | malformed
  | unreadable
  | badCheck
  | key (k : Key)
deriving DecidableEq, Repr

/-- An ASCII digit (R2). -/
def isDigit (b : Byte) : Bool := decide (0x30 ≤ b.toNat ∧ b.toNat ≤ 0x39)

/-- The digit values of a barcode's bytes (R2). -/
def digitsOf (bs : List Byte) : List Nat := bs.map (fun b => b.toNat - 0x30)

/-- The double of a digit, less 9 where it exceeds 9 (R5). -/
def doubled (d : Nat) : Nat := if 9 < 2 * d then 2 * d - 9 else 2 * d

/-- The MOD10 sum of digits taken from the right; the flag says that the next digit's number is even (R5). -/
def mod10Sum : Bool → List Nat → Nat
  | _, [] => 0
  | false, d :: ds => d + mod10Sum true ds
  | true, d :: ds => doubled d + mod10Sum false ds

/-- The MOD10 test (R5). -/
def mod10Passes (digits : List Nat) : Bool := decide (mod10Sum false digits.reverse % 10 = 0)

/-- Nibble Nj of a barcode key: padding, then the digits up to N27 (R7). -/
def barcodeNibble (digits : List Nat) (j : Nat) : Nat :=
  if j < 28 - digits.length then 0 else digits.getD (j - (28 - digits.length)) 0

/-- The key of an accepted barcode (R7). -/
def packBarcode (digits : List Nat) : Key :=
  Vector.ofFn (fun i : Fin 16 =>
    if i.val = 0 then 0x01
    else if i.val = 1 then BitVec.ofNat 8 digits.length
    else BitVec.ofNat 8 (16 * barcodeNibble digits (2 * (i.val - 2)) + barcodeNibble digits (2 * (i.val - 2) + 1)))

/-- The key of an accepted card (R8). -/
def packCard (uid : List Byte) : Key :=
  Vector.ofFn (fun i : Fin 16 =>
    if i.val = 0 then 0x02
    else if i.val = 1 then BitVec.ofNat 8 uid.length
    else if i.val < 16 - uid.length then 0
    else uid.getD (i.val - (16 - uid.length)) 0)

/-- A barcode payload is accepted (R2). -/
def barcodeAccepted (bs : List Byte) : Bool :=
  decide (6 ≤ bs.length ∧ bs.length ≤ 28) && bs.all isDigit

/-- A card payload is accepted (R3). -/
def cardAccepted (bs : List Byte) : Bool :=
  decide (bs.length = 4 ∨ bs.length = 7 ∨ bs.length = 10)

/-- The normaliser (R6): the credential kind, the payload length, and the 32 payload bytes. -/
def normalise (scheme : CheckScheme) (kind len : Byte) (payload : List Byte) : NormOutcome :=
  if (kind ≠ 1 ∧ kind ≠ 2) ∨ 32 < len.toNat then .malformed
  else
    let bs := payload.take len.toNat
    if kind = 1 then
      if barcodeAccepted bs then
        if scheme = .mod10 ∧ mod10Passes (digitsOf bs) = false then .badCheck
        else .key (packBarcode (digitsOf bs))
      else .unreadable
    else if cardAccepted bs then .key (packCard bs)
    else .unreadable

/-- Byte Ki of a key. -/
def keyByte (key : Key) (i : Nat) : Byte := key.toList.getD i 0

/-- Nibble Nj of a key (R7). -/
def keyNibble (key : Key) (j : Nat) : Nat :=
  let b := (keyByte key (2 + j / 2)).toNat
  if j % 2 = 0 then b / 16 else b % 16

/-- The check of a packed key (R14). -/
def keyPasses (key : Key) : Bool :=
  let c := (keyByte key 1).toNat
  if keyByte key 0 = 0x01 then
    decide (6 ≤ c ∧ c ≤ 28) &&
      (List.range 28).all (fun j => if j < 28 - c then decide (keyNibble key j = 0) else decide (keyNibble key j ≤ 9))
  else if keyByte key 0 = 0x02 then
    decide (c = 4 ∨ c = 7 ∨ c = 10) &&
      (List.range 16).all (fun i => !(decide (2 ≤ i ∧ i < 16 - c)) || decide (keyByte key i = 0))
  else false

/-- Word Wi of a key, big-endian from four key bytes (R10). -/
def keyWord (key : Key) (i : Nat) : Word :=
  wordOf (keyByte key (4 * i + 3)) (keyByte key (4 * i + 2)) (keyByte key (4 * i + 1)) (keyByte key (4 * i))

/-- The folded value A (R10). -/
def keyFold (key : Key) : Word := keyWord key 0 ^^^ keyWord key 1 ^^^ keyWord key 2 ^^^ keyWord key 3

/-- The mixed value M (R11). -/
def keyMix (key : Key) : Word := keyFold key ^^^ (keyFold key >>> 16)

/-- The bucket index of a key (R12). -/
def bucketIndex (k : Nat) (key : Key) : Nat := (keyMix key).toNat % 2 ^ k

/-- The filter index of a key (R13). -/
def filterIndex (key : Key) : Nat := (keyMix key >>> 14).toNat

/-- The key field of a payload: K0 at the lowest offset (12). -/
def keyAt (bs : List Byte) (i : Nat) : Key := Vector.ofFn (fun j : Fin 16 => byteAt bs (i + j.val))

end Sys2Proof.Machine
end

