-- ==== Sys2Proof/Machine/Operands.lean ====
section
/-! DEFINITION. The operand forms: the encodings of every enumerated field (12.1), the request descriptor, its payload fields
and its result (12.4), the batch record (12.5) and the sections of the setup block (12.3, R191). -/

namespace Sys2Proof.Machine

/-! ## Encodings (12.1) -/

/-- The twelve request kinds (R168). -/
inductive ReqKind where
  | present
  | manual
  | lane
  | alert
  | load
  | revoke
  | mark
  | query
  | rebuild
  | zone
  | monitor
  | profile
deriving DecidableEq, Repr

/-- The request kind a kind code names. -/
def ReqKind.ofCode (b : Byte) : Option ReqKind :=
  match b.toNat with
  | 1 => some .present
  | 2 => some .manual
  | 3 => some .lane
  | 4 => some .alert
  | 16 => some .load
  | 17 => some .revoke
  | 18 => some .mark
  | 19 => some .query
  | 20 => some .rebuild
  | 21 => some .zone
  | 22 => some .monitor
  | 23 => some .profile
  | _ => none

/-- The ring a request kind belongs to (9.5). -/
def ReqKind.ring : ReqKind → RingId
  | .present | .manual | .lane | .alert => .gate
  | .load | .revoke | .mark | .query | .rebuild | .zone | .monitor | .profile => .list

/-- The four chain marks. -/
inductive ChainMark where
  | alone
  | first
  | middle
  | last
deriving DecidableEq, Repr

/-- The chain mark a code names. -/
def ChainMark.ofCode (b : Byte) : Option ChainMark :=
  match b.toNat with
  | 0 => some .alone
  | 1 => some .first
  | 2 => some .middle
  | 3 => some .last
  | _ => none

/-- The statuses of a returned descriptor (R171). -/
inductive Status where
  | done
  | donePending
  | deferred
  | accepted
  | busy
  | notFound
  | malformed
  | wrongRing
  | orphan
  | chainBroken
  | tableError
deriving DecidableEq, Repr

/-- The code of a status. -/
def Status.code : Status → Byte
  | .done => 1
  | .donePending => 2
  | .deferred => 3
  | .accepted => 4
  | .busy => 5
  | .notFound => 6
  | .malformed => 7
  | .wrongRing => 8
  | .orphan => 9
  | .chainBroken => 10
  | .tableError => 11

/-- The reasons of a refusal (R66). -/
inductive Reason where
  | laneDisabled
  | laneClosed
  | laneFree
  | trackerFault
  | alertActive
  | laneBusy
  | unreadable
  | badCheck
  | unknown
  | tableError
  | revoked
  | inUse
  | alreadyIn
  | notInside
  | wrongZone
  | used
  | needEscort
  | tooEarly
  | tooLate
  | zoneFull
  | noReturns
deriving DecidableEq, Repr

/-- The code of a reason, NONE being 0. -/
def Reason.code : Option Reason → Byte
  | none => 0
  | some .laneDisabled => 1
  | some .laneClosed => 2
  | some .laneFree => 3
  | some .trackerFault => 4
  | some .alertActive => 5
  | some .laneBusy => 6
  | some .unreadable => 7
  | some .badCheck => 8
  | some .unknown => 9
  | some .tableError => 10
  | some .revoked => 11
  | some .inUse => 12
  | some .alreadyIn => 13
  | some .notInside => 14
  | some .wrongZone => 15
  | some .used => 16
  | some .needEscort => 17
  | some .tooEarly => 18
  | some .tooLate => 19
  | some .zoneFull => 20
  | some .noReturns => 21

/-- The decision byte: ADMIT 1, REFUSE 2. -/
def decisionCode (reason : Option Reason) : Byte := if reason = none then 1 else 2

/-- The code of an entry state. -/
def EntryState.code : EntryState → Byte
  | .outside => 0
  | .inside => 1
  | .revoked => 2

/-- The grant of a code. -/
def Grant.ofCode (c : Nat) : Grant :=
  match c % 4 with
  | 0 => .never
  | 1 => .once
  | 2 => .returning
  | _ => .escort

/-- An entry's grant for a zone: bits 2z and 2z + 1 of the grant set. -/
def Entry.grant (e : Entry) (z : ZoneId) : Grant := Grant.ofCode (e.grants >>> (2 * z.val)).toNat

/-- The code of a pending revoke, absent being 0. -/
def RevokeAction.code : Option RevokeAction → Byte
  | none => 0
  | some .revoke => 1
  | some .restore => 2

/-- The REVOKE action a code names. -/
def RevokeAction.ofCode (b : Byte) : Option RevokeAction :=
  match b.toNat with
  | 1 => some .revoke
  | 2 => some .restore
  | _ => none

/-- The code of a requestable lane mode. -/
def BaseMode.code : BaseMode → Byte
  | .opened => 0
  | .closed => 1
  | .free => 2

/-- The requestable lane mode a code names. -/
def BaseMode.ofCode (b : Byte) : Option BaseMode :=
  match b.toNat with
  | 0 => some .opened
  | 1 => some .closed
  | 2 => some .free
  | _ => none

/-- The code of a lane mode. -/
def LaneMode.code : LaneMode → Byte
  | .base m => m.code
  | .emergency => 3

/-- The code of a pending mode or mode-after-emergency, absent being 0xFF. -/
def BaseMode.optCode : Option BaseMode → Byte
  | none => 0xFF
  | some m => m.code

/-- The sample period a code names. -/
def Period.ofCode (b : Byte) : Option Period :=
  match b.toNat with
  | 0 => some .raw
  | 1 => some .ms1
  | 2 => some .ms4
  | 3 => some .ms16
  | _ => none

/-- The milliseconds of a sample period, none for RAW (R113). -/
def Period.length : Period → Option Nat
  | .raw => none
  | .ms1 => some 1
  | .ms4 => some 4
  | .ms16 => some 16

/-- The term specification a code names. -/
def TermSpec.ofCode (b : Byte) : Option TermSpec :=
  match b.toNat with
  | 0 => some .ignore
  | 1 => some .low
  | 2 => some .high
  | 3 => some .fall
  | 4 => some .rise
  | 5 => some .either
  | _ => none

/-- The watch mode a code names. -/
def WatchMode.ofCode (b : Byte) : Option WatchMode :=
  match b.toNat with
  | 0 => some .all
  | 1 => some .any
  | 2 => some .first
  | _ => none

/-- The code of a watch mode. -/
def WatchMode.code : WatchMode → Byte
  | .all => 0
  | .any => 1
  | .first => 2

/-- The code of an alert state. -/
def AlertState.code : AlertState → Byte
  | .idle => 0
  | .pending => 1
  | .inService => 2

/-- The code of a tracker state. -/
def TrackerState.code : TrackerState → Byte
  | .rest => 0
  | .turning => 1
  | .fault => 2

/-- The monitor mode a code names. -/
def MonitorMode.ofCode (b : Byte) : Option MonitorMode :=
  match b.toNat with
  | 0 => some .level
  | 1 => some .window
  | _ => none

/-- The code of a monitor mode. -/
def MonitorMode.code : MonitorMode → Byte
  | .level => 0
  | .window => 1

/-- The monitor edge a code names. -/
def MonitorEdge.ofCode (b : Byte) : Option MonitorEdge :=
  match b.toNat with
  | 0 => some .rise
  | 1 => some .fall
  | 2 => some .both
  | _ => none

/-- The code of a monitor edge. -/
def MonitorEdge.code : MonitorEdge → Byte
  | .rise => 0
  | .fall => 1
  | .both => 2

/-- The link action a code names. -/
def LinkAction.ofCode (b : Byte) : Option LinkAction :=
  match b.toNat with
  | 0 => some .none
  | 1 => some .closeEntry
  | 2 => some .openEntry
  | 3 => some .freeExits
  | _ => Option.none

/-- The code of a link action. -/
def LinkAction.code : LinkAction → Byte
  | .none => 0
  | .closeEntry => 1
  | .openEntry => 2
  | .freeExits => 3

/-- The code of a filter state. -/
def FilterState.code : FilterState → Byte
  | .suspect => 0
  | .valid => 1
  | .rebuilding => 2

/-- The code of a failure code. -/
def FailureCode.code : FailureCode → Byte
  | .none => 0
  | .version => 1
  | .placement => 2
  | .overlap => 3
  | .geometry => 4
  | .tableTest => 5
  | .unformatted => 6
  | .abandoned => 7

/-- The code of a part state. -/
def PartState.code : PartState → Byte
  | .halted => 0
  | .settingUp => 1
  | .standby => 2
  | .running => 3

/-- The code of a record kind. -/
def RecordKind.code : RecordKind → Byte
  | .passage => 1
  | .manualPassage => 2
  | .lapsed => 3
  | .cancelled => 4
  | .forced => 5
  | .reverse => 6
  | .tally => 7
  | .mode => 8
  | .alert => 9
  | .fault => 10
  | .monitor => 11
  | .rebuildDone => 12
  | .tableFault => 13

/-- The byte of a lane or zone field, 0xFF where absent (12.1). -/
def finByte {n : Nat} : Option (Fin n) → Byte
  | none => 0xFF
  | some i => BitVec.ofNat 8 i.val

/-- The byte of a lane field that R190 gives as 0 where absent. -/
def finByteZero {n : Nat} : Option (Fin n) → Byte
  | none => 0
  | some i => BitVec.ofNat 8 i.val

/-- The lane a byte names: 0 to 7 (R168). -/
def laneOf (b : Byte) : Option LaneId := if h : b.toNat < 8 then some ⟨b.toNat, h⟩ else none

/-- The zone a byte names: 0 to 15. -/
def zoneOf (b : Byte) : Option ZoneId := if h : b.toNat < 16 then some ⟨b.toNat, h⟩ else none

/-- The monitor a byte names: 0 to 7. -/
def monitorOf (b : Byte) : Option MonitorId := if h : b.toNat < 8 then some ⟨b.toNat, h⟩ else none

/-- The profile a byte names: 0 to 31. -/
def profileOf (b : Byte) : Option ProfileId := if h : b.toNat < 32 then some ⟨b.toNat, h⟩ else none

/-- The tier a byte names: 0 to 3. -/
def tierOf (b : Byte) : Option (Fin 4) := if h : b.toNat < 4 then some ⟨b.toNat, h⟩ else none

/-- The returns left a byte names: 0 to 15. -/
def returnsOf (b : Byte) : Option (Fin 16) := if h : b.toNat < 16 then some ⟨b.toNat, h⟩ else none

/-! ## Descriptors (R162, 12.4) -/

/-- The fields of the descriptor at an offset, as the ring unit reads them at the take. -/
def readDesc (m : List Host.Cell) (a : Nat) : Desc where
  notify := flagOf (Memory.read m (a + 1))
  chain := Memory.read m (a + 2)
  kind := Memory.read m (a + 3)
  lane := Memory.read m (a + 6)
  payload := Memory.readBytes m (a + 8) 40

/-- Byte `i` of the payload. -/
def Desc.byte (d : Desc) (i : Nat) : Byte := byteAt d.payload i

/-- The request kind of a descriptor. -/
def Desc.reqKind (d : Desc) : Option ReqKind := ReqKind.ofCode d.kind

/-- What a return writes: the status, the result area (filled with zeros to 16 bytes, R172), and byte runs written over the
payload, each at its offset within the payload. -/
structure Reply where
  status : Status
  result : List Byte
  overlay : List (Nat × List Byte)
deriving DecidableEq, Repr

/-- A return whose result area is all zeros and whose payload stays as written (R172). -/
def Reply.bare (st : Status) : Reply := ⟨st, [], []⟩

/-- The seven 16-bit counts of a LOAD result (12.4). -/
def Counts.resultBytes (c : Counts) : List Byte :=
  halfBytes c.added ++ halfBytes c.replaced ++ halfBytes c.dropped ++ halfBytes c.notFound ++ halfBytes c.malformed ++
    halfBytes c.heldSkip ++ halfBytes c.full

/-- The seven 32-bit chain totals (R55). -/
def Counts.totalBytes (c : Counts) : List Byte :=
  ([c.added, c.replaced, c.dropped, c.notFound, c.malformed, c.heldSkip, c.full].map
    (fun n => wordBytes (BitVec.ofNat 32 n))).flatten

/-- A descriptor's counts added to the chain totals, saturating (R51). -/
def Counts.addTo (c t : Counts) : Counts where
  added := min Config.totalLimit (t.added + c.added)
  replaced := min Config.totalLimit (t.replaced + c.replaced)
  dropped := min Config.totalLimit (t.dropped + c.dropped)
  notFound := min Config.totalLimit (t.notFound + c.notFound)
  malformed := min Config.totalLimit (t.malformed + c.malformed)
  heldSkip := min Config.totalLimit (t.heldSkip + c.heldSkip)
  full := min Config.totalLimit (t.full + c.full)

/-! ## Batch records (R44, R45, 12.5) -/

/-- A PUT with its list fields. -/
structure PutFields where
  reset : Bool
  tier : Fin 4
  profile : ProfileId
  returns : Fin 16
  batch : Half
  grants : Word
deriving DecidableEq, Repr

/-- A well-formed batch record. -/
inductive BatchRecord where
  | put (key : Key) (fields : PutFields)
  | drop (key : Key)
deriving DecidableEq, Repr

/-- The batch record of 32 bytes, none where it is malformed (R45). -/
def parseRecord (bs : List Byte) : Option BatchRecord :=
  let key := keyAt bs 16
  if keyPasses key = false then none
  else if byteAt bs 0 = 2 then some (.drop key)
  else if byteAt bs 0 = 1 then
    match tierOf (byteAt bs 2), profileOf (byteAt bs 3), returnsOf (byteAt bs 4) with
    | some t, some p, some r => some (.put key ⟨(byteAt bs 1).getLsbD 0, t, p, r, halfAt bs 6, wordAt bs 8⟩)
    | _, _, _ => none
  else none

/-! ## The LANE payload (R131) -/

/-- The fields of a well-formed LANE request, times clamped (R92, R109). -/
structure LaneFields where
  lane : LaneId
  mode : BaseMode
  tier : Fin 4
  period : Period
  retrigger : Bool
  holdTime : Nat
  escortTime : Nat
  watch : WatchSpec
deriving DecidableEq, Repr

/-- A hold time as stored (R92). -/
def clampHold (n : Nat) : Nat := clamp 5 600 n

/-- An escort time as stored (R109). -/
def clampEscort (n : Nat) : Nat := clamp 1 120 n

/-- The watch specification of six term codes, a mode code and LOCK_ON_MATCH, none where malformed (R135). -/
def parseWatch (terms : List Byte) (mode lock : Byte) : Option WatchSpec :=
  match terms.map TermSpec.ofCode, WatchMode.ofCode mode with
  | [some t0, some t1, some t2, some t3, some t4, some t5], some m =>
    some ⟨Vector.ofFn (fun i : Fin 6 => [t0, t1, t2, t3, t4, t5].getD i.val .ignore), m, flagOf lock⟩
  | _, _ => none

/-- The LANE request of a descriptor, none where MALFORMED (R131). -/
def parseLane (d : Desc) : Option LaneFields :=
  match laneOf d.lane, BaseMode.ofCode (d.byte 0), tierOf (d.byte 1), Period.ofCode (d.byte 2),
      parseWatch [d.byte 8, d.byte 9, d.byte 10, d.byte 11, d.byte 12, d.byte 13] (d.byte 14) (d.byte 15) with
  | some l, some m, some t, some p, some w =>
    some ⟨l, m, t, p, flagOf (d.byte 3), clampHold (halfAt d.payload 4).toNat, clampEscort (halfAt d.payload 6).toNat, w⟩
  | _, _, _, _, _ => none

/-! ## The MONITOR payload (R159) -/

/-- The settings of a monitor at eight bytes and three levels, none where one of them is not a setting (R159, R191). -/
def parseMonitor (enable zone mode edge steady recordOn link : Byte) (level low high : Nat) : Option Monitor :=
  match zoneOf zone, MonitorMode.ofCode mode, MonitorEdge.ofCode edge, LinkAction.ofCode link with
  | some z, some m, some e, some l =>
    if steady.toNat ≤ 7 ∧ level ≤ Config.countLimit ∧ low ≤ Config.countLimit ∧ high ≤ Config.countLimit then
      some ⟨flagOf enable, z, m, level, low, high, e, steady.toNat, flagOf recordOn, l, false, 0⟩
    else none
  | _, _, _, _ => none

/-- The monitor number and settings of a MONITOR descriptor, none where MALFORMED (R159). -/
def parseMonitorDesc (d : Desc) : Option (MonitorId × Monitor) :=
  match monitorOf (d.byte 0),
      parseMonitor (d.byte 1) (d.byte 2) (d.byte 3) (d.byte 4) (d.byte 5) (d.byte 6) (d.byte 7)
        (wordAt d.payload 8).toNat (wordAt d.payload 12).toNat (wordAt d.payload 16).toNat with
  | some n, some m => some (n, m)
  | _, _ => none

/-! ## The ZONE payload (R149) -/

/-- The actions of a ZONE request. -/
inductive ZoneAction where
  | setOccupancy (value : Nat)
  | adjust (delta : Int)
  | setCapacity (value : Nat)
deriving DecidableEq, Repr

/-- The zone and action of a ZONE descriptor, none where MALFORMED (R149). -/
def parseZone (d : Desc) : Option (ZoneId × ZoneAction) :=
  let v := wordAt d.payload 4
  match zoneOf (d.byte 0), (d.byte 1).toNat with
  | some z, 0 => if v.toNat ≤ Config.countLimit then some (z, .setOccupancy v.toNat) else none
  | some z, 1 => if -65535 ≤ v.toInt ∧ v.toInt ≤ 65535 then some (z, .adjust v.toInt) else none
  | some z, 2 => if v.toNat ≤ Config.countLimit then some (z, .setCapacity v.toNat) else none
  | _, _ => none

/-! ## The setup block (12.3, R191) -/

/-- A byte of the setup block as it was read. -/
def SetupRun.byte (r : SetupRun) (i : Nat) : Byte := Memory.read r.block (r.base + i)

/-- A half word of the setup block. -/
def SetupRun.half (r : SetupRun) (i : Nat) : Half := halfOf (r.byte i) (r.byte (i + 1))

/-- A word of the setup block. -/
def SetupRun.word (r : SetupRun) (i : Nat) : Word :=
  wordOf (r.byte i) (r.byte (i + 1)) (r.byte (i + 2)) (r.byte (i + 3))

/-- Format is requested: any value of the table step but 1 is reuse (R191). -/
def SetupRun.format (r : SetupRun) : Bool := decide (r.byte 2 = 1)

/-- The check scheme: any value but 1 is NONE (R191). -/
def SetupRun.scheme (r : SetupRun) : CheckScheme := if r.byte 3 = 1 then .mod10 else .none

/-- The bucket exponent asked for. -/
def SetupRun.k (r : SetupRun) : Nat := (r.byte 4).toNat

/-- The overflow unit asked for. -/
def SetupRun.u (r : SetupRun) : Nat := (r.byte 5).toNat

/-- The poll interval in ms, clamped (R186). -/
def SetupRun.poll (r : SetupRun) : Nat := clamp 1 250 (r.byte 6).toNat

/-- The chain wait in 100 ms units, clamped (R186). -/
def SetupRun.chainWait (r : SetupRun) : Nat := clamp 1 255 (r.byte 7).toNat

/-- The gate ring asked for. -/
def SetupRun.gateRing (r : SetupRun) : Ring := ⟨(r.word 8).toNat, (r.byte 12).toNat⟩

/-- The list ring asked for. -/
def SetupRun.listRing (r : SetupRun) : Ring := ⟨(r.word 16).toNat, (r.byte 20).toNat⟩

/-- The journal ring asked for. -/
def SetupRun.journalRing (r : SetupRun) : Ring := ⟨(r.word 24).toNat, (r.byte 28).toNat⟩

/-- The watch specification of a lane section: an unnamed term is IGNORE and an unnamed mode ANY (R191). -/
def SetupRun.watch (r : SetupRun) (o : Nat) : WatchSpec where
  terms := Vector.ofFn (fun i : Fin 6 => (TermSpec.ofCode (r.byte (o + 12 + i.val))).getD .ignore)
  mode := (WatchMode.ofCode (r.byte (o + 18))).getD .any
  lock := flagOf (r.byte (o + 19))

/-- The offset of a lane section. -/
def laneSection (i : LaneId) : Nat := 0x40 + 32 * i.val

/-- The mode a lane section asks for: EMERGENCY and an unnamed mode are CLOSED (R191). -/
def SetupRun.laneMode (r : SetupRun) (i : LaneId) : BaseMode :=
  (BaseMode.ofCode (r.byte (laneSection i + 3))).getD .closed

/-- The settings of a lane section written into a lane (12.3, R191): a zone above 15 disables the lane, with zone 0. -/
def SetupRun.laneSettings (r : SetupRun) (i : LaneId) (l : Lane) : Lane :=
  let o := laneSection i
  { l with
    enabled := flagOf (r.byte o) && (zoneOf (r.byte (o + 2))).isSome
    direction := if r.byte (o + 1) = 1 then .exit else .entry
    zone := (zoneOf (r.byte (o + 2))).getD 0
    tier := (tierOf (r.byte (o + 4))).getD 3
    retrigger := flagOf (r.byte (o + 5))
    period := (Period.ofCode (r.byte (o + 6))).getD .ms16
    alertOn := flagOf (r.byte (o + 7))
    holdTime := clampHold (r.half (o + 8)).toNat
    escortTime := clampEscort (r.half (o + 10)).toNat
    watch := r.watch o }

/-- The zone a zone section asks for (12.3, R152). -/
def SetupRun.zone (r : SetupRun) (z : ZoneId) : Zone :=
  let o := 0x140 + 8 * z.val
  ⟨(r.half o).toNat, (r.half (o + 2)).toNat, 0⟩

/-- The settings a monitor section asks for; a section with an unnamed setting is programmed as at power-on (12.3, R191). -/
def SetupRun.monitor (r : SetupRun) (m : MonitorId) : Monitor :=
  let o := 0x1C0 + 16 * m.val
  (parseMonitor (r.byte o) (r.byte (o + 1)) (r.byte (o + 2)) (r.byte (o + 3)) (r.byte (o + 4)) (r.byte (o + 5)) (r.byte (o + 6))
    (r.half (o + 8)).toNat (r.half (o + 10)).toNat (r.half (o + 12)).toNat).getD Monitor.powerOn

/-- The window profile a profile section asks for (12.3, R87). -/
def SetupRun.profile (r : SetupRun) (p : ProfileId) : Profile :=
  let o := 0x240 + 16 * p.val
  ⟨r.word o, r.word (o + 4), (r.byte (o + 8)).getLsbD 0, (r.byte (o + 8)).getLsbD 1⟩

end Sys2Proof.Machine
end

