-- ==== Sys2Proof/Machine/Flags.lean ====
section
/-! DEFINITION. Every flag the manual computes: the notice flags and NOTICE_N (R189), the registers as the processor reads them
(R184, 12.2), the lane outputs (R127), and the flag byte of a journal record (12.5). -/

namespace Sys2Proof.Machine

/-- The seven notice flags (R189). -/
inductive NoticeFlag where
  | gateReturned
  | listReturned
  | journalWritten
  | starved
  | setupDone
  | setupFailed
  | tableFault
deriving DecidableEq, Repr

/-- The bit of a notice flag in NOTICE and NOTICE_EN (12.2). -/
def NoticeFlag.bit : NoticeFlag → Nat
  | .gateReturned => 0
  | .listReturned => 1
  | .journalWritten => 2
  | .starved => 3
  | .setupDone => 4
  | .setupFailed => 5
  | .tableFault => 6

/-- A notice flag is set. -/
def State.flagSet (s : State) (f : NoticeFlag) : Bool := s.ctl.notice.getLsbD f.bit

/-- An event sets its notice flag; a flag already set stays set (R189). -/
def notify (f : NoticeFlag) (s : State) : State :=
  s.setCtl { s.ctl with notice := s.ctl.notice ||| BitVec.ofNat 7 (2 ^ f.bit) }

/-- NOTICE_N is active (R189). DESIGN CHOICE: while RESET_N is active the line follows the flags and enables as they stood, until
RESET_N clears them (log 41). -/
def State.noticeActive (s : State) : Bool := s.ctl.master && decide (s.ctl.notice &&& s.ctl.enables ≠ 0)

/-- RELEASE of a lane is active (R127). -/
def State.release (s : State) (i : LaneId) : Bool :=
  s.running && !s.ctl.resetActive && (s.hold i).isSome

/-- A lane mode is FREE or EMERGENCY. -/
def LaneMode.isFree : LaneMode → Bool
  | .base .free => true
  | .base .opened => false
  | .base .closed => false
  | .emergency => true

/-- FREEWHEEL of a lane is active (R127). -/
def State.freewheel (s : State) (i : LaneId) : Bool :=
  s.running && !s.ctl.resetActive && (s.lane i).enabled && (s.lane i).mode.isFree

/-- The event clock as the part reads it: 0 while VALID is clear (R85). -/
def State.now (s : State) : Word := if s.clk.valid then s.clk.value else 0

/-- CONTROL as it reads (12.2). -/
def State.readControl (s : State) : Word :=
  BitVec.ofNat 32
    (s.ctl.part.code.toNat * 2 ^ 8 + bitNat s.ctl.setupComplete * 2 ^ 10 + s.ctl.failure.code.toNat * 2 ^ 12 +
      s.tab.filter.code.toNat * 2 ^ 16 + bitNat s.clk.valid * 2 ^ 18)

/-- NOTICE_EN as it reads (12.2). -/
def State.readNoticeEn (s : State) : Word :=
  s.ctl.enables.setWidth 32 ||| (if s.ctl.master then 0x80000000 else 0)

/-- A word of the exchange memory window as the processor reads it (R184): the registers below offset 0x40, and the exchange
memory above. A read changes nothing. -/
def State.readWindow (s : State) (word : BitVec 16) : Word :=
  let o := 4 * word.toNat
  if o = 0x00 then s.readControl
  else if o = 0x04 then s.ctl.notice.setWidth 32
  else if o = 0x08 then s.readNoticeEn
  else if o = 0x0C then s.ctl.setupAt
  else if o = 0x10 then s.now
  else if o < Config.windowBase then 0
  else wordOf (s.read o) (s.read (o + 1)) (s.read (o + 2)) (s.read (o + 3))

/-- The flag byte of a journal record (12.5). -/
def RecordFlags.code (f : RecordFlags) : Byte :=
  BitVec.ofNat 8
    (bitNat f.beamUnseen + 2 * bitNat f.noClock + 4 * bitNat f.clamped + 8 * bitNat f.contested + 16 * bitNat f.revokedAfter +
      32 * bitNat f.tableError + 64 * bitNat f.incomplete)

end Sys2Proof.Machine
end

