-- ==== Sys2Proof/Machine/JournalRing.lean ====
section
/-! DEFINITION. The journal unit: creating a record, the holding queue, the gap count, and writing slots (chapter 10). -/

namespace Sys2Proof.Machine

/-- The offset of slot `i` of the journal ring (R175). -/
def Ring.slotAddr (r : Ring) (i : Nat) : Nat := r.base + Config.slotBytes * i

/-- The offset of descriptor `i` of a request ring (R161). -/
def Ring.descAddr (r : Ring) (i : Nat) : Nat := r.base + Config.descBytes * i

/-- The position after `i`, modulo the ring length (R165, R177). -/
def Ring.next (r : Ring) (i : Nat) : Nat := (i + 1) % 2 ^ r.exp

/-- Bytes 1 to 31 of the slot that a record and a gap count fill (12.5); byte 5 and unnamed flag bits are 0 (R190). -/
def Record.body (r : Record) (gap : Nat) : List Byte :=
  [r.kind.code, finByte r.lane, finByte r.zone, r.flags.code, 0] ++ halfBytes gap ++ wordBytes r.seconds ++
    wordBytes r.detail ++ r.key.toList

/-- One write step of the journal unit: the head record and the gap count go into the slot, the owner mark follows as the last
write, JOURNAL_WRITTEN is set and the put position advances (R176). -/
def journalWrite (ring : Ring) (r : Record) (rest : List Record) (s : State) : State :=
  let a := ring.slotAddr s.jrn.put
  let s1 := (s.writeBytes (a + 1) (r.body s.jrn.gap)).writeBytes a [0]
  notify .journalWritten
    (s1.setJrn { s1.jrn with queue := rest, gap := 0, put := ring.next s.jrn.put, poll := none })

/-- Examinations of the put position, one after each write, until the queue is empty or the slot is not lent (R177, R178);
`n` bounds the writes. DESIGN CHOICE: the run of writes that one examination leads to is one step, with no command between two of its
writes (log 45). -/
def journalDrain : Nat → State → State
  | 0, s => s
  | n + 1, s =>
    match s.cfg.journal, s.jrn.queue with
    | some ring, r :: rest =>
      if s.read (ring.slotAddr s.jrn.put) = 1 then journalDrain n (journalWrite ring r rest s)
      else notify .starved (s.setJrn { s.jrn with poll := some s.cfg.poll })
    | _, _ => s

/-- An examination of the put position, which the journal unit makes only while RUNNING and with a record waiting (R177). -/
def journalExamine (s : State) : State :=
  if s.running then journalDrain (s.jrn.queue.length + 1) s else s

/-- A created record is offered to the holding queue: it joins, and is examined for at once where the queue was empty, or is
discarded and counted (R177, R179, R180). -/
def emit (r : Record) (s : State) : State :=
  if s.jrn.queue.length < Config.queueRecords then
    let s1 := s.setJrn { s.jrn with queue := s.jrn.queue ++ [r] }
    if s.jrn.queue = [] then journalExamine s1 else s1
  else s.setJrn { s.jrn with gap := saturate Config.countLimit s.jrn.gap }

/-- A record created now: its event seconds are the clock's, and NO_CLOCK is set while the clock is not VALID (R85, R182). -/
def State.record (s : State) (kind : RecordKind) (lane : Option LaneId) (zone : Option ZoneId) (flags : RecordFlags)
    (detail : Word) (key : Key) : Record :=
  ⟨kind, lane, zone, { flags with noClock := !s.clk.valid }, s.now, detail, key⟩

/-- A record of a lane and its zone that names no credential. -/
def emitLane (kind : RecordKind) (i : LaneId) (flags : RecordFlags) (detail : Word) (s : State) : State :=
  emit (s.record kind (some i) (some (s.lane i).zone) flags detail zeroKey) s

/-- A detail of four bytes D0 to D3. -/
def detail4 (d0 d1 d2 d3 : Byte) : Word := wordOf d0 d1 d2 d3

/-- A detail with a count at D2–D3. -/
def detailHalf (d0 d1 : Byte) (n : Nat) : Word := wordOf d0 d1 (BitVec.ofNat 8 n) (BitVec.ofNat 8 (n / 256))

/-- The JOURNAL_WRITE step that RESET_N cuts part-way: the chosen bytes of the slot at the put position are written, but not its
owner mark, which would be the last (R176). -/
def journalCut (cut : BitVec 32) (s : State) : State :=
  match s.cfg.journal, s.jrn.queue with
  | some ring, r :: _ =>
    let a := ring.slotAddr s.jrn.put
    if s.running ∧ s.read a = 1 then
      ((List.range 31).filter (fun i => cut.getLsbD (i + 1))).foldl
        (fun t i => t.writeBytes (a + 1 + i) [byteAt (r.body s.jrn.gap) i]) s
    else s
  | _, _ => s

end Sys2Proof.Machine
end

