-- ==== Sys2Proof/Machine/Watch.lean ====
section
/-! DEFINITION. The watch units: terms, evaluation, the alert and the lock (chapter 7). -/

namespace Sys2Proof.Machine

/-- The value of a term by its number (R134). -/
def Terms.val (t : Terms) : Fin 6 → Bool
  | 0 => t.armA
  | 1 => t.armB
  | 2 => t.beam
  | 3 => t.fire
  | 4 => t.hold
  | 5 => t.fault

/-- The terms in ascending number. -/
def termOrder : List (Fin 6) := [0, 1, 2, 3, 4, 5]

/-- A set of terms as a byte, bit t for term t (12.5). DESIGN CHOICE: bits 6 and 7, which name no term, are 0 (log 40). -/
def termSet (ts : List (Fin 6)) : Byte :=
  BitVec.ofNat 8 ((termOrder.map (fun t => bitNat (decide (t ∈ ts)) * 2 ^ t.val)).sum)

/-- The current term values of a lane (R134). -/
def State.terms (s : State) (i : LaneId) : Terms :=
  let l := s.lane i
  ⟨l.level.armA, l.level.armB, l.level.beam, l.level.fire, (s.hold i).isSome, decide (l.tracker.state = .fault)⟩

/-- A term is satisfied before a watch event (R137). -/
def TermSpec.before : TermSpec → Bool → Bool
  | .low, p => !p
  | .high, p => p
  | .ignore, _ => false
  | .fall, _ => false
  | .rise, _ => false
  | .either, _ => false

/-- A term is satisfied after a watch event that takes it from `p` to `n` (R137). -/
def TermSpec.after : TermSpec → Bool → Bool → Bool
  | .low, _, n => !n
  | .high, _, n => n
  | .fall, p, n => p && !n
  | .rise, p, n => !p && n
  | .either, p, n => p != n
  | .ignore, _, _ => false

/-- A term specification is an edge specification (R135). -/
def TermSpec.edge : TermSpec → Bool
  | .fall => true
  | .rise => true
  | .either => true
  | .ignore => false
  | .low => false
  | .high => false

/-- The terms that are not IGNORE, in ascending number. -/
def WatchSpec.watched (w : WatchSpec) : List (Fin 6) := termOrder.filter (fun t => decide (w.terms.get t ≠ .ignore))

/-- The newly satisfied terms of a watch event (R137). -/
def WatchSpec.newly (w : WatchSpec) (p n : Terms) : List (Fin 6) :=
  w.watched.filter (fun t => (w.terms.get t).after (p.val t) (n.val t) && !(w.terms.get t).before (p.val t))

/-- A watch event from the term values `p` to `n` is a match (R138). -/
def WatchSpec.matched (w : WatchSpec) (p n : Terms) : Bool :=
  match w.mode with
  | .all =>
    !w.watched.isEmpty && w.watched.all (fun t => (w.terms.get t).after (p.val t) (n.val t)) &&
      (w.watched.any (fun t => (w.terms.get t).edge) || w.watched.any (fun t => !(w.terms.get t).before (p.val t)))
  | .any => !(w.newly p n).isEmpty
  | .first => !(w.newly p n).isEmpty

/-- The third detail byte of an ALERT record: the set of newly satisfied terms, or in FIRST mode the lowest of them, none being
0xFF (R138, R140). -/
def WatchSpec.reported (w : WatchSpec) (ts : List (Fin 6)) : Byte :=
  match w.mode with
  | .first => finByte ts.head?
  | .all => termSet ts
  | .any => termSet ts

/-- A match (cause 0) or a RAISE (cause 1) reaches the alert (R139, R140). -/
def reachAlert (i : LaneId) (cause : Byte) (ts : List (Fin 6)) (s : State) : State :=
  let l := s.lane i
  if l.alertOn = false then s
  else if l.alert = .idle then
    emitLane .alert i {}
      (detail4 cause l.watch.mode.code (l.watch.reported ts) (termSet (termOrder.filter (s.terms i).val)))
      (s.setLane i { l with alert := .pending })
  else s.setLane i { l with overrun := true }

/-- The current term values become the previous ones, with no evaluation (R136, R144). -/
def takeTerms (i : LaneId) (s : State) : State := s.setLane i { s.lane i with prev := s.terms i }

/-- A watch event: the new term values are compared with the previous ones, and a match reaches the alert; while SETTING_UP
the values are taken and nothing is evaluated (R136). -/
def watchEvent (i : LaneId) (s : State) : State :=
  let l := s.lane i
  let n := s.terms i
  if s.ctl.part ≠ .settingUp ∧ l.watch.matched l.prev n = true then
    reachAlert i 0 (l.watch.newly l.prev n) (takeTerms i s)
  else takeTerms i s

/-- A lane is locked (R69, R141). -/
def Lane.locked (l : Lane) : Bool := l.watch.lock && decide (l.alert ≠ .idle)

end Sys2Proof.Machine
end

