-- ==== Sys2Proof/Machine/Modes.lean ====
section
/-! DEFINITION. Lane modes: the mode changes, their TALLY and MODE records, and the pending mode (R123, R126, R130, R106). -/

namespace Sys2Proof.Machine

/-- The cause of a MODE record (R126). -/
inductive ModeCause where
  | fire
  | fireClear
  | request
  | link (monitor : MonitorId)
  | pending
deriving DecidableEq, Repr

/-- The cause code of a MODE record (12.1). -/
def ModeCause.code : ModeCause → Byte
  | .fire => 0
  | .fireClear => 1
  | .request => 2
  | .link _ => 3
  | .pending => 4

/-- The monitor of a MODE record, none but for a link. -/
def ModeCause.monitor : ModeCause → Option MonitorId
  | .link m => some m
  | .fire => none
  | .fireClear => none
  | .request => none
  | .pending => none

/-- A TALLY record of the lane's tally, which returns to 0 (R123): cause 0 is COUNT and cause 1 MODE. DESIGN CHOICE: the detail
bytes that 12.5 does not name are 0 (log 40). -/
def reportTally (i : LaneId) (cause : Byte) (s : State) : State :=
  emitLane .tally i {} (detail4 (BitVec.ofNat 8 (s.lane i).tally) cause 0 0) (s.setLane i { s.lane i with tally := 0 })

/-- The tally is reported where the mode goes from FREE or EMERGENCY to OPEN or CLOSED with a tally above 0 (R123). -/
def reportTallyOnLeave (i : LaneId) (m : LaneMode) (s : State) : State :=
  if (s.lane i).mode.isFree = true ∧ m.isFree = false ∧ 0 < (s.lane i).tally then reportTally i 1 s else s

/-- A lane takes a mode, with its TALLY record and, unless the change makes none (R126), its MODE record. A change to the mode
in force is no change. DEDUCED: the detail byte of the monitor reads 0xFF where there is none (log 42). -/
def takeMode (i : LaneId) (m : LaneMode) (cause : ModeCause) (recorded : Bool) (s : State) : State :=
  let before := (s.lane i).mode
  if before = m then s
  else
    let s1 := reportTallyOnLeave i m s
    let s2 := s1.setLane i { s1.lane i with mode := m }
    if recorded then emitLane .mode i {} (detail4 before.code m.code cause.code (finByte cause.monitor)) s2 else s2

/-- The mode change of a LANE request or a monitor link is deferred: the lane is not in EMERGENCY and has a hold (R130). -/
def State.defers (s : State) (i : LaneId) : Bool :=
  decide ((s.lane i).mode ≠ .emergency) && (s.hold i).isSome

/-- A mode change from a LANE request or a monitor link (R130). -/
def changeMode (i : LaneId) (m : BaseMode) (cause : ModeCause) (s : State) : State :=
  let l := s.lane i
  if l.mode = .emergency then s.setLane i { l with afterEmergency := some m, pendingMode := none }
  else if (s.hold i).isSome then s.setLane i { l with pendingMode := some m }
  else takeMode i (.base m) cause true s

/-- A hold is removed from its place and the lane's pending mode is applied; `recorded` is false at a removal by STOP, which
makes no MODE record (R105, R106). -/
def removeHold (i : LaneId) (recorded : Bool) (s : State) : State :=
  let s1 := s.setHold i none
  let l := s1.lane i
  match l.pendingMode with
  | none => s1
  | some m =>
    let s2 := s1.setLane i { l with pendingMode := none }
    if l.mode = .emergency then s2.setLane i { s2.lane i with afterEmergency := some m }
    else takeMode i (.base m) .pending recorded s2

end Sys2Proof.Machine
end

