-- ==== Sys2Proof/Machine/Zones.lean ====
section
/-! DEFINITION. The zone unit: occupancy changes, monitors and their link actions (chapter 8). -/

namespace Sys2Proof.Machine

/-- The raw result of a monitor for an occupancy (R154). -/
def Monitor.raw (m : Monitor) (occupancy : Nat) : Bool :=
  match m.mode with
  | .level => decide (m.level < occupancy)
  | .window => decide (m.low < occupancy ∧ occupancy < m.high)

/-- An evaluation of an enabled monitor (R155). -/
def Monitor.evaluate (m : Monitor) (occupancy : Nat) : Monitor :=
  if m.raw occupancy = m.output then { m with count := 0 }
  else if m.count < m.steadiness then { m with count := m.count + 1 }
  else { m with output := m.raw occupancy, count := 0 }

/-- A change of a monitor's output to `output` is an event (R156). -/
def Monitor.selects (m : Monitor) (output : Bool) : Bool :=
  match m.edge with
  | .rise => output
  | .fall => !output
  | .both => true

/-- A monitor's output recomputed after its settings are written (R159). -/
def Monitor.recompute (m : Monitor) (occupancy : Nat) : Monitor :=
  { m with output := m.enable && m.raw occupancy, count := 0 }

/-- The direction of the lanes a link action names and the mode it delivers (R157). -/
def LinkAction.target : LinkAction → Option (Direction × BaseMode)
  | .none => Option.none
  | .closeEntry => some (.entry, .closed)
  | .openEntry => some (.entry, .opened)
  | .freeExits => some (.exit, .free)

/-- A link action delivers its mode to each lane it names, in ascending lane number (R157). -/
def deliverLink (n : MonitorId) (link : LinkAction) (z : ZoneId) (s : State) : State :=
  match link.target with
  | none => s
  | some (d, m) =>
    laneOrder.foldl
      (fun t i => if (t.lane i).zone = z ∧ (t.lane i).direction = d then changeMode i m (.link n) t else t) s

/-- A monitor event: its MONITOR record where enabled, then its link action (R156). -/
def monitorEvent (n : MonitorId) (rising : Bool) (s : State) : State :=
  let m := s.monitor n
  let s1 :=
    if m.recordOn then
      emit
        (s.record .monitor none (some m.zone) {}
          (detailHalf (BitVec.ofNat 8 n.val) (if rising then 0 else 1) (s.zone m.zone).occupancy) zeroKey) s
    else s
  deliverLink n m.link m.zone s1

/-- An enabled monitor of the zone is evaluated, with its event completed (R155, R156). -/
def evaluateMonitor (z : ZoneId) (s : State) (n : MonitorId) : State :=
  let m := s.monitor n
  if m.enable = true ∧ m.zone = z then
    let m1 := m.evaluate (s.zone z).occupancy
    let s1 := s.setMonitor n m1
    if m1.output ≠ m.output ∧ m.selects m1.output = true then monitorEvent n m1.output s1 else s1
  else s

/-- An occupancy change, taken whole: the new occupancy is stored, and where it differs the zone's monitors are evaluated in
ascending number (R147, R156). -/
def setOccupancy (z : ZoneId) (v : Nat) (s : State) : State :=
  if (s.zone z).occupancy = v then s
  else monitorOrder.foldl (evaluateMonitor z) (s.setZone z { s.zone z with occupancy := v })

/-- A person enters the zone (`up`), saturating, or leaves it, clamped (R147). -/
def movePerson (z : ZoneId) (up : Bool) (s : State) : State :=
  setOccupancy z
    (if up then saturate Config.countLimit (s.zone z).occupancy else (s.zone z).occupancy - 1) s

/-- A move of one person could not be made in full (R147). -/
def State.moveClamped (s : State) (z : ZoneId) (up : Bool) : Bool :=
  if up then decide (Config.countLimit ≤ (s.zone z).occupancy) else decide ((s.zone z).occupancy = 0)

/-- A forward passage in a direction enters the zone from an ENTRY lane and leaves it by an EXIT lane (R147). -/
def Direction.enters : Direction → Bool
  | .entry => true
  | .exit => false

/-- The zone's reserved count falls by 1 at the end of an ENTRY hold (R148). -/
def releaseReserved (h : Hold) (s : State) : State :=
  match h.direction with
  | .entry => s.setZone h.zone { s.zone h.zone with reserved := (s.zone h.zone).reserved - 1 }
  | .exit => s

/-- The zone's reserved count rises by 1 at the creation of an ENTRY hold (R148). -/
def takeReserved (h : Hold) (s : State) : State :=
  match h.direction with
  | .entry => s.setZone h.zone { s.zone h.zone with reserved := (s.zone h.zone).reserved + 1 }
  | .exit => s

end Sys2Proof.Machine
end

