-- ==== Sys2Proof/Machine/Holds.lean ====
section
/-! DEFINITION. The hold table: creating a hold, its release timer, the events that end it, its zone effects, its record and its
removal (chapter 5). -/

namespace Sys2Proof.Machine

/-- A hold is STANDING. -/
def Hold.standing (h : Hold) : Bool := decide (h.phase = .standing)

/-- The STANDING hold of a lane, if it has one. -/
def State.standingHold (s : State) (i : LaneId) : Option Hold := (s.hold i).filter Hold.standing

/-- The key a hold reserves: none for a MANUAL hold (R90). -/
def Hold.key (h : Hold) : Option Key :=
  match h.kind with
  | .credential k _ _ => some k
  | .manual => none

/-- The key field of the record that ends a hold: all zero for a MANUAL hold (R183). -/
def Hold.recordKey (h : Hold) : Key := h.key.getD zeroKey

/-- The lane whose CREDENTIAL hold carries the key (R42). -/
def State.heldAt (s : State) (key : Key) : Option LaneId :=
  laneOrder.find? (fun i => decide ((s.hold i).bind Hold.key = some key))

/-- The hold record at its creation at a lane (R78, R107). -/
def State.newHold (s : State) (i : LaneId) (kind : HoldKind) : Hold :=
  let l := s.lane i
  { kind := kind, direction := l.direction, zone := l.zone, phase := .standing, remaining := l.holdTime, ms := 0,
    fullTime := l.holdTime, reloads := 0, startedAt := s.now, beamSeen := false, mark := none, revoke := none }

/-- A hold is created at a lane: its record, and the reservation of an ENTRY hold (R79, R107). RELEASE follows (R127). -/
def createHold (i : LaneId) (kind : HoldKind) (s : State) : State :=
  let h := s.newHold i kind
  takeReserved h (s.setHold i (some h))

/-- A rise of BEAM reaches the lane's STANDING hold (R94). -/
def beamRise (i : LaneId) (s : State) : State :=
  match s.standingHold i with
  | none => s
  | some h =>
    if (s.lane i).retrigger = true ∧ h.reloads < Config.reloadLimit then
      s.setHold i (some { h with beamSeen := true, remaining := h.fullTime, ms := 0, reloads := h.reloads + 1 })
    else s.setHold i (some { h with beamSeen := true })

/-- The countdown of a STANDING hold is suspended and the part of a unit that had passed is discarded (R93). -/
def suspendTimer (i : LaneId) (s : State) : State :=
  match s.standingHold i with
  | none => s
  | some h => s.setHold i (some { h with ms := 0 })

/-- What a closing operation found and did, for the record of the outcome (R98, R104). -/
structure Closing where
  count : Nat
  returns : Nat
  cluster : Option Byte
  contested : Bool
  revokedAfter : Bool
  tableError : Bool
deriving DecidableEq, Repr

/-- A hold closed with no closing operation. -/
def Closing.plain : Closing := ⟨0, 0, none, false, false, false⟩

/-- The record of a hold's outcome, made after its zone effects (R95, R98, R99, R100, R101, R108); `clamped` says that the
occupancy change could not be made in full. DESIGN CHOICE: the detail bytes that 12.5 does not name are 0 (log 40). -/
def outcomeRecord (i : LaneId) (h : Hold) (o : HoldOutcome) (c : Closing) (clamped : Bool) (s : State) : Record :=
  let after : RecordFlags := { revokedAfter := c.revokedAfter, tableError := c.tableError }
  let occ := (s.zone h.zone).occupancy
  match o with
  | .commit =>
    match h.kind with
    | .credential _ _ tier =>
      s.record .passage (some i) (some h.zone)
        { after with beamUnseen := !h.beamSeen, clamped := clamped, contested := c.contested }
        (detail4 (BitVec.ofNat 8 c.count) (BitVec.ofNat 8 c.returns) (BitVec.ofNat 8 tier.val) (c.cluster.getD 0xFF))
        h.recordKey
    | .manual =>
      s.record .manualPassage (some i) (some h.zone) { beamUnseen := !h.beamSeen, clamped := clamped }
        (wordOf (BitVec.ofNat 8 occ) (BitVec.ofNat 8 (occ / 256)) 0 0) zeroKey
  | .lapsed => s.record .lapsed (some i) (some h.zone) after h.startedAt h.recordKey
  | .notPassed =>
    s.record .cancelled (some i) (some h.zone) { after with clamped := clamped } (detailHalf 0 0 occ) h.recordKey
  | .emergency => s.record .cancelled (some i) (some h.zone) after (detailHalf 1 0 occ) h.recordKey
  | .fault => s.record .cancelled (some i) (some h.zone) after (detailHalf 2 0 occ) h.recordKey

/-- The occupancy change of an outcome: none, or whether a person enters the zone (R98, R99, R100, R108). -/
def HoldOutcome.moves (o : HoldOutcome) (d : Direction) : Option Bool :=
  match o with
  | .commit => some d.enters
  | .notPassed => some (!d.enters)
  | .lapsed => none
  | .emergency => none
  | .fault => none

/-- The zone effects of an outcome, its record, and the removal of the hold with its pending mode (R97, R106). -/
def finishHold (i : LaneId) (h : Hold) (o : HoldOutcome) (c : Closing) (s : State) : State :=
  let s1 := releaseReserved h s
  match o.moves h.direction with
  | none => removeHold i true (emit (outcomeRecord i h o c false s1) s1)
  | some up =>
    let s2 := movePerson h.zone up s1
    removeHold i true (emit (outcomeRecord i h o c (s1.moveClamped h.zone up) s2) s2)

/-- A hold with an outcome needs a closing operation at the table port (R97). -/
def Hold.needsClosing (h : Hold) (o : HoldOutcome) : Bool :=
  match h.kind with
  | .manual => false
  | .credential _ _ _ => decide (o = .commit) || h.mark.isSome || h.revoke.isSome

/-- A STANDING hold meets its ending event: it becomes CLOSING, and is closed at once or asks the gate side of the table port
for its closing operation (R95, R96, R97, R100, R101). Without a STANDING hold nothing happens. -/
def endHold (i : LaneId) (o : HoldOutcome) (s : State) : State :=
  match s.standingHold i with
  | none => s
  | some h =>
    let h1 := { h with phase := .closing o }
    let s1 := s.setHold i (some h1)
    if h.needsClosing o then s1.setTab { s1.tab with port := s1.tab.port ++ [.closing i] }
    else finishHold i h1 o Closing.plain s1

end Sys2Proof.Machine
end

