-- ==== Sys2Proof/Machine/LaneUnits.lean ====
section
/-! DEFINITION. The lane units: conditioning, the passage tracker, anonymous passages, the fire line, and one lane event in its
order (chapter 6). -/

namespace Sys2Proof.Machine

/-! ## Anonymous passages (R122 to R124) -/

/-- An anonymous passage at the lane is accounted as free (R122). -/
def State.passesFree (s : State) (i : LaneId) : Bool :=
  s.running && (s.lane i).enabled && (s.lane i).mode.isFree

/-- A FORCED or REVERSE record: the lane mode and the zone's occupancy as they stand when it is made (R122, R124, log 19).
DESIGN CHOICE: the detail byte that 12.5 does not name is 0 (log 40). -/
def passageRecord (kind : RecordKind) (i : LaneId) (clamped : Bool) (s : State) : State :=
  emitLane kind i { clamped := clamped }
    (detailHalf (s.lane i).mode.code 0 (s.zone (s.lane i).zone).occupancy) s

/-- The tally rises by 1 and is reported at 50 (R123). -/
def countFree (i : LaneId) (s : State) : State :=
  let s1 := s.setLane i { s.lane i with tally := (s.lane i).tally + 1 }
  if Config.tallyReport ≤ (s1.lane i).tally then reportTally i 0 s1 else s1

/-- A turn completed with no STANDING hold to receive it (R121 to R124). -/
def anonymousPassage (i : LaneId) (forward : Bool) (s : State) : State :=
  let l := s.lane i
  let up := if forward then l.direction.enters else !l.direction.enters
  if s.ctl.part = .settingUp then s
  else if forward then
    if s.passesFree i then countFree i (movePerson l.zone up s)
    else passageRecord .forced i (s.moveClamped l.zone up) (movePerson l.zone up s)
  else passageRecord .reverse i (s.moveClamped l.zone up) (movePerson l.zone up s)

/-- A completed turn: it ends the lane's STANDING hold, or is an anonymous passage (R96, R100, R118). -/
def completeTurn (i : LaneId) (forward : Bool) (s : State) : State :=
  if (s.standingHold i).isSome then endHold i (if forward then .commit else .notPassed) s
  else anonymousPassage i forward s

/-! ## The passage tracker (R116 to R121) -/

/-- The position of a pair of arm levels (R116). -/
def armPosition (l : Levels) : Fin 4 :=
  match l.armA, l.armB with
  | false, false => 0
  | true, false => 1
  | true, true => 2
  | false, true => 3

/-- The state with another tracker at a lane. -/
def setTracker (i : LaneId) (t : Tracker) (s : State) : State := s.setLane i { s.lane i with tracker := t }

/-- A jump puts the tracker in FAULT, with its FAULT record, and then cancels a STANDING hold (R119). -/
def trackerJump (i : LaneId) (p : Fin 4) (s : State) : State :=
  let t := (s.lane i).tracker
  let s1 := setTracker i ⟨.fault, p, 0⟩ s
  let turn : Byte := if t.state = .turning then BitVec.ofInt 8 t.turn else 0
  endHold i .fault
    (emitLane .fault i {} (detail4 (BitVec.ofNat 8 t.position.val) (BitVec.ofNat 8 p.val) t.state.code turn) s1)

/-- A step of +1 or −1 to position `p` (R117, R118). -/
def trackerStep (i : LaneId) (p : Fin 4) (up : Bool) (s : State) : State :=
  let t := (s.lane i).tracker
  let turn := if up then t.turn + 1 else t.turn - 1
  if p = 0 then
    let s1 := setTracker i Tracker.atRest s
    if turn = 4 then completeTurn i true s1
    else if turn = -4 then completeTurn i false s1
    else s1
  else
    let s1 := setTracker i ⟨.turning, p, turn⟩ s
    if t.state = .rest then suspendTimer i s1 else s1

/-- A tracker event: the position goes to `p` (R117, R119, R120). -/
def trackerMove (i : LaneId) (p : Fin 4) (s : State) : State :=
  let t := (s.lane i).tracker
  if t.position = p then s
  else if t.state = .fault then
    setTracker i (if p = 0 then Tracker.atRest else ⟨.fault, p, 0⟩) s
  else if p = t.position + 1 then trackerStep i p true s
  else if p = t.position + 3 then trackerStep i p false s
  else trackerJump i p s

/-! ## The fire line (R128, R129) -/

/-- A rise of FIRE: EMERGENCY, the mode-after-emergency, and then the end of a STANDING hold (R128). -/
def fireRise (i : LaneId) (s : State) : State :=
  match (s.lane i).mode with
  | .emergency => s
  | .base m =>
    endHold i .emergency
      (takeMode i .emergency .fire true (s.setLane i { s.lane i with afterEmergency := some m }))

/-- A fall of FIRE: the mode-after-emergency, which a lane in EMERGENCY has (R125), is restored (R129). -/
def fireFall (i : LaneId) (s : State) : State :=
  match (s.lane i).mode, (s.lane i).afterEmergency with
  | .emergency, some m => takeMode i (.base m) .fireClear true (s.setLane i { s.lane i with afterEmergency := none })
  | _, _ => s

/-! ## One lane event (R115) -/

/-- Conditioned levels change: BEAM, tracker, FIRE and then the watch, in that order (R115). -/
def levelsChange (i : LaneId) (new : Levels) (s : State) : State :=
  let old := (s.lane i).level
  let s0 := s.setLane i { s.lane i with level := new }
  let s1 := if new.beam && !old.beam then beamRise i s0 else s0
  let s2 :=
    if (s1.lane i).enabled = true ∧ (old.armA ≠ new.armA ∨ old.armB ≠ new.armB) then trackerMove i (armPosition new) s1 else s1
  let s3 :=
    if new.fire && !old.fire then fireRise i s2
    else if !new.fire && old.fire then fireFall i s2
    else s2
  watchEvent i s3

/-- Conditioned levels that differ from the levels in force are one lane event; levels that agree are none (R115). -/
def deliverLevels (i : LaneId) (new : Levels) (s : State) : State :=
  if (s.lane i).level = new then s else levelsChange i new s

/-! ## Conditioning (R113, R114) -/

/-- One input at one sample: its conditioned level, agreement count and sampled level give the new level and count (R113). -/
def conditionInput (level : Bool) (count : Nat) (sampled : Bool) : Bool × Nat :=
  if sampled = level then (level, 0)
  else if 3 ≤ count + 1 then (sampled, 0)
  else (level, count + 1)

/-- A sample of the four inputs of a lane, taken together (R113). -/
def takeSample (i : LaneId) (s : State) : State :=
  let l := s.lane i
  let a := conditionInput l.level.armA l.agree.armA l.pins.armA
  let b := conditionInput l.level.armB l.agree.armB l.pins.armB
  let c := conditionInput l.level.beam l.agree.beam l.pins.beam
  let d := conditionInput l.level.fire l.agree.fire l.pins.fire
  deliverLevels i ⟨a.1, b.1, c.1, d.1⟩ (s.setLane i { l with agree := ⟨a.2, b.2, c.2, d.2⟩, sampleMs := 0 })

/-- A sample period is written: the agreement counts restart, and with RAW every level that differs from its pin changes at
once, as one lane event (R114). -/
def restartConditioning (i : LaneId) (p : Period) (s : State) : State :=
  let s1 := s.setLane i { s.lane i with period := p, agree := Agreement.zero, sampleMs := 0 }
  if p = .raw then deliverLevels i (s1.lane i).pins s1 else s1

end Sys2Proof.Machine
end

