-- ==== Sys2Proof/Machine/Table.lean ====
section
/-! DEFINITION. The ticket table: reading its words with their check, lookup, insert, drop, format and reuse (chapter 2). -/

namespace Sys2Proof.Machine

/-- A word of the table memory fails its check (R26). -/
def TableMemory.fails (t : TableMemory) (w : TableWord) : Bool := decide (w ∈ t.damaged)

/-- A bucket of the table. -/
def TableMemory.bucket (t : TableMemory) (b : Nat) : Bucket := sparseGet Bucket.empty t.buckets b

/-- The table memory with another bucket. -/
def TableMemory.setBucket (t : TableMemory) (b : Nat) (x : Bucket) : TableMemory :=
  { t with buckets := sparsePut Bucket.empty t.buckets b x }

/-- The status of an overflow place (R19), read from the withdrawn places and the free list. -/
inductive PlaceStatus where
  | free
  | inUse
  | withdrawn
deriving DecidableEq, Repr

/-- The overflow map (R19). -/
def TableMemory.placeStatus (t : TableMemory) (i : Nat) : PlaceStatus :=
  if i ∈ t.withdrawn then .withdrawn else if i ∈ t.free then .free else .inUse

/-- What a lookup finds (R22), or that a read failed its check (R26). -/
inductive Lookup where
  | found (location : Location) (entry : Entry)
  | absent
  | failed
deriving DecidableEq, Repr

/-- The main slots in order. -/
def slotOrder : List (Fin 4) := [0, 1, 2, 3]

/-- Main slots read in order, up to the first that holds the key; none where they hold it not (R22). -/
def scanSlots (t : TableMemory) (b : Nat) (key : Key) : List (Fin 4) → Option Lookup
  | [] => none
  | i :: is =>
    if t.fails (.slot b i) then some .failed
    else
      match (t.bucket b).slots.get i with
      | some e => if e.key = key then some (.found (.main b i) e) else scanSlots t b key is
      | none => scanSlots t b key is

/-- Chain entries read link by link, up to the first that holds the key (R22). -/
def scanChain (t : TableMemory) (b : Nat) (key : Key) : List (Nat × Entry) → Lookup
  | [] => .absent
  | (i, e) :: c =>
    if t.fails (.place i) then .failed
    else if e.key = key then .found (.overflow b i) e
    else scanChain t b key c

/-- A lookup of a key in its bucket (R22). -/
def TableMemory.lookup (t : TableMemory) (b : Nat) (key : Key) : Lookup :=
  match scanSlots t b key slotOrder with
  | some r => r
  | none => if t.fails (.head b) then .failed else scanChain t b key (t.bucket b).chain

/-- The entry at a location. -/
def TableMemory.entryAt (t : TableMemory) : Location → Option Entry
  | .main b i => (t.bucket b).slots.get i
  | .overflow b p => ((t.bucket b).chain.find? (fun c => decide (c.1 = p))).map Prod.snd

/-- The word a location stands in. -/
def Location.word : Location → TableWord
  | .main b i => .slot b i
  | .overflow _ p => .place p

/-- The table memory with an entry written in place at a location (R24). -/
def TableMemory.writeEntry (t : TableMemory) (l : Location) (e : Entry) : TableMemory :=
  match l with
  | .main b i => t.setBucket b { t.bucket b with slots := (t.bucket b).slots.set i.val (some e) i.isLt }
  | .overflow b p =>
    t.setBucket b { t.bucket b with chain := (t.bucket b).chain.map (fun c => if c.1 = p then (p, e) else c) }

/-- The first empty main slot of a bucket (R23). -/
def Bucket.emptySlot (x : Bucket) : Option (Fin 4) := slotOrder.find? (fun i => (x.slots.get i).isNone)

/-- What a table change did. -/
inductive TableChange where
  | written (t : TableMemory)
  | full
  | failed
deriving DecidableEq, Repr

/-- An insert of an entry whose key the lookup of the same operation found absent (R23, R20). -/
def TableMemory.insert (t : TableMemory) (b : Nat) (e : Entry) : TableChange :=
  let x := t.bucket b
  match x.emptySlot with
  | some i => .written (t.setBucket b { x with slots := x.slots.set i.val (some e) i.isLt })
  | none =>
    if t.fails .freeHead then .failed
    else
      match t.free with
      | [] => .full
      | p :: rest =>
        if t.fails (.place p) then .failed
        else .written ({ t with free := rest }.setBucket b { x with chain := x.chain ++ [(p, e)] })

/-- A drop of a found entry (R25). -/
def TableMemory.drop (t : TableMemory) : Location → TableChange
  | .main b i => .written (t.setBucket b { t.bucket b with slots := (t.bucket b).slots.set i.val none i.isLt })
  | .overflow b p =>
    if t.fails .freeHead then .failed
    else
      .written ({ t with free := p :: t.free }.setBucket b
        { t.bucket b with chain := (t.bucket b).chain.filter (fun c => decide (c.1 ≠ p)) })

/-- The entries of a bucket. -/
def Bucket.entries (x : Bucket) : List Entry := x.slots.toList.filterMap id ++ x.chain.map Prod.snd

/-- The words a walk of a bucket reads (R37). -/
def TableMemory.walkWords (t : TableMemory) (b : Nat) : List TableWord :=
  slotOrder.map (TableWord.slot b) ++ [.head b] ++ (t.bucket b).chain.map (fun c => TableWord.place c.1)

/-! ## The table unit within the state -/

/-- The state with another table memory. -/
def State.setMemory (s : State) (t : TableMemory) : State := s.setTab { s.tab with memory := t }

/-- The words a command names fail their check from now on (R26, log 11). -/
def damage (bad : List TableWord) (s : State) : State :=
  s.setMemory { s.tab.memory with damaged := addWords bad s.tab.memory.damaged }

/-- The bucket index of a key under the geometry in force (R12). -/
def State.bucketOf (s : State) (key : Key) : Nat := bucketIndex s.tab.k key

/-- A lookup of a key in the table (R22). -/
def State.lookup (s : State) (key : Key) : Lookup := s.tab.memory.lookup (s.bucketOf key) key

/-- The operation a TABLE_FAULT record names (12.1). -/
inductive TableOp where
  | admission
  | closing
  | batchRecord
  | listRequest
  | walk
deriving DecidableEq, Repr

/-- The code of the operation of a TABLE_FAULT record. -/
def TableOp.code : TableOp → Byte
  | .admission => 0
  | .closing => 1
  | .batchRecord => 2
  | .listRequest => 3
  | .walk => 4

/-- A read that fails its check: the TABLE_FAULT notice flag and record (R26). -/
def tableFault (op : TableOp) (bucket : Nat) (lane : Option LaneId) (zone : Option ZoneId) (key : Key) (s : State) : State :=
  let s1 := notify .tableFault s
  emit
    (s1.record .tableFault lane zone {}
      (detail4 (BitVec.ofNat 8 bucket) (BitVec.ofNat 8 (bucket / 256)) (BitVec.ofNat 8 (bucket / 65536)) op.code) key) s1

/-- An insert sets the key's bit in the presence filter, and while REBUILDING in the shadow filter (R35). -/
def setFilterBits (key : Key) (s : State) : State :=
  s.setTab
    { s.tab with
      presence := bitInsert (filterIndex key) s.tab.presence
      shadow := if s.tab.filter = .rebuilding then bitInsert (filterIndex key) s.tab.shadow else s.tab.shadow }

/-! ## Format and reuse (R30, R31) -/

/-- The bucket a table word belongs to. -/
def TableWord.bucket? : TableWord → Option Nat
  | .slot b _ => some b
  | .head b => some b
  | .place _ => none
  | .freeHead => none
  | .marker => none

/-- The lowest bucket of a geometry with a word that fails the format test. -/
def failingBucket (k : Nat) (bad : List TableWord) : Option Nat :=
  ((bad.filterMap TableWord.bucket?).filter (fun b => decide (b < 2 ^ k))).min?

/-- The overflow places of a geometry that fail the format test, in ascending order. -/
def failingPlaces (u : Nat) (bad : List TableWord) : List Nat :=
  (List.range (1024 * u)).filter (fun i => decide (TableWord.place i ∈ bad))

/-- The table memory that a successful format leaves: every bucket empty, the free list ascending over the places that are not
withdrawn, and the marker written (R30). -/
def formatted (k u : Nat) (bad : List TableWord) : TableMemory where
  marker := some ⟨k, u, (failingPlaces u bad).length⟩
  buckets := []
  free := (List.range (1024 * u)).filter (fun i => decide (TableWord.place i ∉ bad))
  withdrawn := failingPlaces u bad
  damaged := []

/-- The table memory that a format ended by a failing bucket leaves: the buckets up to it cleared and the marker cleared (R30). -/
def halfFormatted (b : Nat) (t : TableMemory) : TableMemory :=
  { t with marker := none, buckets := t.buckets.filter (fun x => decide (b < x.1)) }

/-- The marker that a reuse accepts: valid, and of the geometry asked for (R29, R31). -/
def reusable (k u : Nat) (t : TableMemory) : Option Marker :=
  if t.fails .marker then none
  else t.marker.filter (fun m => decide (m.k = k ∧ m.u = u))

end Sys2Proof.Machine
end

