-- ==== Sys2Proof/Machine/Rings.lean ====
section
/-! DEFINITION. The ring units: taking, checking and returning descriptors, withdrawal, the take positions, and the kept
descriptor of an open chain (chapter 9, R53 to R57). -/

namespace Sys2Proof.Machine

/-! ## The writes of a return (R163, R164, R172) -/

/-- The notice flag of a ring's returns (R173). -/
def RingId.flag : RingId → NoticeFlag
  | .gate => .gateReturned
  | .list => .listReturned

/-- The writes of a return into the descriptor at an offset: status, result area and payload, the owner mark last, then the
notice flag (R163). A descriptor whose owner mark does not read PART is withdrawn, with no write and no flag (R164). -/
def writeReturn (flag : NoticeFlag) (a : Nat) (notifyOn : Bool) (r : Reply) (s : State) : State :=
  if s.read a = 1 then
    let s1 := s.writeBytes (a + 7) [r.status.code]
    let s2 := s1.writeBytes (a + 48) (padTo 16 r.result)
    let s3 := r.overlay.foldl (fun t w => t.writeBytes (a + 8 + w.1) w.2) s2
    let s4 := s3.writeBytes a [0]
    if notifyOn then notify flag s4 else s4
  else s

/-! ## The gate ring -/

/-- The checks a gate descriptor meets at the take (R169): the status it is returned with, or none where it passes. -/
def gateCheck (d : Desc) : Option Status :=
  match d.reqKind with
  | none => some .malformed
  | some k =>
    if k.ring = .list then some .wrongRing
    else if d.chain ≠ 0 then some .malformed
    else none

/-- The gate descriptor in progress is handed back and the take position advances (R163, R165). -/
def gateHandBack (ring : Ring) (d : Desc) (r : Reply) (s : State) : State :=
  let s1 := writeReturn .gateReturned (ring.descAddr s.gate.take) d.notify r s
  s1.setGate { take := ring.next s.gate.take, poll := none, work := none }

/-- Examinations of the gate take position, one after each return made at the ring checks, until a descriptor is taken or the
position is not owned (R162, R166); `n` bounds the returns. -/
def gateExamine : Nat → State → State
  | 0, s => s
  | n + 1, s =>
    match s.cfg.gate with
    | none => s
    | some ring =>
      if s.read (ring.descAddr s.gate.take) = 1 then
        let d := readDesc s.xmem (ring.descAddr s.gate.take)
        match gateCheck d with
        | none => s.setGate { s.gate with poll := none, work := some ⟨d, .taken⟩ }
        | some st => gateExamine n (gateHandBack ring d (Reply.bare st) s)
      else s.setGate { s.gate with poll := some s.cfg.poll }

/-- The returns the ring checks can make in one go: each hands one descriptor of the ring back. -/
def Ring.bound (r : Option Ring) : Nat :=
  match r with
  | none => 0
  | some x => 2 ^ x.exp + 1

/-- An examination of the gate take position, made while RUNNING by a gate ring unit that works on no descriptor (R166, R167). -/
def examineGate (s : State) : State :=
  if s.running ∧ s.gate.work = none then gateExamine (Ring.bound s.cfg.gate) s else s

/-- The return of the gate descriptor in progress: the writes, the advance, and the examination of the new position at once
(R163). -/
def returnGate (d : Desc) (r : Reply) (s : State) : State :=
  match s.cfg.gate with
  | none => s
  | some ring => examineGate (gateHandBack ring d r s)

/-! ## The open chain (R51 to R57) -/

/-- The open-chain record of a closed chain (R51). -/
def ListUnit.closeChain (l : ListUnit) : ListUnit :=
  { l with chainOpen := false, kept := none, totals := Counts.zero, wait := none }

/-- The kept descriptor is returned (R54, R56); its return moves no take position. -/
def returnKept (st : Status) (withTotals : Bool) (s : State) : State :=
  match s.list.kept, s.cfg.list with
  | some k, some ring =>
    writeReturn .listReturned (ring.descAddr k.index) k.notify
      ⟨st, k.counts.resultBytes, if withTotals then [(0, s.list.totals.totalBytes)] else []⟩ s
  | _, _ => s

/-- An open chain is broken: the kept descriptor, if any, is returned CHAIN_BROKEN with the totals, and the chain is closed
(R56, R57). -/
def breakChain (s : State) : State :=
  if s.list.chainOpen then
    let s1 := returnKept .chainBroken true s
    s1.setList s1.list.closeChain
  else s

/-! ## The list ring -/

/-- The checks a list descriptor meets at the take (R170). -/
def listCheck (d : Desc) : Option Status :=
  match d.reqKind with
  | none => some .malformed
  | some k =>
    if k.ring = .gate then some .wrongRing
    else if k ≠ .load ∧ d.chain ≠ 0 then some .malformed
    else none

/-- The list descriptor in progress is handed back and the take position advances (R163, R165). -/
def listHandBack (ring : Ring) (d : Desc) (r : Reply) (s : State) : State :=
  let s1 := writeReturn .listReturned (ring.descAddr s.list.take) d.notify r s
  s1.setList { s1.list with take := ring.next s.list.take, poll := none, work := none }

/-- The list ring unit waits at a position it found not owned: the poll timer is loaded, and the chain wait timer starts where a
descriptor is kept and it does not run (R166, R53, R59). -/
def listWait (s : State) : State :=
  let wait :=
    if s.list.kept.isSome ∧ s.list.wait = none then some ⟨s.cfg.chainWait, 0⟩ else s.list.wait
  s.setList { s.list with poll := some s.cfg.poll, wait := wait }

/-- Examinations of the list take position, one after each return made at the ring checks (R162, R166, R170); a descriptor
returned at those checks breaks an open chain (R57). A take stops the chain wait timer (log 17). -/
def listExamine : Nat → State → State
  | 0, s => s
  | n + 1, s =>
    match s.cfg.list with
    | none => s
    | some ring =>
      if s.read (ring.descAddr s.list.take) = 1 then
        let d := readDesc s.xmem (ring.descAddr s.list.take)
        match listCheck d with
        | none => s.setList { s.list with poll := none, wait := none, work := some ⟨d, .taken⟩ }
        | some st => listExamine n (listHandBack ring d (Reply.bare st) (breakChain s))
      else listWait s

/-- An examination of the list take position (R166, R167). -/
def examineList (s : State) : State :=
  if s.running ∧ s.list.work = none then listExamine (Ring.bound s.cfg.list) s else s

/-- The return of the list descriptor in progress (R163). -/
def returnList (d : Desc) (r : Reply) (s : State) : State :=
  match s.cfg.list with
  | none => s
  | some ring => examineList (listHandBack ring d r s)

/-- The descriptor in progress becomes the kept descriptor: its counts join the totals and go into its result area, it stays
owned by PART, and the take position advances and is examined (R53). DESIGN CHOICE: the write covers the whole result area, so its
reserved bytes 14 and 15 become 0 already at the keep (log 36). -/
def keepDescriptor (d : Desc) (c : Counts) (s : State) : State :=
  match s.cfg.list with
  | none => s
  | some ring =>
    let a := ring.descAddr s.list.take
    let s1 := if s.read a = 1 then s.writeBytes (a + 48) (padTo 16 c.resultBytes) else s
    examineList
      (s1.setList
        { s1.list with
          take := ring.next s.list.take, poll := none, work := none, kept := some ⟨s.list.take, d.notify, c⟩,
          totals := c.addTo s.list.totals, wait := none })

/-! ## Which descriptor a command carries out -/

/-- The gate descriptor just taken, where it is of the kind and its action byte is the command's or no action of the kind
(log 8). -/
def State.gateTaken (s : State) (k : ReqKind) (claims : Byte → Bool) : Option Desc :=
  match s.gate.work with
  | some ⟨d, .taken⟩ =>
    if s.running ∧ s.ctl.resetActive = false ∧ d.reqKind = some k ∧ claims (d.byte 0) = true then some d else none
  | _ => none

/-- The list descriptor just taken, of the kind, whose action byte at `o` the command claims (log 8). -/
def State.listTaken (s : State) (k : ReqKind) (o : Nat) (claims : Byte → Bool) : Option Desc :=
  match s.list.work with
  | some ⟨d, .taken⟩ =>
    if s.running ∧ s.ctl.resetActive = false ∧ d.reqKind = some k ∧ claims (d.byte o) = true then some d else none
  | _ => none

/-- A command with action code `c` of a kind with actions `lo` to `hi` claims an action byte: its own, or one that names no
action (log 8). -/
def claimsAction (c lo hi : Nat) (b : Byte) : Bool :=
  decide (b.toNat = c) || decide (b.toNat < lo ∨ hi < b.toNat)

/-- A command claims every descriptor of its kind. -/
def claimsAll (_ : Byte) : Bool := true

end Sys2Proof.Machine
end

