-- ==== Sys2Proof/Machine/Admission.lean ====
section
/-! DEFINITION. PRESENT, ADMISSION_LOOKUP and CLOSING_OPERATION: the admission decision and the closing of a hold at the table
port (chapters 4 and 5). -/

namespace Sys2Proof.Machine

/-- The table port serves the part: it is RUNNING and not held in reset. -/
def State.portUp (s : State) : Bool := s.running && !s.ctl.resetActive

/-! ## The lane checks (R66, R68, R69) -/

/-- Checks 1 to 4. -/
def State.laneChecks4 (s : State) (i : LaneId) : Option Reason :=
  let l := s.lane i
  if l.enabled = false then some .laneDisabled
  else
    match l.mode with
    | .base .closed => some .laneClosed
    | .base .free => some .laneFree
    | .emergency => some .laneFree
    | .base .opened =>
      if l.tracker.state = .fault then some .trackerFault
      else if l.locked then some .alertActive
      else none

/-- Checks 1 to 5. -/
def State.laneChecks5 (s : State) (i : LaneId) : Option Reason :=
  match s.laneChecks4 i with
  | some r => some r
  | none => if (s.hold i).isSome then some .laneBusy else none

/-! ## The result of a presentation (R81) -/

/-- What a decision found: the reason (none for ADMIT), the effective tier, the entry as read, the holding lane and the two
flags. -/
structure Finding where
  reason : Option Reason
  tier : Option (Fin 4) := none
  entry : Option Entry := none
  holding : Option LaneId := none
  noClock : Bool := false
  bypassed : Bool := false
deriving DecidableEq, Repr

/-- The presence bits of a PRESENT result (12.4). DESIGN CHOICE: bits 6 and 7, which 12.4 does not name, are 0 (log 43). -/
def Finding.presence (f : Finding) : Byte :=
  BitVec.ofNat 8
    (bitNat f.tier.isSome + 2 * bitNat f.entry.isSome + 4 * bitNat (f.entry.bind Entry.lastLane).isSome +
      8 * bitNat (f.entry.bind Entry.lastTime).isSome + 16 * bitNat (f.entry.bind Entry.remote).isSome +
      32 * bitNat f.holding.isSome)

/-- The return of a decided presentation at a zone's lane (R81, 12.4). DESIGN CHOICE: bits 2 to 7 of its flag byte, which 12.4
does not name, are 0 (log 43). -/
def Finding.reply (f : Finding) (z : ZoneId) : Reply where
  status := .done
  result :=
    [decisionCode f.reason, Reason.code f.reason, BitVec.ofNat 8 z.val, finByteZero f.tier,
      (f.entry.map (fun e => e.state.code)).getD 0, BitVec.ofNat 8 ((f.entry.map Entry.count).getD 0),
      finByteZero (f.entry.bind Entry.lastLane), (f.entry.bind Entry.remote).getD 0, finByteZero f.holding, f.presence,
      BitVec.ofNat 8 (bitNat f.noClock + 2 * bitNat f.bypassed)]
  overlay := [(34, wordBytes ((f.entry.bind Entry.lastTime).getD 0))]

/-! ## The checks of the credential (R72 to R77) -/

/-- Check 14: the reason it refuses for, and whether the result carries NO_CLOCK (R75). -/
def State.windowCheck (s : State) (p : Profile) : Option Reason × Bool :=
  if p.noOpen = true ∧ p.noClose = true then (none, false)
  else if s.clk.valid = false then (none, true)
  else if p.noOpen = false ∧ s.now.slt p.openTime = true then (some .tooEarly, false)
  else if p.noClose = false ∧ s.now.slt p.closeTime = false then (some .tooLate, false)
  else (none, false)

/-- Check 15 refuses: the zone has a capacity and no room (R76). -/
def Zone.noRoom (z : Zone) : Bool := decide (z.capacity ≠ 0 ∧ z.capacity ≤ z.occupancy + z.reserved)

/-- Check 13 on an ENTRY lane (R74). -/
def entryGrantCheck (l : Lane) (e : Entry) : Option Reason :=
  match e.grant l.zone with
  | .never => some .wrongZone
  | .once => if e.count = 0 then none else some .used
  | .returning => none
  | .escort => if l.token.isSome then none else some .needEscort

/-- Check 13 on an EXIT lane (R77). -/
def exitGrantCheck (l : Lane) (e : Entry) : Option Reason :=
  match e.grant l.zone with
  | .never => some .wrongZone
  | .once => some .noReturns
  | .escort => some .noReturns
  | .returning => if e.returns = 0 then some .noReturns else none

/-- Checks 12 to 15 at effective tier 1 to 3, with the NO_CLOCK mark (R73 to R77). -/
def State.tierChecks (s : State) (i : LaneId) (e : Entry) (tier : Fin 4) : Option Reason × Bool :=
  let l := s.lane i
  match l.direction with
  | .exit => if e.state = .inside then (exitGrantCheck l e, false) else (some .notInside, false)
  | .entry =>
    if e.state = .inside then (some .alreadyIn, false)
    else
      match entryGrantCheck l e with
      | some r => (some r, false)
      | none =>
        let w := if tier.val < 2 then (none, false) else s.windowCheck (s.adm.profiles.get e.profile)
        if w.1 ≠ none then w
        else if tier.val = 3 ∧ (s.zone l.zone).noRoom = true then (some .zoneFull, w.2)
        else w

/-- The decision of an admission lookup: its finding and, for an ADMIT, the entry's location. -/
structure Verdict where
  finding : Finding
  location : Option Location
deriving DecidableEq, Repr

/-- Checks 9 to 15 on the entry the walk found (R71, R72). -/
def State.judgeEntry (s : State) (i : LaneId) (key : Key) (bypassed : Bool) (loc : Location) (e : Entry) : Verdict :=
  if e.state = .revoked then ⟨{ reason := some .revoked, entry := some e, bypassed := bypassed }, none⟩
  else
    match s.heldAt key with
    | some j => ⟨{ reason := some .inUse, entry := some e, holding := some j, bypassed := bypassed }, none⟩
    | none =>
      let tier := max e.tier (s.lane i).tier
      let c := if tier = 0 then (none, false) else s.tierChecks i e tier
      ⟨{ reason := c.1, tier := some tier, entry := some e, noClock := c.2, bypassed := bypassed },
        if c.1 = none then some loc else none⟩

/-- The admission lookup's decision: the lane checks again, the filter, the walk, and the checks of the entry (R67, R70). -/
def State.judge (s : State) (i : LaneId) (key : Key) : Verdict :=
  match s.laneChecks5 i with
  | some r => ⟨{ reason := some r }, none⟩
  | none =>
    if s.tab.filter = .valid ∧ filterIndex key ∉ s.tab.presence then ⟨{ reason := some .unknown }, none⟩
    else
      let bypassed := decide (s.tab.filter ≠ .valid)
      match s.lookup key with
      | .failed => ⟨{ reason := some .tableError, bypassed := bypassed }, none⟩
      | .absent => ⟨{ reason := some .unknown, bypassed := bypassed }, none⟩
      | .found loc e => s.judgeEntry i key bypassed loc e

/-- Check 13 passed on the lane's escort token (R74, R79). -/
def State.usesToken (s : State) (i : LaneId) (tier : Fin 4) (e : Entry) : Bool :=
  decide ((s.lane i).direction = .entry ∧ tier ≠ 0 ∧ e.grant (s.lane i).zone = .escort)

/-- The effects of an ADMIT: the escort token it consumed, the hold, its reservation, and the watch's hold creation (R79, R136). -/
def makeHold (i : LaneId) (key : Key) (loc : Location) (tier : Fin 4) (e : Entry) (s : State) : State :=
  let s1 := if s.usesToken i tier e then s.setLane i { s.lane i with token := none } else s
  watchEvent i (createHold i (.credential key loc tier) s1)

/-- The effects of an admission lookup's decision, and its TABLE_FAULT where a read failed (R26, R79, R80). -/
def applyVerdict (i : LaneId) (key : Key) (v : Verdict) (s : State) : State :=
  match v.location, v.finding.tier, v.finding.entry with
  | some loc, some tier, some e => makeHold i key loc tier e s
  | _, _, _ =>
    if v.finding.reason = some .tableError then
      tableFault .admission (s.bucketOf key) (some i) (some (s.lane i).zone) key s
    else s

/-! ## PRESENT (R64 to R67) -/

/-- The taken PRESENT is returned with a refusal at checks 1 to 6. -/
def refusePresent (d : Desc) (i : LaneId) (r : Reason) (s : State) : State :=
  returnGate d (Finding.reply { reason := some r } (s.lane i).zone) s

/-- The taken PRESENT asks the gate side of the table port for its admission lookup (R67). -/
def askLookup (d : Desc) (key : Key) (s : State) : State :=
  let s1 := s.setGate { s.gate with work := some ⟨d, .lookup key⟩ }
  s1.setTab { s1.tab with port := s1.tab.port ++ [.lookup] }

/-- The first look at a PRESENT: its lane, checks 1 to 5, and check 6 (R65, R66, R67, R70). -/
def presentDesc (d : Desc) (s : State) : State :=
  match laneOf d.lane with
  | none => returnGate d (Reply.bare .malformed) s
  | some i =>
    match s.laneChecks5 i with
    | some r => refusePresent d i r s
    | none =>
      match normalise s.adm.scheme (d.byte 0) (d.byte 1) ((d.payload.drop 2).take 32) with
      | .malformed => returnGate d (Reply.bare .malformed) s
      | .unreadable => refusePresent d i .unreadable s
      | .badCheck => refusePresent d i .badCheck s
      | .key k => askLookup d k s

/-- PRESENT. With no PRESENT descriptor just taken the command does nothing (log 1). -/
def execPresent (s : State) : Host.Outcome State Fault Refusal :=
  match s.gateTaken .present claimsAll with
  | none => .next s
  | some d => .next (presentDesc d s)

/-! ## ADMISSION_LOOKUP (R67) -/

/-- The request at the front of the gate side leaves the port. -/
def popPort (s : State) : State := s.setTab { s.tab with port := s.tab.port.tail }

/-- The PRESENT that waits for its lookup at the front of the gate side: its descriptor, lane and key. -/
def State.lookupDue (s : State) : Option (Desc × LaneId × Key) :=
  match s.tab.port, s.gate.work with
  | .lookup :: _, some ⟨d, .lookup key⟩ => (laneOf d.lane).map (fun i => (d, i, key))
  | _, _ => none

/-- The admission lookup of a waiting PRESENT, whole, with its return. -/
def lookupOperation (d : Desc) (i : LaneId) (key : Key) (s : State) : State :=
  let v := s.judge i key
  let s1 := applyVerdict i key v s
  returnGate d (v.finding.reply (s.lane i).zone) s1

/-- ADMISSION_LOOKUP. With no admission lookup at the front of the table port the command does nothing (log 1, log 14). -/
def execAdmissionLookup (bad : List TableWord) (s : State) : Host.Outcome State Fault Refusal :=
  if s.portUp then
    match s.lookupDue with
    | none => .next s
    | some (d, i, key) => .next (lookupOperation d i key (popPort (damage bad s)))
  else .next s

/-! ## CLOSING_OPERATION (R97 to R104) -/

/-- A MARK written into an entry that is not held: a REVOKED entry is left as it is (R61). -/
def markEntry (m : PendingMark) (e : Entry) : Entry :=
  if e.state = .revoked then e
  else
    { e with
      state := if m.inside then .inside else .outside
      count := if m.inside then saturate 255 e.count else e.count
      lastLane := none
      lastTime := some m.time
      remote := some m.cluster }

/-- A REVOKE or RESTORE written into an entry that is not held (R60). -/
def revokeEntry (a : RevokeAction) (e : Entry) : Entry :=
  match a with
  | .revoke => { e with state := .revoked }
  | .restore => if e.state = .revoked then { e with state := .outside } else e

/-- The commit of a hold's passage into the entry as it stands (R98, R99). -/
def commitEntry (i : LaneId) (d : Direction) (now : Word) (e : Entry) : Entry :=
  match d with
  | .entry =>
    { e with state := .inside, count := saturate 255 e.count, lastLane := some i, lastTime := some now, remote := none }
  | .exit =>
    { e with
      state := .outside
      returns := ⟨e.returns.val - 1, by have := e.returns.isLt; omega⟩
      lastLane := some i
      lastTime := some now
      remote := none }

/-- The pending mark is CONTESTED: a MARK INSIDE at the commit of an ENTRY hold (R102). -/
def Hold.contested (h : Hold) (o : HoldOutcome) : Bool :=
  decide (o = .commit ∧ h.direction = .entry) && (h.mark.map PendingMark.inside).getD false

/-- The entry after a closing operation: the commit, then the pending mark, then the pending revoke (R97, R102, R103). -/
def closeEntry (i : LaneId) (h : Hold) (o : HoldOutcome) (now : Word) (e : Entry) : Entry :=
  let e1 := if o = .commit then commitEntry i h.direction now e else e
  let e2 :=
    match h.mark with
    | none => e1
    | some m => if h.contested o then e1 else markEntry m e1
  match h.revoke with
  | none => e2
  | some a => revokeEntry a e2

/-- What a closing operation that wrote the entry tells the record of the outcome (R98, R102, R103). -/
def Hold.closingOf (h : Hold) (o : HoldOutcome) (e : Entry) : Closing :=
  ⟨e.count, e.returns.val, if h.contested o then h.mark.map PendingMark.cluster else none, h.contested o,
    decide (h.revoke = some .revoke), false⟩

/-- The CLOSING hold whose closing operation is at the front of the gate side. -/
def State.closingDue (s : State) : Option (LaneId × Hold × HoldOutcome × Key × Location) :=
  match s.tab.port with
  | .closing i :: _ =>
    match s.hold i with
    | some h =>
      match h.phase, h.kind with
      | .closing o, .credential key loc _ => some (i, h, o, key, loc)
      | _, _ => none
    | none => none
  | _ => none

/-- The entry a hold's location holds, where it is of the hold's key (R24). -/
def State.heldEntry (s : State) (key : Key) (loc : Location) : Option Entry :=
  (s.tab.memory.entryAt loc).filter (fun e => decide (e.key = key))

/-- A closing operation whose read fails its check: nothing is written, the stored changes are discarded, and the zone effects
and the record follow the TABLE_FAULT record (R104). -/
def closeFailed (i : LaneId) (h : Hold) (o : HoldOutcome) (key : Key) (s : State) : State :=
  let s1 := tableFault .closing (s.bucketOf key) (some i) (some h.zone) key s
  watchEvent i (finishHold i h o { Closing.plain with tableError := true } s1)

/-- A closing operation that writes the entry once, then makes the zone effects, the record and the removal (R97). -/
def closeWritten (i : LaneId) (h : Hold) (o : HoldOutcome) (loc : Location) (e : Entry) (s : State) : State :=
  let e1 := closeEntry i h o s.now e
  let s1 := s.setMemory (s.tab.memory.writeEntry loc e1)
  watchEvent i (finishHold i h o (h.closingOf o e1) s1)

/-- CLOSING_OPERATION. With no closing operation at the front of the table port the command does nothing (log 1, log 14). -/
def execClosingOperation (bad : List TableWord) (s : State) : Host.Outcome State Fault Refusal :=
  if s.portUp then
    match s.closingDue with
    | none => .next s
    | some (i, h, o, key, loc) =>
      let s1 := popPort (damage bad s)
      if s1.tab.memory.fails loc.word then .next (closeFailed i h o key s1)
      else
        match s1.heldEntry key loc with
        | none => .fault (.entryMissing i)
        | some e => .next (closeWritten i h o loc e s1)
  else .next s

end Sys2Proof.Machine
end

