-- ==== Sys2Proof/Machine/GateRequests.lean ====
section
/-! DEFINITION. The other gate requests: MANUAL RELEASE and ESCORT, LANE, and the five ALERT actions (5.7, 6.6, 7.6). -/

namespace Sys2Proof.Machine

/-! ## MANUAL (R107, R109) -/

/-- The return of a MANUAL request (R107, R109, 12.4). -/
def manualReply (r : Option Reason) (z : ZoneId) (replaced : Bool) : Reply :=
  ⟨.done, [decisionCode r, Reason.code r, BitVec.ofNat 8 z.val, flagByte replaced], []⟩

/-- MANUAL RELEASE at a lane (R107). -/
def manualReleaseAt (d : Desc) (i : LaneId) (s : State) : State :=
  match s.laneChecks5 i with
  | some r => returnGate d (manualReply (some r) (s.lane i).zone false) s
  | none => returnGate d (manualReply none (s.lane i).zone false) (watchEvent i (createHold i .manual s))

/-- MANUAL ESCORT at a lane (R109). -/
def manualEscortAt (d : Desc) (i : LaneId) (s : State) : State :=
  match s.laneChecks4 i with
  | some r => returnGate d (manualReply (some r) (s.lane i).zone false) s
  | none =>
    returnGate d (manualReply none (s.lane i).zone (s.lane i).token.isSome)
      (s.setLane i { s.lane i with token := some ⟨(s.lane i).escortTime, 0⟩ })

/-- MANUAL_RELEASE. With no such MANUAL descriptor just taken the command does nothing (log 1); an action that is neither
RELEASE nor ESCORT, or a lane above 7, is MALFORMED. -/
def execManualRelease (s : State) : Host.Outcome State Fault Refusal :=
  match s.gateTaken .manual (claimsAction 0 0 1) with
  | none => .next s
  | some d =>
    match laneOf d.lane with
    | some i => .next (if d.byte 0 = 0 then manualReleaseAt d i s else returnGate d (Reply.bare .malformed) s)
    | none => .next (returnGate d (Reply.bare .malformed) s)

/-- MANUAL_ESCORT, as MANUAL_RELEASE. -/
def execManualEscort (s : State) : Host.Outcome State Fault Refusal :=
  match s.gateTaken .manual (claimsAction 1 0 1) with
  | none => .next s
  | some d =>
    match laneOf d.lane with
    | some i => .next (if d.byte 0 = 1 then manualEscortAt d i s else returnGate d (Reply.bare .malformed) s)
    | none => .next (returnGate d (Reply.bare .malformed) s)

/-! ## LANE (R131, R132) -/

/-- The return of a LANE request, from the lane as it stands after the request (R132, 12.4). -/
def laneReply (deferred : Bool) (l : Lane) : Reply :=
  ⟨if deferred then .deferred else .done,
    [l.mode.code, BaseMode.optCode l.pendingMode, BaseMode.optCode l.afterEmergency, 0] ++ halfBytes l.holdTime ++
      halfBytes l.escortTime ++ [l.tracker.state.code], []⟩

/-- The settings a LANE request writes at once: tier, hold time, retrigger, escort time and watch specification (R132). -/
def LaneFields.settings (f : LaneFields) (l : Lane) : Lane :=
  { l with tier := f.tier, holdTime := f.holdTime, retrigger := f.retrigger, escortTime := f.escortTime, watch := f.watch }

/-- The effects of a well-formed LANE request: the mode, the settings, the watch specification with its edge history restarted,
and then the sample period, whose RAW change is evaluated under the new specification (R130, R132, R144). DESIGN CHOICE: the mode
comes first, then the settings, and the levels of a RAW change last (log 38). -/
def laneEffects (f : LaneFields) (s : State) : State :=
  let s1 := changeMode f.lane f.mode .request s
  let s2 := s1.setLane f.lane (f.settings (s1.lane f.lane))
  restartConditioning f.lane f.period (takeTerms f.lane s2)

/-- LANE. With no LANE descriptor just taken the command does nothing (log 1). -/
def execLane (s : State) : Host.Outcome State Fault Refusal :=
  match s.gateTaken .lane claimsAll with
  | none => .next s
  | some d =>
    match parseLane d with
    | none => .next (returnGate d (Reply.bare .malformed) s)
    | some f =>
      let s1 := laneEffects f s
      .next (returnGate d (laneReply (s.defers f.lane) (s1.lane f.lane)) s1)

/-! ## ALERT (R142, R143) -/

/-- The flag byte of an ALERT result: bit 0 ENABLED, bit 1 OVERRUN (12.4). DESIGN CHOICE: bits 2 to 7, which 12.4 does not
name, are 0 (log 43). -/
def Lane.alertFlags (l : Lane) : Byte := BitVec.ofNat 8 (bitNat l.alertOn + 2 * bitNat l.overrun)

/-- The return of an ALERT request, from the lane before and after it (R142, 12.4). -/
def alertReply (before after : Lane) : Reply :=
  ⟨.done,
    [before.alert.code, before.alertFlags, after.alert.code, after.alertFlags,
      flagByte (decide (before.alert ≠ after.alert ∨ before.alertFlags ≠ after.alertFlags))], []⟩

/-- TAKE (R143). -/
def alertTakeAt (i : LaneId) (s : State) : State :=
  if (s.lane i).alert = .pending then s.setLane i { s.lane i with alert := .inService } else s

/-- CLEAR (R143). -/
def alertClearAt (i : LaneId) (s : State) : State := s.setLane i { s.lane i with alert := .idle, overrun := false }

/-- ENABLE (R143). -/
def alertEnableAt (i : LaneId) (s : State) : State := s.setLane i { s.lane i with alertOn := true }

/-- DISABLE (R143). -/
def alertDisableAt (i : LaneId) (s : State) : State := s.setLane i { s.lane i with alertOn := false }

/-- RAISE: a match with an empty term set (R143). -/
def alertRaiseAt (i : LaneId) (s : State) : State := reachAlert i 1 [] s

/-- An ALERT request with action code `c`: the taken descriptor is carried out in one step and returned (R142). With no such
descriptor just taken the command does nothing (log 1). -/
def alertRequest (c : Nat) (action : LaneId → State → State) (s : State) : State :=
  match s.gateTaken .alert (claimsAction c 0 4) with
  | none => s
  | some d =>
    match laneOf d.lane with
    | some i =>
      if (d.byte 0).toNat = c then
        returnGate d (alertReply (s.lane i) ((action i s).lane i)) (action i s)
      else returnGate d (Reply.bare .malformed) s
    | none => returnGate d (Reply.bare .malformed) s

/-- ALERT_TAKE. -/
def execAlertTake (s : State) : Host.Outcome State Fault Refusal := .next (alertRequest 0 alertTakeAt s)

/-- ALERT_CLEAR. -/
def execAlertClear (s : State) : Host.Outcome State Fault Refusal := .next (alertRequest 1 alertClearAt s)

/-- ALERT_ENABLE. -/
def execAlertEnable (s : State) : Host.Outcome State Fault Refusal := .next (alertRequest 2 alertEnableAt s)

/-- ALERT_DISABLE. -/
def execAlertDisable (s : State) : Host.Outcome State Fault Refusal := .next (alertRequest 3 alertDisableAt s)

/-- ALERT_RAISE. -/
def execAlertRaise (s : State) : Host.Outcome State Fault Refusal := .next (alertRequest 4 alertRaiseAt s)

end Sys2Proof.Machine
end

