-- ==== Sys2Proof/Machine/ListRequests.lean ====
section
/-! DEFINITION. The list requests: LOAD with its chain and batch records, REVOKE, RESTORE, MARK, QUERY and their table
operation, REBUILD and its walk, ZONE, MONITOR and PROFILE (chapters 3 and 8, R36 to R39, R88). -/

namespace Sys2Proof.Machine

/-! ## Batch records (R44 to R50) -/

/-- A record counted in one of the seven counts (R50). -/
inductive Counted where
  | added
  | replaced
  | dropped
  | notFound
  | malformed
  | heldSkip
  | full
deriving DecidableEq, Repr

/-- The counts with one more record (R50). -/
def Counts.bump (c : Counts) : Counted → Counts
  | .added => { c with added := c.added + 1 }
  | .replaced => { c with replaced := c.replaced + 1 }
  | .dropped => { c with dropped := c.dropped + 1 }
  | .notFound => { c with notFound := c.notFound + 1 }
  | .malformed => { c with malformed := c.malformed + 1 }
  | .heldSkip => { c with heldSkip := c.heldSkip + 1 }
  | .full => { c with full := c.full + 1 }

/-- The entry of a PUT of a new key (R46). -/
def PutFields.newEntry (f : PutFields) (key : Key) : Entry :=
  { key := key, state := .outside, tier := f.tier, grants := f.grants, profile := f.profile, returns := f.returns, count := 0,
    lastLane := none, lastTime := none, remote := none, batch := f.batch }

/-- The entry after a PUT of an existing key (R47). -/
def PutFields.replace (f : PutFields) (e : Entry) : Entry :=
  let e1 := { e with tier := f.tier, grants := f.grants, profile := f.profile, returns := f.returns, batch := f.batch }
  if f.reset then { e1 with state := .outside, count := 0, lastLane := none, lastTime := none, remote := none } else e1

/-- The state after a table change of a batch record: written, nothing where full, none where a read failed. -/
def changed (s : State) (c : TableChange) (done : Counted) : Option (State × Counted) :=
  match c with
  | .written t => some (s.setMemory t, done)
  | .full => some (s, .full)
  | .failed => none

/-- The table operation of a well-formed batch record, with the count it falls under; none where a read failed its check
(R46, R47, R48). -/
def applyRecord (r : BatchRecord) (s : State) : Option (State × Counted) :=
  match r with
  | .put key f =>
    match s.lookup key with
    | .failed => none
    | .absent =>
      match s.tab.memory.insert (s.bucketOf key) (f.newEntry key) with
      | .written t => some (setFilterBits key (s.setMemory t), .added)
      | .full => some (s, .full)
      | .failed => none
    | .found loc e =>
      if f.reset = true ∧ (s.heldAt key).isSome then some (s, .heldSkip)
      else some (s.setMemory (s.tab.memory.writeEntry loc (f.replace e)), .replaced)
  | .drop key =>
    match s.lookup key with
    | .failed => none
    | .absent => some (s, .notFound)
    | .found loc _ =>
      if (s.heldAt key).isSome then some (s, .heldSkip)
      else changed s (s.tab.memory.drop loc) .dropped

/-- The key a batch record names. -/
def BatchRecord.key : BatchRecord → Key
  | .put k _ => k
  | .drop k => k

/-! ## LOAD (R43, R51 to R58) -/

/-- The batch offset of a LOAD. -/
def Desc.batchOffset (d : Desc) : Nat := (wordAt d.payload 0).toNat

/-- The record count of a LOAD. -/
def Desc.recordCount (d : Desc) : Nat := (halfAt d.payload 4).toNat

/-- The chain mark of a LOAD whose fields pass R43, none where it is MALFORMED. -/
def Desc.loadMark (d : Desc) : Option ChainMark :=
  if 1 ≤ d.recordCount ∧ d.recordCount ≤ 1024 ∧ d.batchOffset % 32 = 0 ∧ 0x40 ≤ d.batchOffset ∧
      d.batchOffset + 32 * d.recordCount ≤ Config.windowEnd then
    ChainMark.ofCode d.chain
  else none

/-- Batch record `n` of a LOAD's buffer as it reads now; none where it is malformed (R44, R45). -/
def State.batchRecord (s : State) (d : Desc) (n : Nat) : Option BatchRecord :=
  parseRecord (Memory.readBytes s.xmem (d.batchOffset + Config.recordBytes * n) Config.recordBytes)

/-- Malformed records are skipped and counted from record `n` on, with `fuel` records left: the next well-formed record's
index, or the end of the buffer (R45). -/
def skipMalformed (s : State) (d : Desc) : Nat → Nat → Counts → Nat × Counts
  | 0, n, c => (n, c)
  | fuel + 1, n, c =>
    match s.batchRecord d n with
    | some _ => (n, c)
    | none => skipMalformed s d fuel (n + 1) (c.bump .malformed)

/-- The end of a LOAD's buffer, by its chain mark (R50, R53, R55). -/
def finishBuffer (d : Desc) (c : Counts) (s : State) : State :=
  match ChainMark.ofCode d.chain with
  | some .first => keepDescriptor d c s
  | some .middle => keepDescriptor d c s
  | some .last =>
    let totals := c.addTo s.list.totals
    returnList d ⟨.done, c.resultBytes, [(0, totals.totalBytes)]⟩ (s.setList s.list.closeChain)
  | some .alone => returnList d ⟨.done, c.resultBytes, []⟩ s
  | none => returnList d ⟨.done, c.resultBytes, []⟩ s

/-- The buffer goes on from record `n`: malformed records are skipped, and the next well-formed record asks for its table
operation, or the buffer is done (R44, R45). -/
def continueBuffer (d : Desc) (n : Nat) (c : Counts) (s : State) : State :=
  let r := skipMalformed s d (d.recordCount - n) n c
  if d.recordCount ≤ r.1 then finishBuffer d r.2 s
  else s.setList { s.list with work := some ⟨d, .loading r.1 r.2⟩ }

/-- The kept descriptor of the chain is returned DONE before the next descriptor's buffer (R54). -/
def continueChain (s : State) : State :=
  let s1 := returnKept .done false s
  s1.setList { s1.list with kept := none, wait := none }

/-- A taken LOAD: its fields, the chain, and its buffer (R43, R52 to R58). -/
def loadDesc (d : Desc) (s : State) : State :=
  match d.loadMark with
  | none => returnList d (Reply.bare .malformed) (breakChain s)
  | some .alone => continueBuffer d 0 Counts.zero (breakChain s)
  | some .first =>
    let s1 := breakChain s
    continueBuffer d 0 Counts.zero
      (s1.setList { s1.list with chainOpen := true, kept := none, totals := Counts.zero, wait := none })
  | some .middle =>
    if s.list.chainOpen then continueBuffer d 0 Counts.zero (continueChain s)
    else returnList d (Reply.bare .orphan) s
  | some .last =>
    if s.list.chainOpen then continueBuffer d 0 Counts.zero (continueChain s)
    else returnList d (Reply.bare .orphan) s

/-- LOAD. With no LOAD descriptor just taken the command does nothing (log 1). -/
def execLoad (s : State) : Host.Outcome State Fault Refusal :=
  match s.listTaken .load 0 claimsAll with
  | none => .next s
  | some d => .next (loadDesc d s)

/-- The list side of the table port is next: RUNNING, and nothing waits on the gate side (R27). -/
def State.listTurn (s : State) : Bool := s.portUp && decide (s.tab.port = [])

/-- A batch record whose read failed its check: TABLE_FAULT, and the descriptor is returned TABLE_ERROR, with the chain totals
and the chain closed for a descriptor of a chain (R49). -/
def loadFailed (d : Desc) (c : Counts) (key : Key) (s : State) : State :=
  let s1 := tableFault .batchRecord (s.bucketOf key) none none key s
  if ChainMark.ofCode d.chain = some .alone then returnList d ⟨.tableError, c.resultBytes, []⟩ s1
  else
    returnList d ⟨.tableError, c.resultBytes, [(0, (c.addTo s1.list.totals).totalBytes)]⟩ (s1.setList s1.list.closeChain)

/-- The table port takes the batch record at index `n`, read now (R44, log 15). A record that has become malformed is skipped. -/
def batchOperation (d : Desc) (n : Nat) (c : Counts) (s : State) : State :=
  match s.batchRecord d n with
  | none => continueBuffer d (n + 1) (c.bump .malformed) s
  | some r =>
    match applyRecord r s with
    | none => loadFailed d c r.key s
    | some (s1, k) => continueBuffer d (n + 1) (c.bump k) s1

/-- BATCH_RECORD. With no batch record at the table port's turn the command does nothing (log 1, log 14). -/
def execBatchRecord (bad : List TableWord) (s : State) : Host.Outcome State Fault Refusal :=
  if s.listTurn then
    match s.list.work with
    | some ⟨d, .loading n c⟩ => .next (batchOperation d n c (damage bad s))
    | _ => .next s
  else .next s

/-! ## REVOKE, MARK and QUERY (R60 to R62) -/

/-- A taken REVOKE, MARK or QUERY breaks an open chain, is checked, and asks for its table operation (R41, R57). -/
def takeRequest (d : Desc) (ok : Bool) (s : State) : State :=
  let s1 := breakChain s
  if ok then s1.setList { s1.list with work := some ⟨d, .request⟩ }
  else returnList d (Reply.bare .malformed) s1

/-- A REVOKE descriptor's fields pass: its action and its key (R60). -/
def revokePasses (d : Desc) : Bool := (RevokeAction.ofCode (d.byte 16)).isSome && keyPasses (keyAt d.payload 0)

/-- A MARK descriptor's fields pass: its state and its key (R61). -/
def markPasses (d : Desc) : Bool := decide ((d.byte 16).toNat ≤ 1) && keyPasses (keyAt d.payload 0)

/-- REVOKE. With no such REVOKE descriptor just taken the command does nothing (log 1). -/
def execRevoke (s : State) : Host.Outcome State Fault Refusal :=
  match s.listTaken .revoke 16 (claimsAction 1 1 2) with
  | none => .next s
  | some d => .next (takeRequest d (revokePasses d) s)

/-- RESTORE: a REVOKE descriptor with action RESTORE. -/
def execRestore (s : State) : Host.Outcome State Fault Refusal :=
  match s.listTaken .revoke 16 (claimsAction 2 1 2) with
  | none => .next s
  | some d => .next (takeRequest d (revokePasses d) s)

/-- MARK. -/
def execMark (s : State) : Host.Outcome State Fault Refusal :=
  match s.listTaken .mark 0 claimsAll with
  | none => .next s
  | some d => .next (takeRequest d (markPasses d) s)

/-- QUERY. -/
def execQuery (s : State) : Host.Outcome State Fault Refusal :=
  match s.listTaken .query 0 claimsAll with
  | none => .next s
  | some d => .next (takeRequest d (keyPasses (keyAt d.payload 0)) s)

/-- The mark a MARK descriptor carries (R61, 12.4). -/
def markOf (d : Desc) : PendingMark := ⟨decide (d.byte 16 = 1), d.byte 17, wordAt d.payload 20⟩

/-- The return of a QUERY of a present key (R62, 12.4, R190). DESIGN CHOICE: bits 4 to 7 of its presence bits, which 12.4 does
not name, are 0 (log 43). -/
def queryReply (e : Entry) (held : Option (LaneId × Hold)) : Reply :=
  let mark := held.bind (fun x => x.2.mark)
  ⟨.done,
    [e.state.code, BitVec.ofNat 8 e.tier.val, BitVec.ofNat 8 e.profile.val, BitVec.ofNat 8 e.returns.val,
      BitVec.ofNat 8 e.count, finByteZero e.lastLane, e.remote.getD 0, finByteZero (held.map Prod.fst),
      BitVec.ofNat 8
        (bitNat e.lastLane.isSome + 2 * bitNat e.lastTime.isSome + 4 * bitNat e.remote.isSome + 8 * bitNat held.isSome),
      RevokeAction.code (held.bind (fun x => x.2.revoke)), (mark.map (fun m => flagByte m.inside)).getD 0xFF,
      (mark.map PendingMark.cluster).getD 0] ++ halfBytes e.batch.toNat,
    [(16, wordBytes e.grants), (20, wordBytes (e.lastTime.getD 0)), (24, wordBytes ((mark.map PendingMark.time).getD 0))]⟩

/-- A found entry that is not held takes a REVOKE, RESTORE or MARK, and the request is returned DONE (R60, R61). DEDUCED: the
holding-lane byte of a DONE result, which no rule gives a value, is 0 by R172 (log 37). -/
def requestUnheld (d : Desc) (loc : Location) (e : Entry) (s : State) : State × Reply :=
  if d.reqKind = some .revoke then
    let e1 := revokeEntry ((RevokeAction.ofCode (d.byte 16)).getD .revoke) e
    (s.setMemory (s.tab.memory.writeEntry loc e1), ⟨.done, [e1.state.code], []⟩)
  else if d.reqKind = some .mark then
    let e1 := markEntry (markOf d) e
    (s.setMemory (s.tab.memory.writeEntry loc e1), ⟨.done, [e1.state.code, BitVec.ofNat 8 e1.count], []⟩)
  else (s, queryReply e none)

/-- A found entry that is held: the change is stored in the hold and the request is returned DONE_PENDING; a QUERY reads
(R60, R61, R62). -/
def requestHeld (d : Desc) (i : LaneId) (h : Hold) (e : Entry) (s : State) : State × Reply :=
  if d.reqKind = some .revoke then
    let a := (RevokeAction.ofCode (d.byte 16)).getD .revoke
    (s.setHold i (some { h with revoke := some a }),
      ⟨.donePending, [0, BitVec.ofNat 8 i.val, RevokeAction.code (some a)], []⟩)
  else if d.reqKind = some .mark then
    (s.setHold i (some { h with mark := some (markOf d) }), ⟨.donePending, [0, 0, BitVec.ofNat 8 i.val], []⟩)
  else (s, queryReply e (some (i, h)))

/-- The table operation of a REVOKE, MARK or QUERY; none where a read failed its check (R42, R60 to R62). DESIGN CHOICE: a QUERY of an
absent key leaves its payload as the processor wrote it, the bytes of the last passage time too (R62, R172, R190, log 44). -/
def requestOperation (d : Desc) (s : State) : Option (State × Reply) :=
  let key := keyAt d.payload 0
  match s.lookup key with
  | .failed => none
  | .absent => some (s, Reply.bare .notFound)
  | .found loc e =>
    match s.heldAt key with
    | none => some (requestUnheld d loc e s)
    | some i =>
      match s.hold i with
      | none => some (requestUnheld d loc e s)
      | some h => some (requestHeld d i h e s)

/-- The table operation of the list request in progress, with its return (R26, R42). DESIGN CHOICE: a QUERY returned TABLE_ERROR leaves
its payload as the processor wrote it, as one returned NOT_FOUND does (log 44). -/
def listOperation (d : Desc) (s : State) : State :=
  match requestOperation d s with
  | some (s1, r) => returnList d r s1
  | none =>
    returnList d (Reply.bare .tableError)
      (tableFault .listRequest (s.bucketOf (keyAt d.payload 0)) none none (keyAt d.payload 0) s)

/-- LIST_REQUEST. With no list request at the table port's turn the command does nothing (log 1, log 14). -/
def execListRequest (bad : List TableWord) (s : State) : Host.Outcome State Fault Refusal :=
  if s.listTurn then
    match s.list.work with
    | some ⟨d, .request⟩ => .next (listOperation d (damage bad s))
    | _ => .next s
  else .next s

/-! ## REBUILD and its walk (R36 to R39, R63) -/

/-- The start of a rebuild (R36). -/
def startRebuild (s : State) : State := s.setTab { s.tab with shadow := [], filter := .rebuilding, walk := 0 }

/-- A taken REBUILD (R63); it breaks an open chain (R57). -/
def rebuildDesc (d : Desc) (s : State) : State :=
  let s1 := breakChain s
  let found := [s1.tab.filter.code]
  if s1.tab.filter = .rebuilding then returnList d ⟨.busy, found, []⟩ s1
  else returnList d ⟨.accepted, found, []⟩ (startRebuild s1)

/-- REBUILD. With no REBUILD descriptor just taken the command does nothing (log 1). -/
def execRebuild (s : State) : Host.Outcome State Fault Refusal :=
  match s.listTaken .rebuild 0 claimsAll with
  | none => .next s
  | some d => .next (rebuildDesc d s)

/-- A rebuild is abandoned: the shadow filter is discarded and the filter is SUSPECT (R39). DESIGN CHOICE: a discarded shadow filter
is all zeros, and the walk position returns to 0 (log 35). -/
def abandonRebuild (s : State) : State :=
  if s.tab.filter = .rebuilding then s.setTab { s.tab with shadow := [], filter := .suspect, walk := 0 } else s

/-- The end of the walk: the shadow filter becomes the presence filter, and REBUILD_DONE carries its count (R38). The
shadow filter is then empty, as in the walk-through of 2.8; that no walk position is held as 0 is a DESIGN CHOICE (log 35). -/
def completeRebuild (s : State) : State :=
  let n := s.tab.shadow.length
  let s1 := s.setTab { s.tab with presence := s.tab.shadow, shadow := [], filter := .valid, walk := 0 }
  emit (s1.record .rebuildDone none none {} (BitVec.ofNat 32 n) zeroKey) s1

/-- One bucket of the walk (R37, R39). -/
def walkBucket (s : State) : State :=
  let b := s.tab.walk
  if (s.tab.memory.walkWords b).any s.tab.memory.fails then
    let s1 := abandonRebuild (tableFault .walk b none none zeroKey s)
    emit (s1.record .rebuildDone none none { incomplete := true } (BitVec.ofNat 32 b) zeroKey) s1
  else
    let shadow := ((s.tab.memory.bucket b).entries.map (fun e => filterIndex e.key)).foldl (fun f i => bitInsert i f) s.tab.shadow
    let s1 := s.setTab { s.tab with shadow := shadow, walk := b + 1 }
    if 2 ^ s.tab.k ≤ b + 1 then completeRebuild s1 else s1

/-- The list side has a request waiting at the table port that the walk cannot come before (R27). A LOAD's next record comes to
the port only when it has been read, so the walk may take a bucket between two records (log 14). -/
def State.listWaiting (s : State) : Bool :=
  match s.list.work with
  | some ⟨_, .request⟩ => true
  | _ => false

/-- REBUILD_WALK_BUCKET. With no walk, or with another side waiting at the table port, the command does nothing (R27, log 1,
log 14). -/
def execRebuildWalkBucket (bad : List TableWord) (s : State) : Host.Outcome State Fault Refusal :=
  if s.listTurn = true ∧ s.listWaiting = false ∧ s.tab.filter = .rebuilding then .next (walkBucket (damage bad s)) else .next s

/-! ## ZONE (R149, R150) -/

/-- The occupancy an ADJUST gives, clamped (R150). -/
def adjusted (occupancy : Nat) (delta : Int) : Nat := (max 0 (min 65535 ((occupancy : Int) + delta))).toNat

/-- The effect of a ZONE action (R150). -/
def zoneEffect (z : ZoneId) (a : ZoneAction) (s : State) : State :=
  match a with
  | .setOccupancy v => setOccupancy z v s
  | .adjust delta => setOccupancy z (adjusted (s.zone z).occupancy delta) s
  | .setCapacity v => s.setZone z { s.zone z with capacity := v }

/-- CLAMPED of a ZONE result (R150). -/
def ZoneAction.clamped (a : ZoneAction) (occupancy : Nat) : Bool :=
  match a with
  | .adjust delta => decide ((occupancy : Int) + delta < 0 ∨ 65535 < (occupancy : Int) + delta)
  | .setOccupancy _ => false
  | .setCapacity _ => false

/-- The return of a ZONE request, from the zone before and after it (R149, 12.4). -/
def zoneReply (d : Desc) (before after : Zone) (clamped : Bool) : Reply :=
  ⟨.done,
    halfBytes before.capacity ++ halfBytes before.occupancy ++ [BitVec.ofNat 8 before.reserved, 0] ++
      halfBytes after.capacity ++ halfBytes after.occupancy ++
      [BitVec.ofNat 8 after.reserved, flagByte clamped, d.byte 0, d.byte 1], []⟩

/-- A taken ZONE request: it breaks an open chain, and is carried out in one step and returned (R57, R149). -/
def zoneDesc (d : Desc) (s : State) : State :=
  let s1 := breakChain s
  match parseZone d with
  | none => returnList d (Reply.bare .malformed) s1
  | some (z, a) =>
    let s2 := zoneEffect z a s1
    returnList d (zoneReply d (s1.zone z) (s2.zone z) (a.clamped (s1.zone z).occupancy)) s2

/-- ZONE_SET_OCCUPANCY. With no such ZONE descriptor just taken the command does nothing (log 1). -/
def execZoneSetOccupancy (s : State) : Host.Outcome State Fault Refusal :=
  match s.listTaken .zone 1 (claimsAction 0 0 2) with
  | none => .next s
  | some d => .next (zoneDesc d s)

/-- ZONE_ADJUST. -/
def execZoneAdjust (s : State) : Host.Outcome State Fault Refusal :=
  match s.listTaken .zone 1 (claimsAction 1 0 2) with
  | none => .next s
  | some d => .next (zoneDesc d s)

/-- ZONE_SET_CAPACITY. -/
def execZoneSetCapacity (s : State) : Host.Outcome State Fault Refusal :=
  match s.listTaken .zone 1 (claimsAction 2 0 2) with
  | none => .next s
  | some d => .next (zoneDesc d s)

/-! ## MONITOR (R159) and PROFILE (R88) -/

/-- The return of a MONITOR request (R159, 12.4). -/
def monitorReply (before : Monitor) (outputAfter : Bool) : Reply :=
  ⟨.done,
    [flagByte before.enable, BitVec.ofNat 8 before.zone.val, before.mode.code, before.edge.code, BitVec.ofNat 8 before.steadiness,
      flagByte before.recordOn, before.link.code] ++ halfBytes before.level ++ halfBytes before.low ++ halfBytes before.high ++
      [flagByte before.output, BitVec.ofNat 8 before.count, flagByte outputAfter], []⟩

/-- A taken MONITOR request (R57, R159). -/
def monitorDesc (d : Desc) (s : State) : State :=
  let s1 := breakChain s
  match parseMonitorDesc d with
  | none => returnList d (Reply.bare .malformed) s1
  | some (n, m) =>
    let m1 := m.recompute (s1.zone m.zone).occupancy
    returnList d (monitorReply (s1.monitor n) m1.output) (s1.setMonitor n m1)

/-- MONITOR. With no MONITOR descriptor just taken the command does nothing (log 1). -/
def execMonitor (s : State) : Host.Outcome State Fault Refusal :=
  match s.listTaken .monitor 0 claimsAll with
  | none => .next s
  | some d => .next (monitorDesc d s)

/-- The flag byte of a profile: bit 0 NO_OPEN, bit 1 NO_CLOSE (12.3). DESIGN CHOICE: bits 2 to 7, which 12.3 does not name, are 0
in a result (log 43). -/
def Profile.flagByte (p : Profile) : Byte := BitVec.ofNat 8 (bitNat p.noOpen + 2 * bitNat p.noClose)

/-- The state with another window profile. -/
def State.setProfile (s : State) (p : ProfileId) (x : Profile) : State :=
  s.setAdm { s.adm with profiles := s.adm.profiles.set p.val x p.isLt }

/-- The window profile a PROFILE descriptor carries (12.4). -/
def profileOfDesc (d : Desc) : Profile :=
  ⟨wordAt d.payload 4, wordAt d.payload 8, (d.byte 1).getLsbD 0, (d.byte 1).getLsbD 1⟩

/-- A taken PROFILE is carried out: it breaks an open chain, and the named profile is replaced (R57, R88). -/
def carryOutProfile (d : Desc) (s : State) : State :=
  match profileOf (d.byte 0) with
  | none => breakChain s
  | some p => (breakChain s).setProfile p (profileOfDesc d)

/-- The return of a PROFILE request, from the profile before it (R88, 12.4). -/
def profileReply (old : Profile) : Reply :=
  ⟨.done, wordBytes old.openTime ++ wordBytes old.closeTime ++ [old.flagByte], []⟩

/-- A taken PROFILE request, with its return (R88). -/
def profileDesc (d : Desc) (s : State) : State :=
  match profileOf (d.byte 0) with
  | none => returnList d (Reply.bare .malformed) (carryOutProfile d s)
  | some p => returnList d (profileReply (s.adm.profiles.get p)) (carryOutProfile d s)

/-- PROFILE. With no PROFILE descriptor just taken the command does nothing (log 1). -/
def execProfile (s : State) : Host.Outcome State Fault Refusal :=
  match s.listTaken .profile 0 claimsAll with
  | none => .next s
  | some d => .next (profileDesc d s)

end Sys2Proof.Machine
end

