-- ==== Sys2Proof/Machine/ControlWindow.lean ====
section
/-! DEFINITION. The control window, the part commands, setup, power-on and reset (chapter 11 and the reset rules of the other
chapters). -/

namespace Sys2Proof.Machine

/-! ## What a STOP or a reset meets half done (R32, R82, R88, R105, log 9) -/

/-- The gate side's next operation has begun its writes: they are completed, and nothing of it is reported. -/
def completeGate (s : State) : State :=
  match s.lookupDue with
  | some (_, i, key) =>
    if (s.judge i key).location.isSome then applyVerdict i key (s.judge i key) s else s
  | none =>
    match s.closingDue with
    | some (i, h, o, key, loc) =>
      if s.tab.memory.fails loc.word then s
      else
        match s.heldEntry key loc with
        | none => s
        | some e => s.setMemory (s.tab.memory.writeEntry loc (closeEntry i h o s.now e))
    | none => s

/-- The list side's table operation has begun its writes: they are completed, and nothing of it is reported. Gate requests that
have come since wait for it (R27). -/
def completeList (s : State) : State :=
  match s.list.work with
  | some ⟨d, .loading n _⟩ =>
    match s.batchRecord d n with
    | none => s
    | some r => ((applyRecord r s).map Prod.fst).getD s
  | some ⟨d, .request⟩ => ((requestOperation d s).map Prod.fst).getD s
  | _ => s

/-- The taken PROFILE has been carried out, and is not returned (R88). -/
def completeProfile (s : State) : State :=
  match s.listTaken .profile 0 claimsAll with
  | none => s
  | some d => carryOutProfile d s

/-- What is completed before a STOP or a reset takes effect. -/
def completeFlight (f : InFlight) (s : State) : State :=
  if s.portUp then
    match f with
    | .idle => s
    | .gate => completeGate s
    | .list => completeList s
    | .profile => completeProfile s
    | .gateThenProfile => completeProfile (completeGate s)
    | .profileThenGate => completeGate (completeProfile s)
  else s

/-! ## The STOP effects (R185) -/

/-- The state in another part state. -/
def setPart (p : PartState) (s : State) : State := s.setCtl { s.ctl with part := p }

/-- STOP removes the hold of a lane, its HOLD fall taken without evaluation (R105, R106, R136). -/
def stopHold (s : State) (i : LaneId) : State :=
  if (s.hold i).isSome then
    let s1 := removeHold i false s
    s1.setLane i { s1.lane i with prev := { (s1.lane i).prev with hold := false } }
  else s

/-- Every zone's reserved count falls to 0 (R105, R148). -/
def clearReserved (s : State) : State :=
  zoneOrder.foldl (fun t z => t.setZone z { t.zone z with reserved := 0 }) s

/-- The ring units and the journal unit stop: descriptors in progress are abandoned, requests leave the port, and timers stop
(R174, R59, R181). -/
def stopUnits (s : State) : State :=
  let s1 := s.setGate { s.gate with poll := none, work := none }
  let s2 := s1.setList { s1.list with poll := none, work := none, wait := none }
  let s3 := s2.setTab { s2.tab with port := [] }
  s3.setJrn { s3.jrn with poll := none }

/-- The STOP effects, with the part HALTED (R185, R39, R105, R174). -/
def stopEffects (s : State) : State :=
  stopUnits (abandonRebuild (clearReserved (laneOrder.foldl stopHold (setPart .halted s))))

/-! ## Setup results (R188) -/

/-- The outcome of a setup's table step (R188). -/
inductive TableOutcome where
  | none
  | formatted
  | reused
deriving DecidableEq, Repr

/-- The code of a table outcome (12.1). -/
def TableOutcome.code : TableOutcome → Byte
  | .none => 0
  | .formatted => 1
  | .reused => 2

/-- The setup result is written into the block's result area (R188, 12.3); byte 35 is not written (log 28). -/
def writeResult (r : SetupRun) (ok : Bool) (code : FailureCode) (o : TableOutcome) (withdrawn : Nat) (s : State) : State :=
  let s1 := s.writeBytes (r.base + 33) [code.code, o.code]
  let s2 := s1.writeBytes (r.base + 36) (wordBytes (BitVec.ofNat 32 withdrawn))
  s2.writeBytes (r.base + 32) [if ok then 1 else 2]

/-- A setup fails or is abandoned: its result, if check 1 had passed, then SETUP_FAILED, and HALTED with no valid setup (R188). -/
def failSetup (code : FailureCode) (s : State) : State :=
  let s1 :=
    match s.ctl.setupRun with
    | some r => if r.stage = .entered then s else writeResult r false code .none 0 s
    | none => s
  let s2 := notify .setupFailed s1
  s2.setCtl { s2.ctl with part := .halted, setupComplete := false, failure := code, setupRun := none }

/-! ## INIT: the setup checks (R186) -/

/-- The bytes of a request ring. -/
def Ring.descRegion (r : Ring) : Nat := Config.descBytes * 2 ^ r.exp

/-- The bytes of a journal ring. -/
def Ring.slotRegion (r : Ring) : Nat := Config.slotBytes * 2 ^ r.exp

/-- A region lies within 0x00040 to 0x3FFFF. -/
def inWindow (base length : Nat) : Bool := decide (Config.windowBase ≤ base ∧ base + length ≤ Config.windowEnd)

/-- A request ring is placed as R161 asks. -/
def Ring.requestPlaced (r : Ring) : Bool :=
  decide (3 ≤ r.exp ∧ r.exp ≤ 8 ∧ r.base % 64 = 0) && inWindow r.base r.descRegion

/-- A journal ring is placed as R175 asks. -/
def Ring.journalPlaced (r : Ring) : Bool :=
  decide (3 ≤ r.exp ∧ r.exp ≤ 9 ∧ r.base % 32 = 0) && inWindow r.base r.slotRegion

/-- Two regions, each a base and a length, share a byte. -/
def overlap (a b : Nat × Nat) : Bool := decide (a.1 < b.1 + b.2 ∧ b.1 < a.1 + a.2)

/-- Some two regions of a list share a byte. -/
def anyOverlap : List (Nat × Nat) → Bool
  | [] => false
  | a :: rest => rest.any (overlap a) || anyOverlap rest

/-- The setup block is placed as check 1 asks. -/
def blockPlaced (at_ : Nat) : Bool := decide (at_ % 64 = 0) && inWindow at_ Config.setupBytes

/-- Checks 2 to 5 of a setup block: the failure code of the first that fails (R186). -/
def SetupRun.check (r : SetupRun) : Option FailureCode :=
  let g := r.gateRing
  let l := r.listRing
  let j := r.journalRing
  if r.half 0 ≠ 1 then some .version
  else if !(g.requestPlaced && l.requestPlaced && j.journalPlaced) then some .placement
  else if anyOverlap
      [(g.base, g.descRegion), (l.base, l.descRegion), (j.base, j.slotRegion), (r.base, Config.setupBytes)] then some .overlap
  else if ¬(12 ≤ r.k ∧ r.k ≤ 17 ∧ 1 ≤ r.u ∧ r.u ≤ 64) then some .geometry
  else none

/-- The first step of a format: the filter is SUSPECT and the marker is cleared (R30). -/
def beginFormat (s : State) : State :=
  s.setTab { s.tab with filter := .suspect, memory := { s.tab.memory with marker := none } }

/-- SETTING_UP is entered: no setup is valid, no ring is in force, and the setup unit reads the setup block (R185, R161, R186). -/
def enterSetup (s : State) : State :=
  let a := s.ctl.setupAt.toNat
  let s1 := s.setCtl
    { s.ctl with
      part := .settingUp, setupComplete := false, failure := .none
      setupRun := some ⟨a, Memory.clip s.xmem a Config.setupBytes, .entered⟩ }
  s1.setCfg { s1.cfg with gate := none, list := none, journal := none }

/-- The state with its setup at another stage. -/
def setStage (r : SetupRun) (g : SetupStage) (s : State) : State :=
  s.setCtl { s.ctl with setupRun := some { r with stage := g } }

/-- Check 1, where it has not been made (R186). -/
def makeFirstCheck (s : State) : State :=
  match s.ctl.setupRun with
  | some r =>
    if r.stage = .entered then (if blockPlaced r.base then setStage r .checking s else failSetup .placement s) else s
  | none => s

/-- Checks 2 to 5, where check 1 has passed and they have not been made, and then the start of a format that the block asks for
(R186, R187). -/
def makeBlockChecks (s : State) : State :=
  match s.ctl.setupRun with
  | some r =>
    if r.stage = .checking then
      match r.check with
      | some code => failSetup code s
      | none => if r.format then beginFormat (setStage r .table s) else setStage r .table s
    else s
  | none => s

/-- The setup comes to a stage, unless a check ends it first (log 22). -/
def advanceSetup (g : SetupStage) (s : State) : State :=
  match g with
  | .entered => s
  | .checking => makeFirstCheck s
  | .table => makeBlockChecks (makeFirstCheck s)

/-- Setup starts, and comes to a stage before the next command (R186, R187). -/
def startSetup (g : SetupStage) (s : State) : State := advanceSetup g (enterSetup s)

/-! ## TABLE_STEP: the completing step (R187) -/

/-- The tracker that setup gives a lane (R121). -/
def setupTracker (l : Lane) : Tracker :=
  if l.enabled = true ∧ armPosition l.level ≠ 0 then ⟨.fault, armPosition l.level, 0⟩ else Tracker.atRest

/-- A lane as setup programs it from the block (R133, R121, R145). -/
def SetupRun.programmed (r : SetupRun) (i : LaneId) (l : Lane) : Lane :=
  let l1 := r.laneSettings i l
  { l1 with
    agree := Agreement.zero
    sampleMs := 0
    tracker := setupTracker l1
    mode := if l1.level.fire then .emergency else .base (r.laneMode i)
    afterEmergency := if l1.level.fire then some (r.laneMode i) else none
    pendingMode := none
    tally := 0
    token := none
    alert := .idle
    overrun := false }

/-- Setup programs a lane, restarts its watch, and delivers what a RAW period changes as one event (R114, R133, R144, log 21). -/
def programLane (r : SetupRun) (s : State) (i : LaneId) : State :=
  let s1 := takeTerms i (s.setLane i (r.programmed i (s.lane i)))
  restartConditioning i (s1.lane i).period s1

/-- Setup's rings, positions, chain, hold table and journal (R187 step 1), with the geometry and timings in force. -/
def programRings (r : SetupRun) (s : State) : State :=
  let s1 := s.setCfg ⟨some r.gateRing, some r.listRing, some r.journalRing, r.poll, r.chainWait⟩
  let s2 := s1.setGate ⟨0, none, none⟩
  let s3 := s2.setList { s2.list.closeChain with take := 0, poll := none, work := none }
  let s4 := s3.setTab { s3.tab with k := r.k, u := r.u, port := [] }
  let s5 := laneOrder.foldl (fun t i => t.setHold i none) s4
  s5.setJrn ⟨0, [], 0, none⟩

/-- Setup's zones, monitors, window profiles and check scheme (R187 step 3). -/
def programZones (r : SetupRun) (s : State) : State :=
  let s1 := zoneOrder.foldl (fun t z => t.setZone z (r.zone z)) s
  let s2 :=
    monitorOrder.foldl
      (fun t m => t.setMonitor m ((r.monitor m).recompute (t.zone (r.monitor m).zone).occupancy)) s1
  s2.setAdm ⟨Vector.ofFn r.profile, r.scheme⟩

/-- The completing step of a setup whose table step succeeded (R187). -/
def completeSetup (r : SetupRun) (o : TableOutcome) (withdrawn : Nat) (s : State) : State :=
  let s1 := programZones r (laneOrder.foldl (programLane r) (programRings r s))
  let s2 := notify .setupDone (writeResult r true .none o withdrawn s1)
  s2.setCtl { s2.ctl with part := .standby, setupComplete := true, setupRun := none }

/-- The table step of a format whose test ended as `bad` says (R30). -/
def formatStep (r : SetupRun) (bad : List TableWord) (s : State) : State :=
  match failingBucket r.k bad with
  | some b => failSetup .tableTest (s.setMemory (halfFormatted b s.tab.memory))
  | none =>
    let m := formatted r.k r.u bad
    completeSetup r .formatted m.withdrawn.length
      (s.setTab { s.tab with memory := m, presence := [], filter := .valid })

/-- The table step of a reuse (R31). -/
def reuseStep (r : SetupRun) (bad : List TableWord) (s : State) : State :=
  let s1 := damage bad s
  match reusable r.k r.u s1.tab.memory with
  | none => failSetup .unformatted s1
  | some m => completeSetup r .reused m.withdrawn s1

/-- The table step of a setup in progress and what follows it to the end of the setup (R187). -/
def endSetup (bad : List TableWord) (s : State) : State :=
  match s.ctl.setupRun with
  | some r => if r.format then formatStep r bad s else reuseStep r bad s
  | none => s

/-- TABLE_STEP: the checks that are still to be made, and the table step. With no setup in progress the command does nothing
(log 1). -/
def execTableStep (bad : List TableWord) (s : State) : Host.Outcome State Fault Refusal :=
  if s.ctl.resetActive = false ∧ s.ctl.part = .settingUp then .next (endSetup bad (advanceSetup .table s)) else .next s

/-! ## The part commands (R185) -/

/-- STOP in each part state, what it meets half done completed first. -/
def stopCommand (f : InFlight) (s : State) : State :=
  match s.ctl.part with
  | .halted => s
  | .settingUp => failSetup .abandoned s
  | .standby => setPart .halted s
  | .running => stopEffects (completeFlight f s)

/-- INIT in each part state. -/
def initCommand (c : InitCourse) (s : State) : State :=
  match s.ctl.part with
  | .halted => startSetup c.stage s
  | .settingUp => s
  | .standby => startSetup c.stage s
  | .running => startSetup c.stage (stopEffects (completeFlight c.flight s))

/-- The examinations that the entry to RUNNING and PROMPT lead to, the gate ring first (R166, R177, log 23). -/
def examineAll (s : State) : State := journalExamine (examineList (examineGate s))

/-- RUN in each part state. -/
def runCommand (s : State) : State :=
  match s.ctl.part with
  | .halted => if s.ctl.setupComplete then examineAll (setPart .running s) else s
  | .settingUp => s
  | .standby => examineAll (setPart .running s)
  | .running => s

/-- PROMPT in each part state (R167, R177). -/
def promptCommand (s : State) : State := if s.running then examineAll s else s

/-- A command of the processor that the part takes while RESET_N is not active (log 10). -/
def whileUp (f : State → State) (s : State) : State := if s.ctl.resetActive then s else f s

/-- STOP. -/
def execStop (f : InFlight) (s : State) : Host.Outcome State Fault Refusal := .next (whileUp (stopCommand f) s)

/-- INIT. -/
def execInit (c : InitCourse) (s : State) : Host.Outcome State Fault Refusal := .next (whileUp (initCommand c) s)

/-- RUN. -/
def execRun (s : State) : Host.Outcome State Fault Refusal := .next (whileUp runCommand s)

/-- PROMPT. -/
def execPrompt (s : State) : Host.Outcome State Fault Refusal := .next (whileUp promptCommand s)

/-! ## The registers (R184, R189, R83) -/

/-- A write to CONTROL: the commands of the written bits, in the order STOP, INIT, RUN, PROMPT (R185); nothing is met half done,
and setup comes to its table step (log 4). -/
def writeControl (enables : BitVec 4) (value : Word) (s : State) : State :=
  let v := mergeBytes enables 0 value
  let s1 := if v.getLsbD 0 then stopCommand .idle s else s
  let s2 := if v.getLsbD 1 then initCommand ⟨.idle, .table⟩ s1 else s1
  let s3 := if v.getLsbD 2 then runCommand s2 else s2
  if v.getLsbD 3 then promptCommand s3 else s3

/-- A write to NOTICE clears each flag written as 1 (R189). -/
def writeNotice (enables : BitVec 4) (value : Word) (s : State) : State :=
  s.setCtl { s.ctl with notice := s.ctl.notice &&& ~~~((mergeBytes enables 0 value).setWidth 7) }

/-- A write to NOTICE_EN sets the enables and the master enable (R184). -/
def writeNoticeEn (enables : BitVec 4) (value : Word) (s : State) : State :=
  let v := mergeBytes enables s.readNoticeEn value
  s.setCtl { s.ctl with enables := v.setWidth 7, master := v.getLsbD 31 }

/-- A write to SETUP_AT (R184). -/
def writeSetupAt (enables : BitVec 4) (value : Word) (s : State) : State :=
  s.setCtl { s.ctl with setupAt := mergeBytes enables s.ctl.setupAt value }

/-- A write to CLOCK sets the clock and VALID and restarts the current second (R83, R184). -/
def writeClock (enables : BitVec 4) (value : Word) (s : State) : State :=
  s.setClk ⟨mergeBytes enables s.clk.value value, true, 0⟩

/-- A write to the exchange memory at offset `o`: each byte whose enable is active (R184). -/
def writeExchange (o : Nat) (enables : BitVec 4) (value : Word) (s : State) : State :=
  [0, 1, 2, 3].foldl (fun t i => if enables.getLsbD i then t.writeBytes (o + i) [byteOf value i] else t) s

/-- A processor write to a word of the exchange memory window (R184, log 4). -/
def writeWindow (word : BitVec 16) (enables : BitVec 4) (value : Word) (s : State) : State :=
  let o := 4 * word.toNat
  if Config.windowBase ≤ o then writeExchange o enables value s
  else if s.ctl.resetActive then s
  else if o = 0x00 then writeControl enables value s
  else if o = 0x04 then writeNotice enables value s
  else if o = 0x08 then writeNoticeEn enables value s
  else if o = 0x0C then writeSetupAt enables value s
  else if o = 0x10 then writeClock enables value s
  else s

/-- NOTICE_WRITE. -/
def execNoticeWrite (enables : BitVec 4) (value : Word) (s : State) : Host.Outcome State Fault Refusal :=
  .next (whileUp (writeNotice enables value) s)

/-- NOTICE_EN_WRITE. -/
def execNoticeEnWrite (enables : BitVec 4) (value : Word) (s : State) : Host.Outcome State Fault Refusal :=
  .next (whileUp (writeNoticeEn enables value) s)

/-- CLOCK_WRITE. -/
def execClockWrite (enables : BitVec 4) (value : Word) (s : State) : Host.Outcome State Fault Refusal :=
  .next (whileUp (writeClock enables value) s)

/-- REGISTER_WRITE. -/
def execRegisterWrite (word : BitVec 16) (enables : BitVec 4) (value : Word) (s : State) : Host.Outcome State Fault Refusal :=
  .next (writeWindow word enables value s)

/-! ## Power-on and RESET_N (R184, R185, R32) -/

/-- The state at power-on, with the levels that stand at the pins and the commands that wait. -/
def powerOnState (s : State) : State :=
  { State.reset with lanes := s.lanes.map (fun l => { Lane.powerOn with pins := l.pins }), pending := s.pending }

/-- POWER_ON. -/
def execPowerOn (s : State) : Host.Outcome State Fault Refusal := .next (powerOnState s)

/-- RESET_N: as at power-on, with the table memory and the exchange memory kept (R32, R174, R185). -/
def execResetN (s : State) : Host.Outcome State Fault Refusal :=
  .next (((powerOnState s).setXmem s.xmem).setMemory s.tab.memory)

/-- RESET_N_ASSERTED: what it meets half done is completed, a journal write step may be cut part-way, and
the part stops all work (R32, R176). -/
def execResetNAsserted (f : InFlight) (cut : BitVec 32) (s : State) : Host.Outcome State Fault Refusal :=
  .next
    (whileUp
      (fun t =>
        let t1 := journalCut cut (completeFlight f t)
        t1.setCtl { t1.ctl with resetActive := true }) s)

end Sys2Proof.Machine
end

