-- ==== Sys2Proof/Machine/Timers.lean ====
section
/-! DEFINITION. What time and the lane pins do: LANE_EVENT, the expiries, the clock's second, and the passing of one millisecond
(R83, R93, R95, R110, R113, R166, R56, R177). -/

namespace Sys2Proof.Machine

/-! ## LANE_EVENT (R113, R115) -/

/-- The pins of a lane read new levels: RAW takes them at once, and with a sample period the sample instant, if it falls, samples
them (R113). DESIGN CHOICE: a sample instant falls whatever part of the period has passed, and the period starts again (log 39). -/
def pinsChange (i : LaneId) (pins : Levels) (sampled : Bool) (s : State) : State :=
  let s1 := s.setLane i { s.lane i with pins := pins }
  match (s.lane i).period with
  | .raw => deliverLevels i pins s1
  | .ms1 => if sampled then takeSample i s1 else s1
  | .ms4 => if sampled then takeSample i s1 else s1
  | .ms16 => if sampled then takeSample i s1 else s1

/-- LANE_EVENT. While RESET_N is active only the pin levels follow (log 10). -/
def execLaneEvent (i : LaneId) (pins : Levels) (sampled : Bool) (s : State) : Host.Outcome State Fault Refusal :=
  .next
    (if s.ctl.resetActive then s.setLane i { s.lane i with pins := pins } else pinsChange i pins sampled s)

/-! ## The expiries -/

/-- A STANDING hold's countdown is at work: the part is RUNNING and the tracker at REST (R93). -/
def State.countingHold (s : State) (i : LaneId) : Option Hold :=
  if s.portUp ∧ (s.lane i).tracker.state = .rest then s.standingHold i else none

/-- The release timer of a hold reaches 0 at REST: the hold lapses, and its removal at once is a watch event (R95, R136). -/
def lapse (i : LaneId) (h : Hold) (s : State) : State :=
  let s1 := endHold i .lapsed (s.setHold i (some { h with remaining := 0, ms := 0 }))
  if (s1.hold i).isNone then watchEvent i s1 else s1

/-- RELEASE_TIMER_EXPIRY. With no countdown at work at the lane the command does nothing (log 1, log 3). -/
def execReleaseTimerExpiry (i : LaneId) (s : State) : Host.Outcome State Fault Refusal :=
  match s.countingHold i with
  | none => .next s
  | some h => .next (lapse i h s)

/-- ESCORT_TOKEN_EXPIRY (R110). -/
def execEscortTokenExpiry (i : LaneId) (s : State) : Host.Outcome State Fault Refusal :=
  .next (whileUp (fun t => t.setLane i { t.lane i with token := none }) s)

/-- A whole second passes at the event clock (R83). -/
def clockAdvance (s : State) : State :=
  if s.clk.valid then
    s.setClk ⟨if s.clk.value = 0x7FFFFFFF then s.clk.value else s.clk.value + 1, true, 0⟩
  else s

/-- CLOCK_SECOND. -/
def execClockSecond (s : State) : Host.Outcome State Fault Refusal := .next (whileUp clockAdvance s)

/-- The poll timer of a request ring unit runs out (R166). -/
def ringPollOut (r : RingId) (s : State) : State :=
  match r with
  | .gate => if s.gate.poll.isSome then examineGate s else s
  | .list => if s.list.poll.isSome then examineList s else s

/-- RING_POLL_EXPIRY. With the poll timer stopped the command does nothing (log 1, log 3). -/
def execRingPollExpiry (r : RingId) (s : State) : Host.Outcome State Fault Refusal := .next (whileUp (ringPollOut r) s)

/-- The chain wait timer runs out: the take position is examined once more, and a descriptor not handed over breaks the chain
(R56). -/
def chainWaitOut (s : State) : State :=
  match s.cfg.list, s.list.wait with
  | some ring, some _ =>
    if s.running ∧ s.list.work = none then
      let s1 := s.setList { s.list with wait := none }
      if s.read (ring.descAddr s.list.take) = 1 then examineList s1 else listWait (breakChain s1)
    else s
  | _, _ => s

/-- CHAIN_WAIT_EXPIRY. With the chain wait timer stopped the command does nothing (log 1, log 3). -/
def execChainWaitExpiry (s : State) : Host.Outcome State Fault Refusal := .next (whileUp chainWaitOut s)

/-- The poll timer of the journal unit runs out (R177). -/
def journalPollOut (s : State) : State := if s.jrn.poll.isSome then journalExamine s else s

/-- JOURNAL_POLL_EXPIRY. With the poll timer stopped the command does nothing (log 1, log 3). -/
def execJournalPollExpiry (s : State) : Host.Outcome State Fault Refusal := .next (whileUp journalPollOut s)

/-! ## One millisecond (log 2) -/

/-- One millisecond of a countdown whose unit is `unit` milliseconds; none where it runs out. -/
def Countdown.pass (c : Countdown) (unit : Nat) : Option Countdown :=
  if unit ≤ c.ms + 1 then (if c.units ≤ 1 then none else some ⟨c.units - 1, 0⟩) else some ⟨c.units, c.ms + 1⟩

/-- One millisecond of the event clock (R83). -/
def tickClock (s : State) : State :=
  if s.clk.valid = false then s
  else if Config.secondMs ≤ s.clk.ms + 1 then clockAdvance s
  else s.setClk { s.clk with ms := s.clk.ms + 1 }

/-- One millisecond of a lane's sampling (R113). -/
def tickSample (i : LaneId) (s : State) : State :=
  match (s.lane i).period.length with
  | none => s
  | some p =>
    if p ≤ (s.lane i).sampleMs + 1 then takeSample i s
    else s.setLane i { s.lane i with sampleMs := (s.lane i).sampleMs + 1 }

/-- One millisecond of a lane's release timer (R93, R95). -/
def tickHold (i : LaneId) (s : State) : State :=
  match s.countingHold i with
  | none => s
  | some h =>
    match (Countdown.mk h.remaining h.ms).pass Config.unitMs with
    | none => lapse i h s
    | some c => s.setHold i (some { h with remaining := c.units, ms := c.ms })

/-- One millisecond of a lane's escort token (R110). -/
def tickToken (i : LaneId) (s : State) : State :=
  match (s.lane i).token with
  | none => s
  | some c => s.setLane i { s.lane i with token := c.pass Config.secondMs }

/-- One millisecond of a lane: its timers count what has passed, and then its sample is taken, so that a release timer which the
sample reloads or resumes counts from there (log 2). -/
def tickLane (s : State) (i : LaneId) : State := tickSample i (tickToken i (tickHold i s))

/-- One millisecond of a poll timer: it runs out, or its count falls. -/
def tickGatePoll (s : State) : State :=
  match s.gate.poll with
  | none => s
  | some n => if n ≤ 1 then examineGate s else s.setGate { s.gate with poll := some (n - 1) }

/-- One millisecond of the list ring unit's poll timer (R166). -/
def tickListPoll (s : State) : State :=
  match s.list.poll with
  | none => s
  | some n => if n ≤ 1 then examineList s else s.setList { s.list with poll := some (n - 1) }

/-- One millisecond of the chain wait timer (R51, R56). -/
def tickChainWait (s : State) : State :=
  match s.list.wait with
  | none => s
  | some c =>
    match c.pass Config.unitMs with
    | none => chainWaitOut s
    | some c1 => s.setList { s.list with wait := some c1 }

/-- One millisecond of the journal unit's poll timer (R177). -/
def tickJournalPoll (s : State) : State :=
  match s.jrn.poll with
  | none => s
  | some n => if n ≤ 1 then journalExamine s else s.setJrn { s.jrn with poll := some (n - 1) }

/-- One millisecond of the chain wait timer, where it ran as the millisecond began: one that an examination has started since
counts from the next. -/
def tickRunningWait (ran : Bool) (s : State) : State := if ran then tickChainWait s else s

/-- One millisecond of the journal unit's poll timer, where it ran as the millisecond began: one that the examination for a record
made since has loaded counts from the next (R177). -/
def tickRunningPoll (ran : Bool) (s : State) : State := if ran then tickJournalPoll s else s

/-- One millisecond passes: the clock, the lanes in ascending number, and the ring timers. A timer counts only a millisecond at
whose start it ran, so that it runs out after the whole time it was loaded with (log 2). -/
def tick (s : State) : State :=
  if s.ctl.resetActive then s
  else
    tickRunningPoll s.jrn.poll.isSome
      (tickRunningWait s.list.wait.isSome (tickListPoll (tickGatePoll (laneOrder.foldl tickLane (tickClock s)))))

end Sys2Proof.Machine
end

