-- ==== Sys2Proof/Machine/Dispatch.lean ====
section
/-! DEFINITION. One arm for each command, each a direct call of its meaning. -/

namespace Sys2Proof.Machine

def exec (i : Instr) (s : State) : Host.Outcome State Fault Refusal :=
  match i with
  | .powerOn => Sys2Proof.Machine.execPowerOn s
  | .resetN => Sys2Proof.Machine.execResetN s
  | .stop flight => Sys2Proof.Machine.execStop flight s
  | .init course => Sys2Proof.Machine.execInit course s
  | .run => Sys2Proof.Machine.execRun s
  | .prompt => Sys2Proof.Machine.execPrompt s
  | .noticeWrite enables value => Sys2Proof.Machine.execNoticeWrite enables value s
  | .noticeEnWrite enables value => Sys2Proof.Machine.execNoticeEnWrite enables value s
  | .clockWrite enables value => Sys2Proof.Machine.execClockWrite enables value s
  | .registerWrite word enables value => Sys2Proof.Machine.execRegisterWrite word enables value s
  | .tableStep bad => Sys2Proof.Machine.execTableStep bad s
  | .laneEvent lane pins sampled => Sys2Proof.Machine.execLaneEvent lane pins sampled s
  | .releaseTimerExpiry lane => Sys2Proof.Machine.execReleaseTimerExpiry lane s
  | .escortTokenExpiry lane => Sys2Proof.Machine.execEscortTokenExpiry lane s
  | .clockSecond => Sys2Proof.Machine.execClockSecond s
  | .ringPollExpiry ring => Sys2Proof.Machine.execRingPollExpiry ring s
  | .chainWaitExpiry => Sys2Proof.Machine.execChainWaitExpiry s
  | .journalPollExpiry => Sys2Proof.Machine.execJournalPollExpiry s
  | .present => Sys2Proof.Machine.execPresent s
  | .admissionLookup bad => Sys2Proof.Machine.execAdmissionLookup bad s
  | .closingOperation bad => Sys2Proof.Machine.execClosingOperation bad s
  | .manualRelease => Sys2Proof.Machine.execManualRelease s
  | .manualEscort => Sys2Proof.Machine.execManualEscort s
  | .lane => Sys2Proof.Machine.execLane s
  | .alertTake => Sys2Proof.Machine.execAlertTake s
  | .alertClear => Sys2Proof.Machine.execAlertClear s
  | .alertEnable => Sys2Proof.Machine.execAlertEnable s
  | .alertDisable => Sys2Proof.Machine.execAlertDisable s
  | .alertRaise => Sys2Proof.Machine.execAlertRaise s
  | .load => Sys2Proof.Machine.execLoad s
  | .batchRecord bad => Sys2Proof.Machine.execBatchRecord bad s
  | .revoke => Sys2Proof.Machine.execRevoke s
  | .restore => Sys2Proof.Machine.execRestore s
  | .mark => Sys2Proof.Machine.execMark s
  | .query => Sys2Proof.Machine.execQuery s
  | .listRequest bad => Sys2Proof.Machine.execListRequest bad s
  | .rebuild => Sys2Proof.Machine.execRebuild s
  | .rebuildWalkBucket bad => Sys2Proof.Machine.execRebuildWalkBucket bad s
  | .zoneSetOccupancy => Sys2Proof.Machine.execZoneSetOccupancy s
  | .zoneAdjust => Sys2Proof.Machine.execZoneAdjust s
  | .zoneSetCapacity => Sys2Proof.Machine.execZoneSetCapacity s
  | .monitor => Sys2Proof.Machine.execMonitor s
  | .profile => Sys2Proof.Machine.execProfile s
  | .resetNAsserted flight cut => Sys2Proof.Machine.execResetNAsserted flight cut s

end Sys2Proof.Machine
end

