-- ==== Sys2Proof/Safety.lean ====
section
/-! DEFINITION. What a safe state of the KG818 is: the conditions that the manual says hold at every moment, in the terms the
statements use. -/

namespace Sys2Proof.Machine

/-! ## Outcomes -/

/-- A command completes at a state with a next state of which `p` holds. -/
def Completes (c : Instr) (s : State) (p : State → Prop) : Prop := ∃ t, exec c s = .next t ∧ p t

/-- A condition that every step keeps. -/
def StepKeeps (p : State → Prop) : Prop := ∀ s t, p s → step s = .next t → p t

/-! ## Bounds (R146, R153, R179, R180) -/

/-- The holding queue holds up to 32 records, and the gap count lies from 0 to 65,535. -/
def Journal.Bounded (j : Journal) : Prop := j.queue.length ≤ Config.queueRecords ∧ j.gap ≤ Config.countLimit

/-- Capacity and occupancy of every zone lie from 0 to 65,535. -/
def State.ZonesBounded (s : State) : Prop :=
  ∀ z, (s.zone z).capacity ≤ Config.countLimit ∧ (s.zone z).occupancy ≤ Config.countLimit

/-- The settings and the steadiness count of a monitor lie in the ranges of R153, and a monitor that is not enabled has output
false and count 0. -/
def Monitor.Sound (m : Monitor) : Prop :=
  m.level ≤ Config.countLimit ∧ m.low ≤ Config.countLimit ∧ m.high ≤ Config.countLimit ∧ m.steadiness ≤ 7 ∧
    m.count ≤ m.steadiness ∧ (m.enable = false → m.output = false ∧ m.count = 0)

/-- Every monitor is sound. -/
def State.MonitorsSound (s : State) : Prop := ∀ m, (s.monitor m).Sound

/-! ## Lanes (R116, R121, R125) -/

/-- A tracker at REST stands at P0 with turn 0, and the turn of a TURNING tracker names its position (R116). -/
def Tracker.Sound (t : Tracker) : Prop :=
  match t.state with
  | .rest => t.position = 0 ∧ t.turn = 0
  | .turning => t.position ≠ 0 ∧ -3 ≤ t.turn ∧ t.turn ≤ 3 ∧ t.turn % 4 = t.position.val
  | .fault => True

/-- Every tracker is sound, and the tracker of a disabled lane stays at REST with turn 0 (R116, R121). -/
def State.TrackersSound (s : State) : Prop :=
  ∀ i, (s.lane i).tracker.Sound ∧ ((s.lane i).enabled = false → (s.lane i).tracker = Tracker.atRest)

/-- The mode is EMERGENCY exactly while the conditioned FIRE level is 1, the mode-after-emergency is present exactly while the
lane is in EMERGENCY, and a pending mode waits for a hold (R125). -/
def State.ModesSound (s : State) : Prop :=
  ∀ i, ((s.lane i).mode = .emergency ↔ (s.lane i).level.fire = true) ∧
    ((s.lane i).afterEmergency.isSome = true ↔ (s.lane i).mode = .emergency) ∧
    ((s.lane i).pendingMode.isSome = true → (s.hold i).isSome = true)

/-! ## Holds (R89, R127, R148) -/

/-- A hold of an ENTRY lane in a zone. -/
def reserves (z : ZoneId) (h : Option Hold) : Bool :=
  match h with
  | none => false
  | some h => decide (h.direction = .entry ∧ h.zone = z)

/-- The ENTRY holds in force in a zone. -/
def State.entryHolds (s : State) (z : ZoneId) : Nat := laneOrder.countP (fun i => reserves z (s.hold i))

/-- Holds exist only while RUNNING, at enabled lanes whose direction and zone they carry (R89, R90, R127). -/
def State.HoldsPlaced (s : State) : Prop :=
  ∀ i h, s.hold i = some h →
    s.ctl.part = .running ∧ (s.lane i).enabled = true ∧ h.direction = (s.lane i).direction ∧ h.zone = (s.lane i).zone

/-- No two holds carry the same credential key (R89). -/
def State.HoldsDistinct (s : State) : Prop :=
  ∀ i j k, (s.hold i).bind Hold.key = some k → (s.hold j).bind Hold.key = some k → i = j

/-- Each zone's reserved count equals the number of its ENTRY holds (R148). -/
def State.ReservedCounts (s : State) : Prop := ∀ z, (s.zone z).reserved = s.entryHolds z

/-! ## The ticket table (R16, R19, R22, R23, R24, R35) -/

/-- An entry is stored in a bucket of the table. -/
def TableMemory.Stores (t : TableMemory) (b : Nat) (e : Entry) : Prop := e ∈ (t.bucket b).entries

/-- The overflow places that the chains link. -/
def TableMemory.chainPlaces (t : TableMemory) : List Nat := t.buckets.flatMap (fun x => x.2.chain.map Prod.fst)

/-- Under a valid marker the buckets lie in the geometry, and every overflow place is withdrawn, on the free list or linked into
exactly one chain (R16, R19). -/
def TableMemory.Sound (t : TableMemory) : Prop :=
  sparseWf Bucket.empty t.buckets ∧
    ∀ m, t.marker = some m →
      (∀ x ∈ t.buckets, x.1 < 2 ^ m.k) ∧ (t.free ++ t.withdrawn ++ t.chainPlaces).Perm (List.range (1024 * m.u)) ∧
        m.withdrawn = t.withdrawn.length

/-- The table memory is sound, and while the part has a valid setup the marker records the geometry in force (R16); STANDBY and
RUNNING have a valid setup (R185). -/
def State.TableSound (s : State) : Prop :=
  s.tab.memory.Sound ∧
    (s.ctl.part = .standby ∨ s.ctl.part = .running → s.ctl.setupComplete = true) ∧
    (s.ctl.setupComplete = true → ∃ m, s.tab.memory.marker = some m ∧ m.k = s.tab.k ∧ m.u = s.tab.u)

/-- Under a valid marker every entry stands in the bucket of its key, and no key occupies two places (R22, R23). -/
def State.KeysPlaced (s : State) : Prop :=
  ∀ m, s.tab.memory.marker = some m →
    ∀ b, (∀ e, s.tab.memory.Stores b e → bucketIndex m.k e.key = b) ∧
      ((s.tab.memory.bucket b).entries.map Entry.key).Nodup

/-- The location a CREDENTIAL hold records holds an entry of the hold's key (R24). -/
def State.HeldEntries (s : State) : Prop :=
  ∀ i h key loc tier, s.hold i = some h → h.kind = .credential key loc tier →
    ∃ e, s.tab.memory.entryAt loc = some e ∧ e.key = key

/-- While the filter is VALID the bit of every stored key is set, and while it is REBUILDING the part is RUNNING and the shadow
filter has the bit of every key stored in a bucket the walk has passed (R33, R35, R37). -/
def State.FilterSound (s : State) : Prop :=
  (s.tab.filter = .valid → ∀ b e, s.tab.memory.Stores b e → filterIndex e.key ∈ s.tab.presence) ∧
    (s.tab.filter = .rebuilding →
      s.ctl.part = .running ∧
        ∀ b e, s.tab.memory.Stores b e → b < s.tab.walk → filterIndex e.key ∈ s.tab.shadow)

/-- All that keeps the part from stopping: the table is sound, the holds stand where the manual says, and every held entry is
stored. -/
def State.Safe (s : State) : Prop :=
  s.TableSound ∧ s.KeysPlaced ∧ s.HoldsPlaced ∧ s.HoldsDistinct ∧ s.HeldEntries

/-! ## What a command meets -/

/-- The gate ring unit has just taken descriptor `d` of kind `k` at its take position in ring `r`. -/
def State.GateTook (s : State) (r : Ring) (k : ReqKind) (d : Desc) : Prop :=
  s.ctl.part = .running ∧ s.ctl.resetActive = false ∧ s.cfg.gate = some r ∧ s.gate.work = some ⟨d, .taken⟩ ∧
    d.reqKind = some k

/-- The list ring unit has just taken descriptor `d` of kind `k` at its take position in ring `r`. -/
def State.ListTook (s : State) (r : Ring) (k : ReqKind) (d : Desc) : Prop :=
  s.ctl.part = .running ∧ s.ctl.resetActive = false ∧ s.cfg.list = some r ∧ s.list.work = some ⟨d, .taken⟩ ∧
    d.reqKind = some k

/-- The list side is next at the table port, with descriptor `d` of ring `r` in phase `p` (R27). -/
def State.ListAtPort (s : State) (r : Ring) (d : Desc) (p : ListPhase) : Prop :=
  s.ctl.part = .running ∧ s.ctl.resetActive = false ∧ s.tab.port = [] ∧ s.cfg.list = some r ∧ s.list.work = some ⟨d, p⟩

/-- An admission lookup of `key` at lane `i` is next at the table port, for descriptor `d` of ring `r` (R27, R67). -/
def State.LookupAtPort (s : State) (r : Ring) (d : Desc) (i : LaneId) (key : Key) : Prop :=
  s.ctl.part = .running ∧ s.ctl.resetActive = false ∧ s.cfg.gate = some r ∧ s.tab.port.head? = some .lookup ∧
    s.gate.work = some ⟨d, .lookup key⟩ ∧ d.lane = BitVec.ofNat 8 i.val

/-- The closing operation of a CREDENTIAL hold at lane `i` is next at the table port (R97). -/
def State.ClosingAtPort (s : State) (i : LaneId) (h : Hold) (o : HoldOutcome) (key : Key) (loc : Location) (tier : Fin 4) : Prop :=
  s.ctl.part = .running ∧ s.ctl.resetActive = false ∧ s.tab.port.head? = some (.closing i) ∧ s.hold i = some h ∧
    h.phase = .closing o ∧ h.kind = .credential key loc tier

/-! ## The tables of the manual that statements compare the model with -/

/-- Checks 1 to 5 of the table of R66, without check 5 where `withHold` is false (R109). -/
def State.laneReason (s : State) (i : LaneId) (withHold : Bool) : Option Reason :=
  if (s.lane i).enabled = false then some .laneDisabled
  else if (s.lane i).mode = .base .closed then some .laneClosed
  else if (s.lane i).mode = .base .free ∨ (s.lane i).mode = .emergency then some .laneFree
  else if (s.lane i).tracker.state = .fault then some .trackerFault
  else if (s.lane i).watch.lock = true ∧ ((s.lane i).alert = .pending ∨ (s.lane i).alert = .inService) then some .alertActive
  else if withHold = true ∧ (s.hold i).isSome = true then some .laneBusy
  else none

/-- The effective tier of an entry at a lane: the larger of the two tiers (R72). -/
def State.effectiveTier (s : State) (i : LaneId) (e : Entry) : Fin 4 := max e.tier (s.lane i).tier

/-- Check 14 finds the window not yet open (R75). -/
def State.beforeOpen (s : State) (e : Entry) : Prop :=
  s.clk.valid = true ∧ (s.adm.profiles.get e.profile).noOpen = false ∧
    s.clk.value.toInt < (s.adm.profiles.get e.profile).openTime.toInt

/-- Check 14 finds the window closed (R75). -/
def State.afterClose (s : State) (e : Entry) : Prop :=
  s.clk.valid = true ∧ (s.adm.profiles.get e.profile).noClose = false ∧
    (s.adm.profiles.get e.profile).closeTime.toInt ≤ s.clk.value.toInt

/-- Check 14 consults a clock that is not VALID (R75, R81). -/
def State.clockMissing (s : State) (e : Entry) : Prop :=
  s.clk.valid = false ∧
    ((s.adm.profiles.get e.profile).noOpen = false ∨ (s.adm.profiles.get e.profile).noClose = false)

/-- The key is held at a lane (R42). -/
def State.HeldAt (s : State) (key : Key) (j : LaneId) : Prop := (s.hold j).bind Hold.key = some key

/-- Check 13 passes on an ENTRY lane (R74). -/
def State.EntryGrantPasses (s : State) (i : LaneId) (e : Entry) : Prop :=
  (e.grant (s.lane i).zone = .once ∧ e.count = 0) ∨ e.grant (s.lane i).zone = .returning ∨
    (e.grant (s.lane i).zone = .escort ∧ (s.lane i).token.isSome = true)

/-- Checks 12 to 15 of the table of R66 at effective tier 1 to 3: `Refuses s i e r` says that the first of them that fails
refuses for `r` (R73 to R77). -/
inductive Refuses (s : State) (i : LaneId) (e : Entry) : Reason → Prop
  | alreadyIn : (s.lane i).direction = .entry → e.state = .inside → Refuses s i e .alreadyIn
  | entryNever : (s.lane i).direction = .entry → e.state ≠ .inside → e.grant (s.lane i).zone = .never →
      Refuses s i e .wrongZone
  | used : (s.lane i).direction = .entry → e.state ≠ .inside → e.grant (s.lane i).zone = .once → e.count ≠ 0 →
      Refuses s i e .used
  | needEscort : (s.lane i).direction = .entry → e.state ≠ .inside → e.grant (s.lane i).zone = .escort →
      (s.lane i).token = none → Refuses s i e .needEscort
  | tooEarly : (s.lane i).direction = .entry → e.state ≠ .inside → s.EntryGrantPasses i e →
      2 ≤ (s.effectiveTier i e).val → s.beforeOpen e → Refuses s i e .tooEarly
  | tooLate : (s.lane i).direction = .entry → e.state ≠ .inside → s.EntryGrantPasses i e →
      2 ≤ (s.effectiveTier i e).val → ¬s.beforeOpen e → s.afterClose e → Refuses s i e .tooLate
  | zoneFull : (s.lane i).direction = .entry → e.state ≠ .inside → s.EntryGrantPasses i e →
      s.effectiveTier i e = 3 → ¬s.beforeOpen e → ¬s.afterClose e → (s.zone (s.lane i).zone).capacity ≠ 0 →
      (s.zone (s.lane i).zone).capacity ≤ (s.zone (s.lane i).zone).occupancy + (s.zone (s.lane i).zone).reserved →
      Refuses s i e .zoneFull
  | notInside : (s.lane i).direction = .exit → e.state ≠ .inside → Refuses s i e .notInside
  | exitNever : (s.lane i).direction = .exit → e.state = .inside → e.grant (s.lane i).zone = .never →
      Refuses s i e .wrongZone
  | exitKind : (s.lane i).direction = .exit → e.state = .inside →
      e.grant (s.lane i).zone = .once ∨ e.grant (s.lane i).zone = .escort → Refuses s i e .noReturns
  | exitSpent : (s.lane i).direction = .exit → e.state = .inside → e.grant (s.lane i).zone = .returning → e.returns = 0 →
      Refuses s i e .noReturns

/-- A request ring as R161 asks: exponent, alignment and place. -/
def requestRingOk (base exp : Nat) : Prop :=
  3 ≤ exp ∧ exp ≤ 8 ∧ base % 64 = 0 ∧ 0x40 ≤ base ∧ base + 64 * 2 ^ exp ≤ 0x40000

/-- A journal ring as R175 asks: exponent, alignment and place. -/
def journalRingOk (base exp : Nat) : Prop :=
  3 ≤ exp ∧ exp ≤ 9 ∧ base % 32 = 0 ∧ 0x40 ≤ base ∧ base + 32 * 2 ^ exp ≤ 0x40000

/-- Two regions share no byte. -/
def Apart (b1 n1 b2 n2 : Nat) : Prop := b1 + n1 ≤ b2 ∨ b2 + n2 ≤ b1

/-- A word of the exchange memory, least significant byte first (12). -/
def State.readWord (s : State) (a : Nat) : Nat :=
  (s.read a).toNat + 256 * (s.read (a + 1)).toNat + 65536 * (s.read (a + 2)).toNat + 16777216 * (s.read (a + 3)).toNat

/-- A half word of the exchange memory, least significant byte first (12). -/
def State.readHalf (s : State) (a : Nat) : Nat := (s.read a).toNat + 256 * (s.read (a + 1)).toNat

/-- Check 1 of R186: the setup block's own place. -/
def blockOk (a : Nat) : Prop := a % 64 = 0 ∧ 0x40 ≤ a ∧ a + 1088 ≤ 0x40000

/-- Check 2 of R186: the version. -/
def State.versionOk (s : State) (a : Nat) : Prop := s.readHalf a = 1

/-- Check 3 of R186: the rings' places. -/
def State.ringsOk (s : State) (a : Nat) : Prop :=
  requestRingOk (s.readWord (a + 8)) (s.read (a + 12)).toNat ∧ requestRingOk (s.readWord (a + 16)) (s.read (a + 20)).toNat ∧
    journalRingOk (s.readWord (a + 24)) (s.read (a + 28)).toNat

/-- Check 4 of R186: the gate ring, the list ring, the journal ring and the block share no byte. -/
def State.regionsOk (s : State) (a : Nat) : Prop :=
  let g := 64 * 2 ^ (s.read (a + 12)).toNat
  let l := 64 * 2 ^ (s.read (a + 20)).toNat
  let j := 32 * 2 ^ (s.read (a + 28)).toNat
  Apart (s.readWord (a + 8)) g (s.readWord (a + 16)) l ∧ Apart (s.readWord (a + 8)) g (s.readWord (a + 24)) j ∧
    Apart (s.readWord (a + 8)) g a 1088 ∧ Apart (s.readWord (a + 16)) l (s.readWord (a + 24)) j ∧
    Apart (s.readWord (a + 16)) l a 1088 ∧ Apart (s.readWord (a + 24)) j a 1088

/-- Check 5 of R186: the geometry. -/
def State.geometryOk (s : State) (a : Nat) : Prop :=
  12 ≤ (s.read (a + 4)).toNat ∧ (s.read (a + 4)).toNat ≤ 17 ∧ 1 ≤ (s.read (a + 5)).toNat ∧ (s.read (a + 5)).toNat ≤ 64

/-- A failed or abandoned setup with a failure code: HALTED, with the code in CONTROL and SETUP_FAILED set (R188). -/
def SetupFailedWith (code : FailureCode) (s t : State) : Prop :=
  t.ctl.part = .halted ∧ t.ctl.setupComplete = false ∧ t.ctl.failure = code ∧ t.ctl.setupRun = none ∧
    t.flagSet .setupFailed = true ∧ ∀ f, f ≠ .setupFailed → t.flagSet f = s.flagSet f

/-- The setup result stands in the result area of the block at `a`, and every other byte is as before (R188, 12.3). -/
def SetupResult (a : Nat) (status failure outcome : Byte) (withdrawn : Nat) (s t : State) : Prop :=
  t.read (a + 32) = status ∧ t.read (a + 33) = failure ∧ t.read (a + 34) = outcome ∧ t.readWord (a + 36) = withdrawn ∧
    ∀ b, (b < a + 32 ∨ b = a + 35 ∨ a + 40 ≤ b) → t.read b = s.read b

/-- The conditioning of one input at one sample: level and count before, the sampled level, level and count after (R113). -/
def Conditioned (level : Bool) (count : Nat) (sampled level' : Bool) (count' : Nat) : Prop :=
  if sampled = level then level' = level ∧ count' = 0
  else if count + 1 < 3 then level' = level ∧ count' = count + 1
  else level' = sampled ∧ count' = 0

/-- A LANE_EVENT conditions the inputs of lane `i`, and the lane is then `c` but for what the levels that arrive bring about: RAW
takes the pins at once, and the sample instant of a period takes the level that each input's agreement gives (R113). The part is
not held in reset. -/
def State.Arrives (s : State) (i : LaneId) (pins : Levels) (sampled : Bool) (c : Lane) : Prop :=
  let l := s.lane i
  s.ctl.resetActive = false ∧
    ((l.period = .raw ∧ c = { l with pins := pins, level := pins }) ∨
      (l.period ≠ .raw ∧ sampled = true ∧
        c = { l with pins := pins, level := c.level, agree := c.agree, sampleMs := 0 } ∧
        Conditioned l.level.armA l.agree.armA pins.armA c.level.armA c.agree.armA ∧
        Conditioned l.level.armB l.agree.armB pins.armB c.level.armB c.agree.armB ∧
        Conditioned l.level.beam l.agree.beam pins.beam c.level.beam c.agree.beam ∧
        Conditioned l.level.fire l.agree.fire pins.fire c.level.fire c.agree.fire))

/-- One millisecond of a timer of units of `unit` milliseconds; none where it runs out (log 2). -/
def countedMs (c : Countdown) (unit : Nat) : Option Countdown :=
  if c.ms + 1 < unit then some ⟨c.units, c.ms + 1⟩ else if 1 < c.units then some ⟨c.units - 1, 0⟩ else none

/-- The setup reads the block at `r.base` as it was read at INIT: the state with the block in place of the exchange memory. -/
def State.ofBlock (s : State) (r : SetupRun) : State := s.setXmem r.block

/-- The five checks of R186 on a block at `a`, and the failure code of the first that fails. -/
def State.setupChecks (s : State) (a : Nat) (code : Option FailureCode) : Prop :=
  (¬blockOk a ∧ code = some .placement) ∨ (blockOk a ∧ ¬s.versionOk a ∧ code = some .version) ∨
    (blockOk a ∧ s.versionOk a ∧ ¬s.ringsOk a ∧ code = some .placement) ∨
    (blockOk a ∧ s.versionOk a ∧ s.ringsOk a ∧ ¬s.regionsOk a ∧ code = some .overlap) ∨
    (blockOk a ∧ s.versionOk a ∧ s.ringsOk a ∧ s.regionsOk a ∧ ¬s.geometryOk a ∧ code = some .geometry) ∨
    (blockOk a ∧ s.versionOk a ∧ s.ringsOk a ∧ s.regionsOk a ∧ s.geometryOk a ∧ code = none)

/-- The journal record made now of a kind, a lane and zone, flags but for NO_CLOCK, four detail bytes and a key (R85, R182). -/
def State.recordNow (s : State) (kind : RecordKind) (lane : Option LaneId) (zone : Option ZoneId) (flags : RecordFlags)
    (detail : Word) (key : Key) : Record :=
  ⟨kind, lane, zone, { flags with noClock := decide (s.clk.valid = false) }, if s.clk.valid = true then s.clk.value else 0, detail,
    key⟩

/-- A detail word of four bytes, D0 the least significant (12.5). -/
def detailBytes (d0 d1 d2 d3 : Nat) : Word :=
  BitVec.ofNat 32 (d0 % 256 + 256 * (d1 % 256) + 65536 * (d2 % 256) + 16777216 * (d3 % 256))

/-- A detail word with a count in D2 and D3 (12.5). -/
def detailCount (d0 n : Nat) : Word := detailBytes d0 0 n (n / 256)

/-- A BEAM rise at a STANDING hold: beam seen, and where the retrigger setting is on and fewer than 3 reloads were made, a reload
with the full time (R94); a reload starts a new unit of 100 ms, which is the model's choice (log 31). -/
def Hold.beamArrives (retrigger : Bool) (h : Hold) : Hold :=
  if retrigger = true ∧ h.reloads < 3 then
    { h with beamSeen := true, remaining := h.fullTime, ms := 0, reloads := h.reloads + 1 }
  else { h with beamSeen := true }

/-- Step 1 of an event at lane `i` whose BEAM level goes from `was` to `now`: a rise is handed to the lane's STANDING hold (R115). -/
def State.beamArrives (i : LaneId) (was now : Bool) (s : State) : State :=
  match s.hold i with
  | none => s
  | some h =>
    if was = false ∧ now = true ∧ h.phase = .standing then s.setHold i (some (h.beamArrives (s.lane i).retrigger)) else s

/-- Step 3 of an event at lane `i` whose FIRE level goes from `was` to `now`, on the mode and the hold as they then stand (R115). A
rise: EMERGENCY, the mode it leaves kept, the MODE record, and then the end of a STANDING hold (R128). A fall: the mode kept, after
the TALLY record of a tally above 0 where that mode is not FREE (R129, R123). The model's own: 0xFF for no monitor and 0 in a detail
byte with no name (log 42, log 40). -/
def State.fireArrives (i : LaneId) (was now : Bool) (s : State) : State :=
  let l := s.lane i
  let record (before after cause : Nat) : Record :=
    s.recordNow .mode (some i) (some l.zone) {} (detailBytes before after cause 255) zeroKey
  match was, now, l.mode, l.afterEmergency with
  | false, true, .base m, _ =>
    endHold i .emergency
      (emit (record m.code.toNat 3 0) (s.setLane i { l with mode := .emergency, afterEmergency := some m }))
  | true, false, .emergency, some m =>
    let left :=
      if m ≠ .free ∧ 0 < l.tally then
        emit (s.recordNow .tally (some i) (some l.zone) {} (detailBytes l.tally 1 0 0) zeroKey)
          (s.setLane i { l with afterEmergency := none, tally := 0 })
      else s.setLane i { l with afterEmergency := none }
    emit (record 3 m.code.toNat 1) (left.setLane i { left.lane i with mode := .base m })
  | _, _, _, _ => s

/-- Steps 3 and 4 of an event at lane `i` with the levels `was` before and `now` after it, once steps 1 and 2 have given `s` (R115). -/
def State.eventEnds (i : LaneId) (was now : Levels) (s : State) : State := watchEvent i (s.fireArrives i was.fire now.fire)

/-! ## The words that a walk of the table reads (R22, R26) -/

/-- The words of a bucket in the order in which a walk reads them, each with the entry it holds: main slots 0 to 3, the chain head,
and the overflow places of the chain, link by link (R22). -/
def TableMemory.reads (t : TableMemory) (b : Nat) : List (TableWord × Option Entry) :=
  let x := t.bucket b
  [(.slot b 0, x.slots.get 0), (.slot b 1, x.slots.get 1), (.slot b 2, x.slots.get 2), (.slot b 3, x.slots.get 3), (.head b, none)] ++
    x.chain.map (fun c => (.place c.1, some c.2))

/-- A walk for `key` in bucket `b` comes to the word `w`, which holds `e`, unless a read before it fails: no word before it holds an
entry of the key (R22). -/
def TableMemory.Reaches (t : TableMemory) (b : Nat) (key : Key) (w : TableWord) (e : Option Entry) : Prop :=
  ∃ before rest, t.reads b = before ++ (w, e) :: rest ∧ ∀ x ∈ before, ∀ y, x.2 = some y → y.key ≠ key

/-! ## What a STOP leaves of a lane whose hold it removes (R105, R106) -/

/-- The lane after the removal: the HOLD fall is taken in with no evaluation, a pending mode is applied, in EMERGENCY as the mode to
come after it, and a tally that leaving FREE reports is 0 again; all else is kept (R106, R123, R133, R136, R145). -/
def Lane.stopped (l : Lane) : Lane :=
  let fallen : Lane := { l with prev := { l.prev with hold := false } }
  match l.pendingMode with
  | none => fallen
  | some m =>
    if l.mode = .emergency then { fallen with pendingMode := none, afterEmergency := some m }
    else
      { fallen with pendingMode := none, mode := .base m, tally := if l.mode = .base .free ∧ m ≠ .free then 0 else l.tally }

/-- The TALLY record that the removal makes at a lane, none but where a pending mode takes it from FREE with a tally (R123, log 20). -/
def State.stopTally (s : State) (i : LaneId) : Option Record :=
  let l := s.lane i
  if s.hold i ≠ none ∧ l.mode = .base .free ∧ 0 < l.tally ∧ (l.pendingMode = some .opened ∨ l.pendingMode = some .closed) then
    some (s.recordNow .tally (some i) (some l.zone) {} (detailBytes l.tally 1 0 0) zeroKey)
  else none

/-- The TALLY records of a STOP, in the order of the lanes (log 20). -/
def State.stopTallies (s : State) : List Record := ([0, 1, 2, 3, 4, 5, 6, 7] : List LaneId).filterMap s.stopTally

/-- What a STOP that finds `s` leaves of the lanes and of the records: each lane whose hold it removes is as R106 says and no other
lane changes, and no record is created but the TALLY records, which join the queue or are counted as any other (R105, R179, log 20). -/
def State.HoldsStopped (s t : State) : Prop :=
  let tallies := s.stopTallies
  let room := 32 - s.jrn.queue.length
  (∀ i, t.lane i = if s.hold i = none then s.lane i else (s.lane i).stopped) ∧
    t.jrn.queue = s.jrn.queue ++ tallies.take room ∧
    t.jrn.gap = max s.jrn.gap (min 65535 (s.jrn.gap + (tallies.length - room))) ∧ t.jrn.put = s.jrn.put

/-! ## Regions of the exchange memory that an examination may write -/

/-- Address `a` lies outside a request ring of the part and outside the descriptor at position `take` of it. -/
def OutsideRing (r : Option Ring) (take : Nat) (a : Nat) : Prop :=
  ∀ x, r = some x → (a < x.base ∨ x.base + 64 * 2 ^ x.exp ≤ a) ∧ (a < x.base + 64 * take ∨ x.base + 64 * take + 64 ≤ a)

/-- Address `a` lies outside the journal ring and outside the slot at the put position. -/
def State.OutsideJournal (s : State) (a : Nat) : Prop :=
  ∀ x, s.cfg.journal = some x →
    (a < x.base ∨ x.base + 32 * 2 ^ x.exp ≤ a) ∧ (a < x.base + 32 * s.jrn.put ∨ x.base + 32 * s.jrn.put + 32 ≤ a)

/-- What a PRESENT returns (12.4): the decision and reason, the zone, and what the decision read, each field with its presence bit
and 0 where absent (R81, R190). -/
def presentReply (reason : Option Reason) (z : ZoneId) (tier : Option (Fin 4)) (entry : Option Entry) (holding : Option LaneId)
    (noClock bypassed : Bool) : Reply :=
  let lastLane := entry.bind Entry.lastLane
  let lastTime := entry.bind Entry.lastTime
  let remote := entry.bind Entry.remote
  let bit (b : Bool) (n : Nat) : Nat := if b then n else 0
  ⟨.done,
    [if reason = none then 1 else 2, Reason.code reason, BitVec.ofNat 8 z.val, BitVec.ofNat 8 ((tier.map Fin.val).getD 0),
      ((entry.map (fun e => e.state.code)).getD 0), BitVec.ofNat 8 ((entry.map Entry.count).getD 0),
      BitVec.ofNat 8 ((lastLane.map Fin.val).getD 0), remote.getD 0, BitVec.ofNat 8 ((holding.map Fin.val).getD 0),
      BitVec.ofNat 8
        (bit tier.isSome 1 + bit entry.isSome 2 + bit lastLane.isSome 4 + bit lastTime.isSome 8 + bit remote.isSome 16 +
          bit holding.isSome 32),
      BitVec.ofNat 8 (bit noClock 1 + bit bypassed 2)],
    [(34, [byteOf (lastTime.getD 0) 0, byteOf (lastTime.getD 0) 1, byteOf (lastTime.getD 0) 2, byteOf (lastTime.getD 0) 3])]⟩

/-- What a QUERY of a present key returns (R62, 12.4): the entry's fields, and for a held key the holding lane and what is stored in
the hold. A field whose presence bit is clear reads 0, and an absent pending mark reads 0xFF in its state byte (R190). -/
def queryResult (e : Entry) (held : Option (LaneId × Hold)) : Reply :=
  let mark := held.bind (fun x => x.2.mark)
  let bit (b : Bool) (n : Nat) : Nat := if b then n else 0
  let bytes (w : Word) : List Byte := [byteOf w 0, byteOf w 1, byteOf w 2, byteOf w 3]
  ⟨.done,
    [match e.state with | .outside => 0 | .inside => 1 | .revoked => 2,
      BitVec.ofNat 8 e.tier.val, BitVec.ofNat 8 e.profile.val, BitVec.ofNat 8 e.returns.val, BitVec.ofNat 8 e.count,
      BitVec.ofNat 8 ((e.lastLane.map Fin.val).getD 0), e.remote.getD 0, BitVec.ofNat 8 ((held.map (fun x => x.1.val)).getD 0),
      BitVec.ofNat 8 (bit e.lastLane.isSome 1 + bit e.lastTime.isSome 2 + bit e.remote.isSome 4 + bit held.isSome 8),
      match held.bind (fun x => x.2.revoke) with | none => 0 | some .revoke => 1 | some .restore => 2,
      match mark with | none => 0xFF | some m => if m.inside then 1 else 0,
      match mark with | none => 0 | some m => m.cluster,
      BitVec.ofNat 8 e.batch.toNat, BitVec.ofNat 8 (e.batch.toNat / 256)],
    [(16, bytes e.grants), (20, bytes (e.lastTime.getD 0)), (24, bytes ((mark.map PendingMark.time).getD 0))]⟩

/-- The settings a LANE section of the setup block gives, and the state setup leaves the lane in, from its conditioned levels
(12.3, R121, R133, R144, R145, R191). -/
def LaneProgrammed (r : SetupRun) (i : LaneId) (before after : Lane) : Prop :=
  let b (j : Nat) : Nat := (Memory.read r.block (r.base + 0x40 + 32 * i.val + j)).toNat
  let asked : BaseMode := if b 3 = 0 then .opened else if b 3 = 2 then .free else .closed
  after.pins = before.pins ∧ after.level = before.level ∧ after.agree = ⟨0, 0, 0, 0⟩ ∧
    (after.enabled = true ↔ b 0 ≠ 0 ∧ b 2 < 16) ∧ after.direction = (if b 1 = 1 then .exit else .entry) ∧
    after.zone.val = (if b 2 < 16 then b 2 else 0) ∧ after.tier.val = (if b 4 < 4 then b 4 else 3) ∧
    (after.retrigger = true ↔ b 5 ≠ 0) ∧
    after.period = (if b 6 = 0 then .raw else if b 6 = 1 then .ms1 else if b 6 = 2 then .ms4 else .ms16) ∧
    (after.alertOn = true ↔ b 7 ≠ 0) ∧ after.holdTime = max 5 (min 600 (b 8 + 256 * b 9)) ∧
    after.escortTime = max 1 (min 120 (b 10 + 256 * b 11)) ∧
    (∀ t : Fin 6, after.watch.terms.get t = (TermSpec.ofCode (BitVec.ofNat 8 (b (12 + t.val)))).getD .ignore) ∧
    after.watch.mode = (if b 18 = 0 then .all else if b 18 = 2 then .first else .any) ∧
    (after.watch.lock = true ↔ b 19 ≠ 0) ∧
    after.mode = (if before.level.fire = true then .emergency else .base asked) ∧
    after.afterEmergency = (if before.level.fire = true then some asked else none) ∧ after.pendingMode = none ∧ after.tally = 0 ∧
    after.token = none ∧ after.alert = .idle ∧ after.overrun = false ∧
    after.tracker =
      (if after.enabled = true ∧ (before.level.armA = true ∨ before.level.armB = true) then
        ⟨.fault, armPosition before.level, 0⟩
      else ⟨.rest, 0, 0⟩) ∧
    after.prev =
      ⟨before.level.armA, before.level.armB, before.level.beam, before.level.fire, false, decide (after.tracker.state = .fault)⟩

end Sys2Proof.Machine
end

