-- ==== Sys2Proof/Certificates/Slice0/Obligations.lean ====
section
/-! DEFINITION. What the provers are asked to prove of the KG818: its step, the conditions every step keeps, its arithmetic, its
rings and records, and what each of its commands does. A docstring names the rule or the section a statement rests on, and says
where a clause is the model's own choice. -/

open Sys2Proof Sys2Proof.Machine

/-! ## The step -/

/-- A step takes the command at the front of the queue and carries it out with the queue's rest (95, introduction). -/
def Obligations.StepRunsFrontCommand : Prop :=
  ∀ (c : Instr) (q : List Instr) (s : State), step (s.setPending (c :: q)) = exec c (s.setPending q)

/-- MODEL'S CHOICE (log 2): a step on an empty queue is one millisecond. The event clock counts it and advances at the thousandth
(R83), and holds at 2,147,483,647. Each lane's sampling (R113), release timer while it runs (R93) and escort token (R110), the poll
timers (R166, R177) and the chain wait (R51) count it too; a sample instant conditions the inputs, a release timer that runs out
leaves its hold CLOSING, or removed at once where it asks for no operation (R95, R97), a token that runs out is gone, and a ring or
journal timer that runs out acts as its expiry command does. A timer that starts or is reloaded within the millisecond (a release
timer by a BEAM rise, a chain wait, a poll timer) has its full time at its end; that the reload starts a new unit of 100 ms is the
model's reading (log 31). An expiry finds the exchange memory as it stood, but for what the journal and the rings before it have
written. Of the journal's poll timer the statement speaks where a record waits, or the timer is stopped: the timer stops when the
queue becomes empty (R177). -/
def Obligations.IdleStepIsOneMillisecond : Prop :=
  ∀ s : State, s.pending = [] →
    let goesOn (poll : Option Nat) : Prop := ∀ k, poll = some k → 1 < k
    let down (poll : Option Nat) : Option Nat := poll.map (fun k => k - 1)
    let like (quiet : Prop) (u : State) : Prop :=
      u.cfg = s.cfg ∧ u.ctl.part = s.ctl.part ∧ u.ctl.resetActive = false ∧
        (quiet → s.jrn.queue ≠ [] ∨ s.cfg.journal = none → u.xmem = s.xmem) ∧
        (Memory.wf s.xmem → ∀ a, s.OutsideJournal a → quiet ∨ OutsideRing s.cfg.gate s.gate.take a → u.read a = s.read a)
    ∃ t, step s = .next t ∧ t.pending = [] ∧ (s.ctl.resetActive = true → t = s) ∧
      (s.ctl.resetActive = false →
        (t.clk =
          if s.clk.valid = false then s.clk
          else if s.clk.ms + 1 < 1000 then ⟨s.clk.value, true, s.clk.ms + 1⟩
          else if s.clk.value = 0x7FFFFFFF then ⟨s.clk.value, true, 0⟩
          else ⟨s.clk.value + 1, true, 0⟩) ∧
          (∀ i,
            let l := s.lane i
            let n := t.lane i
            let period := match l.period with | .raw => 0 | .ms1 => 1 | .ms4 => 4 | .ms16 => 16
            n.token = l.token.bind (fun c => countedMs c 1000) ∧
              (l.period = .raw → n.level = l.level ∧ n.agree = l.agree ∧ n.sampleMs = l.sampleMs) ∧
              (l.period ≠ .raw → l.sampleMs + 1 < period → n.level = l.level ∧ n.agree = l.agree ∧ n.sampleMs = l.sampleMs + 1) ∧
              (l.period ≠ .raw → period ≤ l.sampleMs + 1 →
                n.sampleMs = 0 ∧ Conditioned l.level.armA l.agree.armA l.pins.armA n.level.armA n.agree.armA ∧
                  Conditioned l.level.armB l.agree.armB l.pins.armB n.level.armB n.agree.armB ∧
                  Conditioned l.level.beam l.agree.beam l.pins.beam n.level.beam n.agree.beam ∧
                  Conditioned l.level.fire l.agree.fire l.pins.fire n.level.fire n.agree.fire) ∧
              (∀ h, s.hold i = some h → h.phase = .standing → s.ctl.part = .running → l.tracker.state = .rest →
                let asks : Prop := (∃ k loc tier, h.kind = .credential k loc tier) ∧ (h.mark.isSome = true ∨ h.revoke.isSome = true)
                (∀ c, countedMs ⟨h.remaining, h.ms⟩ 100 = some c → n.level = { l.level with beam := n.level.beam } →
                  let counted : Hold := { h with remaining := c.units, ms := c.ms }
                  t.hold i =
                    some (if l.level.beam = false ∧ n.level.beam = true then counted.beamArrives l.retrigger else counted)) ∧
                  (countedMs ⟨h.remaining, h.ms⟩ 100 = none →
                    (asks → t.hold i = some { h with remaining := 0, ms := 0, phase := .closing .lapsed }) ∧
                      (¬asks → t.hold i = none))) ∧
              ((∀ h, s.hold i = some h → h.phase ≠ .standing) → t.hold i = s.hold i) ∧
              (n.level = l.level → s.ctl.part ≠ .running ∨ l.tracker.state ≠ .rest → t.hold i = s.hold i)) ∧
          (goesOn s.gate.poll → t.gate = { s.gate with poll := down s.gate.poll }) ∧
          (¬goesOn s.gate.poll →
            ∃ u v, like True u ∧ u.gate = s.gate ∧ exec (.ringPollExpiry .gate) u = .next v ∧ t.gate = v.gate) ∧
          (goesOn s.list.poll → (∀ c, s.list.wait = some c → countedMs c 100 ≠ none) →
            t.list = { s.list with poll := down s.list.poll, wait := s.list.wait.bind (fun c => countedMs c 100) }) ∧
          (¬goesOn s.list.poll →
            ∃ u v, like (goesOn s.gate.poll) u ∧ u.list = s.list ∧ exec (.ringPollExpiry .list) u = .next v ∧
              (s.list.wait = none ∨ v.list.wait = none → t.list = v.list) ∧
              ∀ c, s.list.wait ≠ none → v.list.wait = some c →
                (∀ c', countedMs c 100 = some c' → t.list = { v.list with wait := some c' }) ∧
                  (countedMs c 100 = none → ∃ w, exec .chainWaitExpiry v = .next w ∧ t.list = w.list)) ∧
          (∀ c, goesOn s.list.poll → s.list.wait = some c → countedMs c 100 = none →
            ∃ u v, like (goesOn s.gate.poll) u ∧ u.list = { s.list with poll := down s.list.poll } ∧
              exec .chainWaitExpiry u = .next v ∧ t.list = v.list) ∧
          (s.jrn.poll = none → t.jrn.poll = none ∨ t.jrn.poll = some s.cfg.poll) ∧
          (s.jrn.queue ≠ [] →
            (goesOn s.jrn.poll →
              t.jrn.poll = down s.jrn.poll ∧ t.jrn.put = s.jrn.put ∧ s.jrn.queue <+: t.jrn.queue ∧ s.jrn.gap ≤ t.jrn.gap) ∧
              (¬goesOn s.jrn.poll →
                ∃ u, exec .journalPollExpiry u = .next t ∧ u.jrn.put = s.jrn.put ∧ u.jrn.poll = s.jrn.poll ∧ u.cfg = s.cfg ∧
                  s.jrn.queue <+: u.jrn.queue ∧
                  (Memory.wf s.xmem → ∀ a, OutsideRing s.cfg.gate s.gate.take a → OutsideRing s.cfg.list s.list.take a →
                    (∀ k, s.list.kept = some k → OutsideRing s.cfg.list k.index a) → u.read a = s.read a))))

/-- No command changes the queue of the commands that wait. -/
def Obligations.CommandsKeepTheQueue : Prop :=
  ∀ (c : Instr) (s t : State), exec c s = .next t → t.pending = s.pending

/-! ## What holds at every moment -/

/-- Every condition below holds at reset. -/
def Obligations.ResetMeetsEveryCondition : Prop :=
  Memory.wf State.reset.xmem ∧ State.reset.jrn.Bounded ∧ State.reset.ZonesBounded ∧ State.reset.MonitorsSound ∧
    State.reset.TrackersSound ∧ State.reset.ModesSound ∧ State.reset.HoldsPlaced ∧ State.reset.HoldsDistinct ∧
    State.reset.ReservedCounts ∧ State.reset.TableSound ∧ State.reset.KeysPlaced ∧ State.reset.FilterSound ∧
    State.reset.HeldEntries

/-- Every step keeps the exchange memory in its canonical form. -/
def Obligations.MemoryStaysCanonical : Prop := StepKeeps (fun s => Memory.wf s.xmem)

/-- Every step keeps the holding queue at up to 32 records and the gap count at up to 65,535 (10.4), capacity and occupancy within
0 to 65,535 (8.1), and the monitors' settings and counts in their ranges (8.3). -/
def Obligations.CountsStayBounded : Prop :=
  StepKeeps (fun s => s.jrn.Bounded) ∧ StepKeeps State.ZonesBounded ∧ StepKeeps State.MonitorsSound

/-- The tracker reads ARM_A and ARM_B as P0 to P3; at reset it is at REST, and every step keeps it so that at REST it stands at P0
with turn 0, and that while TURNING the turn from −3 to +3 names the position it last read (R116, R121). -/
def Obligations.TurnNamesThePosition : Prop :=
  (∀ beam fire, armPosition ⟨false, false, beam, fire⟩ = 0 ∧ armPosition ⟨true, false, beam, fire⟩ = 1 ∧
    armPosition ⟨true, true, beam, fire⟩ = 2 ∧ armPosition ⟨false, true, beam, fire⟩ = 3) ∧
    State.reset.TrackersSound ∧ StepKeeps State.TrackersSound

/-- Every step keeps the mode EMERGENCY exactly while the conditioned FIRE level is 1, the mode-after-emergency present exactly in
EMERGENCY, and a pending mode only beside a hold (6.5). -/
def Obligations.EmergencyExactlyWhileFire : Prop := StepKeeps State.ModesSound

/-- Holds exist only while RUNNING, at enabled lanes, with the lane's direction and zone; and no step makes two holds for one
credential key (5.1, 6.5). -/
def Obligations.HoldsStayPlacedAndDistinct : Prop := StepKeeps State.HoldsPlaced ∧ StepKeeps State.HoldsDistinct

/-- Every step keeps each zone's reserved count equal to its ENTRY holds (8.1). -/
def Obligations.ReservedEqualsEntryHolds : Prop := StepKeeps (fun s => s.HoldsPlaced ∧ s.ReservedCounts)

/-- Every step keeps each overflow place withdrawn, free or in exactly one chain, and the marker at the geometry in force
(2.1, 2.3). -/
def Obligations.OverflowPlacesAccountedFor : Prop := StepKeeps State.TableSound

/-- Every step keeps each entry in the bucket of its key, and each key in at most one place (2.4). -/
def Obligations.KeyOccupiesOnePlace : Prop := StepKeeps (fun s => s.TableSound ∧ s.KeysPlaced)

/-- Every step keeps the filter sound: while it is VALID the bit of every stored key is set, through inserts, rebuilds, formats,
reuse and resets (2.7, 2.8). -/
def Obligations.FilterNeverMissesAStoredKey : Prop := StepKeeps (fun s => s.TableSound ∧ s.FilterSound)

/-- In a safe state a step completes, and in a safe state: a held entry is never dropped, no key is held twice, and no command
stops the part (2.4, 5.1). -/
def Obligations.SafeStatesNeverStop : Prop := ∀ s : State, s.Safe → ∃ t, step s = .next t ∧ t.Safe

/-! ## Credentials and keys -/

/-- The key of an accepted BARCODE credential (R7). -/
def Obligations.BarcodeKeyPacking : Prop :=
  ∀ ds : List Nat, 6 ≤ ds.length → ds.length ≤ 28 → (∀ d ∈ ds, d ≤ 9) →
    keyByte (packBarcode ds) 0 = 0x01 ∧ (keyByte (packBarcode ds) 1).toNat = ds.length ∧
      (∀ j, j < 28 - ds.length → keyNibble (packBarcode ds) j = 0) ∧
      (∀ n, n < ds.length → keyNibble (packBarcode ds) (28 - ds.length + n) = ds.getD n 0) ∧
      (∀ i, i < 14 → (keyByte (packBarcode ds) (2 + i)).toNat =
        16 * keyNibble (packBarcode ds) (2 * i) + keyNibble (packBarcode ds) (2 * i + 1))

/-- The key of an accepted CARD credential (R8). -/
def Obligations.CardKeyPacking : Prop :=
  ∀ uid : List Byte, (uid.length = 4 ∨ uid.length = 7 ∨ uid.length = 10) →
    keyByte (packCard uid) 0 = 0x02 ∧ (keyByte (packCard uid) 1).toNat = uid.length ∧
      (∀ n, n < uid.length → keyByte (packCard uid) (16 - uid.length + n) = uid.getD n 0) ∧
      (∀ i, 2 ≤ i → i < 16 - uid.length → keyByte (packCard uid) i = 0x00)

/-- Two keys are equal when all 16 bytes are equal, and a lookup compares keys in no other way; a barcode and a card differ in K0;
different counts differ in K1; and equal keys come from equal digits or equal UID bytes (R9). -/
def Obligations.KeysKeepCredentialsApart : Prop :=
  let digits (ds : List Nat) : Prop := 6 ≤ ds.length ∧ ds.length ≤ 28 ∧ ∀ d ∈ ds, d ≤ 9
  let card (uid : List Byte) : Prop := uid.length = 4 ∨ uid.length = 7 ∨ uid.length = 10
  (∀ k1 k2 : Key, k1 = k2 ↔ ∀ i, i < 16 → keyByte k1 i = keyByte k2 i) ∧
    (∀ (t : TableMemory) (b : Nat) (key : Key), t.damaged = [] →
      (t.lookup b key ≠ .absent ↔ ∃ e, t.Stores b e ∧ ∀ i, i < 16 → keyByte e.key i = keyByte key i)) ∧
    (∀ (ds : List Nat) (uid : List Byte),
      keyByte (packBarcode ds) 0 ≠ keyByte (packCard uid) 0 ∧ packBarcode ds ≠ packCard uid) ∧
    (∀ ds1 ds2, digits ds1 → digits ds2 → ds1.length ≠ ds2.length →
      keyByte (packBarcode ds1) 1 ≠ keyByte (packBarcode ds2) 1) ∧
    (∀ uid1 uid2, card uid1 → card uid2 → uid1.length ≠ uid2.length → keyByte (packCard uid1) 1 ≠ keyByte (packCard uid2) 1) ∧
    (∀ ds1 ds2, digits ds1 → digits ds2 → (packBarcode ds1 = packBarcode ds2 ↔ ds1 = ds2)) ∧
    (∀ uid1 uid2, card uid1 → card uid2 → (packCard uid1 = packCard uid2 ↔ uid1 = uid2))

/-- The check of a packed key passes exactly the keys that a presentation could have produced (1.9). -/
def Obligations.PackedKeyCheckPassesPresentableKeys : Prop :=
  ∀ k : Key, keyPasses k = true ↔
    (∃ ds : List Nat, 6 ≤ ds.length ∧ ds.length ≤ 28 ∧ (∀ d ∈ ds, d ≤ 9) ∧ packBarcode ds = k) ∨
      (∃ uid : List Byte, (uid.length = 4 ∨ uid.length = 7 ∨ uid.length = 10) ∧ packCard uid = k)

/-- The MOD10 test adds the digits numbered from the right, an even-numbered digit doubled and less 9 where the double exceeds 9,
and passes a multiple of 10; a leading zero changes nothing (1.4). -/
def Obligations.Mod10Test : Prop :=
  ∀ ds : List Nat, (∀ d ∈ ds, d ≤ 9) →
    (mod10Passes ds = true ↔
      10 ∣ ((List.range ds.length).map (fun i =>
        let d := ds.getD (ds.length - 1 - i) 0
        if (i + 1) % 2 = 1 then d else if 9 < 2 * d then 2 * d - 9 else 2 * d)).sum) ∧
      mod10Passes (0 :: ds) = mod10Passes ds

/-- Placement folds the four big-endian words of a key and mixes the upper half into the lower; the bucket index is the low k bits
and the filter index bits 14 to 31 (1.7). -/
def Obligations.PlacementOfAKey : Prop :=
  ∀ (key : Key) (k : Nat),
    let w (i : Nat) : Nat :=
      16777216 * (keyByte key (4 * i)).toNat + 65536 * (keyByte key (4 * i + 1)).toNat + 256 * (keyByte key (4 * i + 2)).toNat +
        (keyByte key (4 * i + 3)).toNat
    let a := Nat.xor (Nat.xor (Nat.xor (w 0) (w 1)) (w 2)) (w 3)
    let m := Nat.xor a (a / 65536)
    (keyMix key).toNat = m ∧ m / 65536 = a / 65536 ∧ m % 65536 = Nat.xor (a % 65536) (a / 65536) ∧
      bucketIndex k key = m % 2 ^ k ∧ filterIndex key = m / 16384 ∧ filterIndex key < 262144

/-! ## The watch and the monitors -/

/-- When a term is satisfied before and after a watch event, and newly satisfied (R137). -/
def Obligations.TermSatisfaction : Prop :=
  ∀ (w : WatchSpec) (p n : Terms) (t : Fin 6),
    let spec := w.terms.get t
    (spec.before (p.val t) = true ↔ (spec = .low ∧ p.val t = false) ∨ (spec = .high ∧ p.val t = true)) ∧
      (spec.after (p.val t) (n.val t) = true ↔
        (spec = .low ∧ n.val t = false) ∨ (spec = .high ∧ n.val t = true) ∨
          (spec = .rise ∧ p.val t = false ∧ n.val t = true) ∨ (spec = .fall ∧ p.val t = true ∧ n.val t = false) ∨
          (spec = .either ∧ p.val t ≠ n.val t)) ∧
      (t ∈ w.newly p n ↔
        spec ≠ .ignore ∧ spec.after (p.val t) (n.val t) = true ∧ spec.before (p.val t) = false) ∧
      (p.val t = n.val t → t ∉ w.newly p n)

/-- Which watch events are matches in each mode; a specification of IGNORE terms alone never matches, and a match in ALL mode
reports some newly satisfied term (7.3). -/
def Obligations.WatchMatch : Prop :=
  ∀ (w : WatchSpec) (p n : Terms),
    (w.matched p n = true ↔
      if w.mode = .all then
        (∃ t, w.terms.get t ≠ .ignore) ∧
          (∀ t, w.terms.get t ≠ .ignore → (w.terms.get t).after (p.val t) (n.val t) = true) ∧
          ((∃ t, w.terms.get t = .fall ∨ w.terms.get t = .rise ∨ w.terms.get t = .either) ∨
            ∃ t, w.terms.get t ≠ .ignore ∧ (w.terms.get t).before (p.val t) = false)
      else ∃ t, t ∈ w.newly p n) ∧
      ((∀ t, w.terms.get t = .ignore) → w.matched p n = false) ∧
      (w.matched p n = true → ∃ t, t ∈ w.newly p n)

/-- The raw result of a monitor; a LEVEL of 65,535 and a window with no whole number between its bounds are never true, and the
output of such a monitor stays false (R154). -/
def Obligations.MonitorRawResult : Prop :=
  ∀ (m : Monitor) (n : Nat), n ≤ 65535 →
    (m.mode = .level → (m.raw n = true ↔ m.level < n)) ∧
      (m.mode = .window → (m.raw n = true ↔ m.low < n ∧ n < m.high)) ∧
      (m.mode = .level → m.level = 65535 → m.raw n = false) ∧
      (m.mode = .window → m.high ≤ m.low + 1 →
        m.raw n = false ∧ (m.output = false → (m.evaluate n).output = false) ∧ (m.recompute n).output = false) ∧
      (m.mode = .window → m.low = 0 → m.high = 65535 → (m.raw n = true ↔ 1 ≤ n ∧ n ≤ 65534))

/-- A new raw result changes the output at the (s + 1)-th consecutive evaluation that gives it, where s is the steadiness, and one
evaluation that agrees with the output starts the count again (8.3). -/
def Obligations.MonitorSteadiness : Prop :=
  ∀ (m : Monitor) (occupancies : List Nat), m.count = 0 → (∀ n ∈ occupancies, m.raw n = !m.output) →
    let after := occupancies.foldl Monitor.evaluate m
    (occupancies.length ≤ m.steadiness → after = { m with count := occupancies.length }) ∧
      (occupancies.length = m.steadiness + 1 → after = { m with output := !m.output }) ∧
      (∀ n, m.raw n = m.output → occupancies.length ≤ m.steadiness → after.evaluate n = m)

/-- An occupancy change stores the new occupancy and evaluates each enabled monitor of the zone once, in ascending number. A change of
an output that the edge selects is an event: its MONITOR record where enabled, and then its link's mode at each lane of the
monitor's zone and the link's direction, in ascending number, before the next monitor. It changes nothing else but the journal and
what a record's write makes of the exchange memory and NOTICE, and it reaches no lane that no such link names (8.1, 8.3). -/
def Obligations.OccupancyChangeEvaluatesMonitors : Prop :=
  ∀ (z : ZoneId) (v : Nat) (s : State),
    ((s.zone z).occupancy = v → setOccupancy z v s = s) ∧
      ((s.zone z).occupancy ≠ v →
        let t := setOccupancy z v s
        let deliver (n : MonitorId) (d : Direction) (m : BaseMode) (w : State) : State :=
          [0, 1, 2, 3, 4, 5, 6, 7].foldl
            (fun w i => if (w.lane i).zone = z ∧ (w.lane i).direction = d then changeMode i m (.link n) w else w) w
        let event (n : MonitorId) (m : Monitor) (w : State) : State :=
          let x :=
            if m.recordOn = true then
              emit (w.recordNow .monitor none (some z) {}
                (detailBytes n.val (if m.output = true then 0 else 1) v (v / 256)) zeroKey) w
            else w
          match m.link with
          | .none => x
          | .closeEntry => deliver n .entry .closed x
          | .openEntry => deliver n .entry .opened x
          | .freeExits => deliver n .exit .free x
        let evaluated (w : State) (n : MonitorId) : State :=
          let m := w.monitor n
          let m' := m.evaluate v
          let selected : Prop := m.edge = .both ∨ (m.edge = .rise ∧ m'.output = true) ∨ (m.edge = .fall ∧ m'.output = false)
          if m.enable = true ∧ m.zone = z then
            (if m'.output ≠ m.output ∧ selected then event n m' (w.setMonitor n m') else w.setMonitor n m')
          else w
        let names (n : MonitorId) (i : LaneId) : Prop :=
          (s.monitor n).enable = true ∧ (s.monitor n).zone = z ∧ (s.lane i).zone = z ∧
            (((s.monitor n).link = .closeEntry ∧ (s.lane i).direction = .entry) ∨
              ((s.monitor n).link = .openEntry ∧ (s.lane i).direction = .entry) ∨
              ((s.monitor n).link = .freeExits ∧ (s.lane i).direction = .exit))
        t = [0, 1, 2, 3, 4, 5, 6, 7].foldl evaluated (s.setZone z { s.zone z with occupancy := v }) ∧
          t.zone z = { s.zone z with occupancy := v } ∧ (∀ y, y ≠ z → t.zone y = s.zone y) ∧
          (∀ m, t.monitor m =
            if (s.monitor m).enable = true ∧ (s.monitor m).zone = z then (s.monitor m).evaluate v else s.monitor m) ∧
          (∀ i, t.lane i =
            { s.lane i with
              mode := (t.lane i).mode, pendingMode := (t.lane i).pendingMode, afterEmergency := (t.lane i).afterEmergency,
              tally := (t.lane i).tally }) ∧
          (∀ i, (∀ n, ¬names n i) → t.lane i = s.lane i) ∧ t.ctl = { s.ctl with notice := t.ctl.notice } ∧
          t.holds = s.holds ∧ t.tab = s.tab ∧ t.gate = s.gate ∧ t.list = s.list ∧ t.cfg = s.cfg ∧ t.clk = s.clk ∧
          t.adm = s.adm ∧ t.pending = s.pending)

/-! ## The rings and the journal -/

/-- A return writes the status, the 16-byte result area and the results over the payload, then the owner mark, then the notice
flag; a descriptor taken back is withdrawn, with no write and no flag; and the take position advances by one, modulo the ring
length (9.2, 9.3, 9.6, 9.7). -/
def Obligations.ReturnOfADescriptor : Prop :=
  ∀ (flag : NoticeFlag) (a : Nat) (n : Bool) (r : Reply) (s : State), Memory.wf s.xmem → r.result.length ≤ 16 →
    (∀ w ∈ r.overlay, w.1 + w.2.length ≤ 40) → r.overlay.Pairwise (fun v w => v.1 + v.2.length ≤ w.1) →
    let t := writeReturn flag a n r s
    (s.read a ≠ 1 → t = s) ∧
      (s.read a = 1 →
        t.read a = 0 ∧ t.read (a + 7) = r.status.code ∧
          (∀ j, j < 16 → t.read (a + 48 + j) = r.result.getD j 0) ∧
          (∀ w ∈ r.overlay, ∀ j, j < w.2.length → t.read (a + 8 + w.1 + j) = w.2.getD j 0) ∧
          (∀ b, b ≠ a → b ≠ a + 7 → (b < a + 48 ∨ a + 64 ≤ b) →
            (∀ w ∈ r.overlay, b < a + 8 + w.1 ∨ a + 8 + w.1 + w.2.length ≤ b) → t.read b = s.read b) ∧
          (∀ f, t.flagSet f = (s.flagSet f || (n && decide (f = flag)))) ∧
          t = (s.setXmem t.xmem).setCtl { s.ctl with notice := t.ctl.notice }) ∧
      (∀ (ring : Ring) (d : Desc),
        gateHandBack ring d r s =
            (writeReturn .gateReturned (ring.base + 64 * s.gate.take) d.notify r s).setGate
              ⟨(s.gate.take + 1) % 2 ^ ring.exp, none, none⟩ ∧
          listHandBack ring d r s =
            (writeReturn .listReturned (ring.base + 64 * s.list.take) d.notify r s).setList
              { s.list with take := (s.list.take + 1) % 2 ^ ring.exp, poll := none, work := none })

/-- RING_POLL_EXPIRY examines the take position of a request ring: not owned, the poll timer is loaded; owned, the descriptor's fields
are read and it is taken; and one that fails the ring checks is returned, and the next position is examined at once (9.2 to 9.5).
At the list ring a descriptor returned at the checks first breaks an open chain, and a position not owned starts the chain wait
timer beside a kept descriptor (3.3); that a take stops the chain wait is the model's reading (log 17). -/
def Obligations.RequestRingExaminations : Prop :=
  (∀ (s : State) (ring : Ring), s.ctl.part = .running → s.ctl.resetActive = false → s.cfg.gate = some ring →
      s.gate.work = none → s.gate.poll.isSome = true → s.gate.take < 2 ^ ring.exp → Memory.wf s.xmem →
      let a := ring.base + 64 * s.gate.take
      let d : Desc := ⟨decide (s.read (a + 1) ≠ 0), s.read (a + 2), s.read (a + 3), s.read (a + 6),
        (List.range 40).map (fun j => s.read (a + 8 + j))⟩
      let gateKind := d.kind = 1 ∨ d.kind = 2 ∨ d.kind = 3 ∨ d.kind = 4
      let listKind := 16 ≤ d.kind.toNat ∧ d.kind.toNat ≤ 23
      let back (st : Status) := examineGate (gateHandBack ring d ⟨st, [], []⟩ s)
      (s.read a ≠ 1 → exec (.ringPollExpiry .gate) s = .next (s.setGate ⟨s.gate.take, some s.cfg.poll, none⟩)) ∧
        (s.read a = 1 → gateKind → d.chain = 0 →
          exec (.ringPollExpiry .gate) s = .next (s.setGate ⟨s.gate.take, none, some ⟨d, .taken⟩⟩)) ∧
        (s.read a = 1 → gateKind → d.chain ≠ 0 → exec (.ringPollExpiry .gate) s = .next (back .malformed)) ∧
        (s.read a = 1 → listKind → exec (.ringPollExpiry .gate) s = .next (back .wrongRing)) ∧
        (s.read a = 1 → ¬gateKind → ¬listKind → exec (.ringPollExpiry .gate) s = .next (back .malformed))) ∧
    ∀ (s : State) (ring : Ring), s.ctl.part = .running → s.ctl.resetActive = false → s.cfg.list = some ring →
        s.list.work = none → s.list.poll.isSome = true → s.list.take < 2 ^ ring.exp → Memory.wf s.xmem →
        let a := ring.base + 64 * s.list.take
        let d : Desc := ⟨decide (s.read (a + 1) ≠ 0), s.read (a + 2), s.read (a + 3), s.read (a + 6),
          (List.range 40).map (fun j => s.read (a + 8 + j))⟩
        let gateKind := d.kind = 1 ∨ d.kind = 2 ∨ d.kind = 3 ∨ d.kind = 4
        let listKind := 16 ≤ d.kind.toNat ∧ d.kind.toNat ≤ 23
        let back (st : Status) := examineList (listHandBack ring d ⟨st, [], []⟩ (breakChain s))
        (s.read a ≠ 1 →
          exec (.ringPollExpiry .list) s =
            .next (s.setList
              { s.list with
                poll := some s.cfg.poll
                wait := if s.list.kept.isSome = true ∧ s.list.wait = none then some ⟨s.cfg.chainWait, 0⟩ else s.list.wait })) ∧
          (s.read a = 1 → listKind → (d.kind = 16 ∨ d.chain = 0) →
            exec (.ringPollExpiry .list) s =
              .next (s.setList { s.list with poll := none, wait := none, work := some ⟨d, .taken⟩ })) ∧
          (s.read a = 1 → listKind → d.kind ≠ 16 → d.chain ≠ 0 → exec (.ringPollExpiry .list) s = .next (back .malformed)) ∧
          (s.read a = 1 → gateKind → exec (.ringPollExpiry .list) s = .next (back .wrongRing)) ∧
          (s.read a = 1 → ¬gateKind → ¬listKind → exec (.ringPollExpiry .list) s = .next (back .malformed))

/-- The 32 bytes of a batch record read as 12.5 lays them out, and are malformed where the key fails the check of a packed key, the
action is neither PUT nor DROP, or a PUT's tier, profile or returns left is out of range (3.2); the record at an index of a LOAD's
buffer is read there. The counts of a LOAD fill 14 bytes of its result and the chain totals 28 bytes of its payload, least
significant byte first, in the order of 12.4, and a descriptor's counts join the totals, each up to 4,294,967,295 (3.2, 3.3). -/
def Obligations.BatchRecordsAndCounts : Prop :=
  (∀ bs : List Byte,
    let b (j : Nat) : Byte := bs.getD j 0
    let n (j : Nat) : Nat := (b j).toNat
    let key : Key := Vector.ofFn (fun j : Fin 16 => b (16 + j.val))
    let drop : Prop := keyPasses key = true ∧ n 0 = 2
    let put : Prop := keyPasses key = true ∧ n 0 = 1 ∧ n 2 ≤ 3 ∧ n 3 ≤ 31 ∧ n 4 ≤ 15
    (drop → parseRecord bs = some (.drop key)) ∧
      (put →
        ∃ f : PutFields, parseRecord bs = some (.put key f) ∧ (f.reset = true ↔ n 1 % 2 = 1) ∧ f.tier.val = n 2 ∧
          f.profile.val = n 3 ∧ f.returns.val = n 4 ∧ f.batch.toNat = n 6 + 256 * n 7 ∧
          f.grants.toNat = n 8 + 256 * n 9 + 65536 * n 10 + 16777216 * n 11) ∧
      (¬drop → ¬put → parseRecord bs = none)) ∧
    (∀ (s : State) (d : Desc) (n : Nat),
      let offset := (d.byte 0).toNat + 256 * (d.byte 1).toNat + 65536 * (d.byte 2).toNat + 16777216 * (d.byte 3).toNat
      s.batchRecord d n = parseRecord ((List.range 32).map (fun j => s.read (offset + 32 * n + j)))) ∧
    ∀ c : Counts,
      let fields := [c.added, c.replaced, c.dropped, c.notFound, c.malformed, c.heldSkip, c.full]
      let top := 4294967295
      c.resultBytes.length = 14 ∧ c.totalBytes.length = 28 ∧
        (∀ j, j < 7 →
          (c.resultBytes.getD (2 * j) 0).toNat + 256 * (c.resultBytes.getD (2 * j + 1) 0).toNat = fields.getD j 0 % 65536 ∧
            (c.totalBytes.getD (4 * j) 0).toNat + 256 * (c.totalBytes.getD (4 * j + 1) 0).toNat +
              65536 * (c.totalBytes.getD (4 * j + 2) 0).toNat + 16777216 * (c.totalBytes.getD (4 * j + 3) 0).toNat =
              fields.getD j 0 % 4294967296) ∧
        ∀ t : Counts,
          c.addTo t =
            ⟨min top (t.added + c.added), min top (t.replaced + c.replaced), min top (t.dropped + c.dropped),
              min top (t.notFound + c.notFound), min top (t.malformed + c.malformed), min top (t.heldSkip + c.heldSkip),
              min top (t.full + c.full)⟩

/-- A created record joins the holding queue, or is discarded and counted; one that joins an empty queue while RUNNING is written
into the slot at the put position if that is lent, every byte of it, and otherwise STARVED is set (10.2 to 10.4, 12.5). -/
def Obligations.RecordsAreQueuedWrittenOrCounted : Prop :=
  ∀ (rec : Record) (s : State), Memory.wf s.xmem →
    let joined : State := s.setJrn { s.jrn with queue := s.jrn.queue ++ [rec] }
    (32 ≤ s.jrn.queue.length →
      emit rec s = s.setJrn { s.jrn with gap := if s.jrn.gap < 65535 then s.jrn.gap + 1 else s.jrn.gap }) ∧
      (s.jrn.queue.length < 32 → s.jrn.queue ≠ [] ∨ s.ctl.part ≠ .running ∨ s.cfg.journal = none → emit rec s = joined) ∧
      (∀ ring, s.jrn.queue = [] → s.ctl.part = .running → s.cfg.journal = some ring →
        let a := ring.base + 32 * s.jrn.put
        let t := emit rec s
        (s.read a ≠ 1 →
          t = notify .starved (joined.setJrn { joined.jrn with poll := some s.cfg.poll })) ∧
          (s.read a = 1 →
            t.read a = 0 ∧ t.read (a + 1) = rec.kind.code ∧ t.read (a + 2) = finByte rec.lane ∧
              t.read (a + 3) = finByte rec.zone ∧ t.read (a + 4) = rec.flags.code ∧ t.read (a + 5) = 0 ∧
              t.readHalf (a + 6) = s.jrn.gap % 65536 ∧ t.readWord (a + 8) = rec.seconds.toNat ∧
              t.readWord (a + 12) = rec.detail.toNat ∧ (∀ j, j < 16 → t.read (a + 16 + j) = keyByte rec.key j) ∧
              (∀ b, (b < a ∨ a + 32 ≤ b) → t.read b = s.read b) ∧
              t.jrn = ⟨(s.jrn.put + 1) % 2 ^ ring.exp, [], 0, none⟩ ∧
              (∀ f, t.flagSet f = (s.flagSet f || decide (f = .journalWritten))) ∧
              t = ((s.setXmem t.xmem).setJrn t.jrn).setCtl { s.ctl with notice := t.ctl.notice }))

/-- JOURNAL_POLL_EXPIRY examines the put position: a slot not lent sets STARVED and reloads the poll timer; a lent slot takes the
head of the queue, and the next position is examined at once while a record waits (10.2, 10.3). That the run of writes is one step, with
no command between two of them, is the model's choice (log 45). -/
def Obligations.JournalExamination : Prop :=
  ∀ (s : State) (ring : Ring) (head : Record) (rest : List Record), s.ctl.part = .running → s.ctl.resetActive = false →
    s.cfg.journal = some ring → s.jrn.queue = head :: rest → s.jrn.poll.isSome = true → Memory.wf s.xmem →
    let a := ring.base + 32 * s.jrn.put
    (s.read a ≠ 1 →
      exec .journalPollExpiry s = .next (notify .starved (s.setJrn { s.jrn with poll := some s.cfg.poll }))) ∧
      (s.read a = 1 →
        ∃ u, exec .journalPollExpiry s = .next (journalExamine u) ∧ u = journalWrite ring head rest s ∧
          u.jrn = ⟨(s.jrn.put + 1) % 2 ^ ring.exp, rest, 0, none⟩ ∧ u.read a = 0 ∧
          (∀ b, (b < a ∨ a + 32 ≤ b) → u.read b = s.read b) ∧ u.flagSet .journalWritten = true ∧
          (rest = [] → journalExamine u = u))

/-! ## The ticket table -/

/-- A lookup reads main slots 0 to 3, the chain head and the chain of its bucket in that order, up to the first entry with the key. It
fails exactly where a word it comes to fails its check, finds exactly the entry stored under the key, and is absent exactly where no
entry has the key and no word fails (2.4). The words that a check covers (a main slot, the chain head, an overflow place) are the
model's choice (log 11). -/
def Obligations.LookupFindsTheStoredEntry : Prop :=
  ∀ (t : TableMemory) (b : Nat) (key : Key),
    (t.lookup b key = .failed ↔ ∃ w e, t.Reaches b key w e ∧ w ∈ t.damaged) ∧
      (∀ loc e, t.lookup b key = .found loc e →
        e.key = key ∧ t.Stores b e ∧ (((t.bucket b).chain.map Prod.fst).Nodup → t.entryAt loc = some e) ∧
          ((∃ i, loc = .main b i) ∨ ∃ p, loc = .overflow b p) ∧ t.Reaches b key loc.word (some e) ∧ loc.word ∉ t.damaged) ∧
      (t.lookup b key = .absent ↔ (∀ e, t.Stores b e → e.key ≠ key) ∧ ∀ x ∈ t.reads b, x.1 ∉ t.damaged)

/-- An insert takes the first empty main slot of the bucket, or else the head of the free list at the tail of the chain, or else is
FULL; a drop empties its slot, or unlinks its chain entry and pushes its place at the front of the free list; a write in place
changes the entry at its location alone, and no link; none of them touches another bucket. An insert fails, with nothing written,
exactly where it needs an overflow place and the free list head or the place it names fails its check; a drop exactly where it
frees a place and the free list head fails (2.3, 2.4). R26 names the read of the free list head in an insert; the reads of the place
it names and of the free list head in a drop are DEDUCED (log 11). The model's own (log 11, DESIGN CHOICE): the words that a check
covers, and that a write leaves every word's damage as it was. -/
def Obligations.InsertAndDropMoveOnePlace : Prop :=
  ∀ (t : TableMemory) (b : Nat) (e : Entry), sparseWf Bucket.empty t.buckets →
    let x := t.bucket b
    let kept (u : TableMemory) : Prop :=
      (∀ c, c ≠ b → u.bucket c = t.bucket c) ∧ u.withdrawn = t.withdrawn ∧ u.marker = t.marker ∧ u.damaged = t.damaged
    let fails : Prop := TableWord.freeHead ∈ t.damaged ∨ ∃ p rest, t.free = p :: rest ∧ TableWord.place p ∈ t.damaged
    (∀ i, x.slots.get i = none → (∀ j, j < i → x.slots.get j ≠ none) →
      ∃ u, t.insert b e = .written u ∧ (u.bucket b).slots.get i = some e ∧
        (∀ j, j ≠ i → (u.bucket b).slots.get j = x.slots.get j) ∧ (u.bucket b).chain = x.chain ∧ u.free = t.free ∧ kept u) ∧
      ((∀ i, x.slots.get i ≠ none) → ¬fails →
        (t.free = [] → t.insert b e = .full) ∧
          ∀ p rest, t.free = p :: rest →
            ∃ u, t.insert b e = .written u ∧ u.bucket b = ⟨x.slots, x.chain ++ [(p, e)]⟩ ∧ u.free = rest ∧ kept u) ∧
      (t.insert b e = .failed ↔ (∀ i, x.slots.get i ≠ none) ∧ fails) ∧
      (∀ i, ∃ u, t.drop (.main b i) = .written u ∧ (u.bucket b).slots.get i = none ∧
        (∀ j, j ≠ i → (u.bucket b).slots.get j = x.slots.get j) ∧ (u.bucket b).chain = x.chain ∧ u.free = t.free ∧ kept u) ∧
      (∀ p, TableWord.freeHead ∉ t.damaged →
        ∃ u, t.drop (.overflow b p) = .written u ∧ (u.bucket b).slots = x.slots ∧
          (u.bucket b).chain = x.chain.filter (fun c => decide (c.1 ≠ p)) ∧ u.free = p :: t.free ∧ kept u) ∧
      (∀ p, t.drop (.overflow b p) = .failed ↔ TableWord.freeHead ∈ t.damaged) ∧
      (∀ loc w, t.entryAt loc ≠ none → (∃ i, loc = .main b i) ∨ (∃ p, loc = .overflow b p) →
        let u := t.writeEntry loc w
        u.entryAt loc = some w ∧ (∀ m, m ≠ loc → u.entryAt m = t.entryAt m) ∧
          (u.bucket b).chain.map Prod.fst = x.chain.map Prod.fst ∧ u.free = t.free ∧ kept u)

/-! ## The control window -/

/-- POWER_ON and RESET_N leave the part HALTED with every piece of state at its reset value; RESET_N keeps the table memory and the
exchange memory, and neither moves a pin (R4 in 1.4, 2.6, R40 in 2.8, R51 in 3.3, 4.10, 4.11, 5.1, 6.7, 7.8, R152 in 8.2, R160 in 8.4,
9.3, 9.8, 10.5, R184 in 11.1, 11.2). The model's own, which these do not give: that the pins stay (log 6); the clock's
millisecond count and each lane's count towards its next sample at 0 (log 32); k = 12, u = 1, a poll interval of 1 ms and a chain wait
of 1 unit (log 30, log 32); the walk position at 0 (log 35); and at POWER_ON what the exchange memory reads as (log 5) and what stands
in a table memory with no valid marker (log 12). -/
def Obligations.PowerOnAndResetNRestoreEverything : Prop :=
  ∀ s : State,
    let fresh (t : State) : Prop :=
      t.readControl = 0 ∧ t.ctl = ⟨.halted, false, .none, none, false, 0, 0, false, 0⟩ ∧ t.clk = ⟨0, false, 0⟩ ∧
        t.noticeActive = false ∧ t.cfg = ⟨none, none, none, 1, 1⟩ ∧ t.gate = ⟨0, none, none⟩ ∧
        t.list = ⟨0, none, none, false, none, ⟨0, 0, 0, 0, 0, 0, 0⟩, none⟩ ∧
        t.tab = ⟨12, 1, t.tab.memory, [], [], .suspect, 0, []⟩ ∧ (∀ p, t.adm.profiles.get p = ⟨0, 0, true, true⟩) ∧
        t.adm.scheme = .none ∧ (∀ i, t.hold i = none ∧ t.release i = false ∧ t.freewheel i = false) ∧
        (∀ i, t.lane i =
          ⟨(s.lane i).pins, ⟨false, false, false, false⟩, ⟨0, 0, 0, 0⟩, 0, false, .entry, 0, 0, 5, false, .ms16, 1, ⟨.rest, 0, 0⟩,
            .base .closed, none, none, 0, none, ⟨Vector.replicate 6 .ignore, .any, false⟩,
            ⟨false, false, false, false, false, false⟩, .idle, false, false⟩) ∧
        (∀ z, t.zone z = ⟨0, 0, 0⟩) ∧
        (∀ m, t.monitor m = ⟨false, 0, .level, 0, 0, 0, .rise, 0, false, .none, false, 0⟩) ∧ t.jrn = ⟨0, [], 0, none⟩ ∧
        t.pending = s.pending
    Completes .powerOn s (fun t => fresh t ∧ t.tab.memory = ⟨none, [], [], [], []⟩ ∧ t.xmem = []) ∧
      Completes .resetN s (fun t => fresh t ∧ t.tab.memory = s.tab.memory ∧ t.xmem = s.xmem)

/-- STOP in RUNNING halts the part: every hold is removed with its pending mode applied and no outcome record, reserved counts fall to
0 and nothing else of a zone or a monitor changes, descriptors in progress are abandoned at their take positions, a rebuild is
abandoned, and the settings, levels, trackers, alerts and tokens of the lanes are kept (chapters 2, 3, 5 to 10). The records it adds are
exactly the TALLY records of pending modes that leave FREE. A table operation whose writes have begun completes them, and a PROFILE
that has been carried out stays carried out (2.6, 4.11); a hold that an admission lookup has made is removed like the others, after
its own watch event (4.9). The other part states are as the command table says (11.2); a STOP before check 1 has passed writes no
result (11.3). The model's own: the operand that says what STOP meets half done (log 9), that a pending mode's TALLY record is still
made, and in lane order (log 20), with 0 in its detail bytes D2 and D3, which 12.5 does not name (log 40), and that byte 35 of the
result area stays (log 28). -/
def Obligations.StopHaltsThePart : Prop :=
  ∀ (f : InFlight) (s : State), s.ctl.resetActive = false →
    let turn := s.setTab { s.tab with port := [] }
    let broken := breakChain s
    let gateToo : Prop := f = .gate ∨ f = .gateThenProfile ∨ f = .profileThenGate
    let lookupDue : Prop := gateToo ∧ s.tab.port.head? = some .lookup
    (∀ ring d, s.ListTook ring .profile d →
      let done (u : State) : Prop :=
        (f = .profile → exec (.stop f) s = exec (.stop .idle) u) ∧ (f = .profileThenGate → exec (.stop f) s = exec (.stop .gate) u)
      (32 ≤ (d.byte 0).toNat → done broken) ∧
        ∀ p : ProfileId, d.byte 0 = BitVec.ofNat 8 p.val →
          ∃ a, done (broken.setAdm a) ∧ a.scheme = s.adm.scheme ∧
            (∀ y, y ≠ p → a.profiles.get y = s.adm.profiles.get y) ∧
            a.profiles.get p =
              ⟨wordOf (d.byte 4) (d.byte 5) (d.byte 6) (d.byte 7), wordOf (d.byte 8) (d.byte 9) (d.byte 10) (d.byte 11),
                (d.byte 1).getLsbD 0, (d.byte 1).getLsbD 1⟩) ∧
    ((f = .gate ∧ s.tab.port = []) ∨ ((f = .list ∨ f = .profile) ∧ s.list.work = none) →
      exec (.stop f) s = exec (.stop .idle) s) ∧
    (s.ctl.part = .running → f = .gateThenProfile → exec (.stop f) s = exec (.stop .profile) (completeGate s)) ∧
    (s.ctl.part = .running → f = .profileThenGate → exec (.stop f) s = exec (.stop .gate) (completeProfile s)) ∧
    (s.ctl.part = .halted → exec (.stop f) s = .next s) ∧
      (s.ctl.part = .standby → exec (.stop f) s = .next (s.setCtl { s.ctl with part := .halted })) ∧
      (s.ctl.part = .settingUp →
        Completes (.stop f) s (fun t => SetupFailedWith .abandoned s t ∧ t.tab = s.tab ∧
          t.holds = s.holds ∧ t.lanes = s.lanes ∧ t.zones = s.zones ∧ t.monitors = s.monitors ∧ t.adm = s.adm ∧
          t.jrn = s.jrn ∧ t.clk = s.clk ∧
          (∀ r, s.ctl.setupRun = some r → r.stage ≠ .entered → Memory.wf s.xmem → SetupResult r.base 2 7 0 0 s t) ∧
          ((∀ r, s.ctl.setupRun = some r → r.stage = .entered) → t.xmem = s.xmem))) ∧
      (s.ctl.part = .running →
        Completes (.stop f) s (fun t =>
          t.ctl = { s.ctl with part := .halted, notice := t.ctl.notice } ∧ (∀ i, t.hold i = none ∧ t.release i = false) ∧
            (∀ i, t.freewheel i = false) ∧ (∀ z, t.zone z = { s.zone z with reserved := 0 }) ∧ t.monitors = s.monitors ∧
            t.gate = ⟨s.gate.take, none, none⟩ ∧ t.list.take = s.list.take ∧ t.list.work = none ∧ t.list.poll = none ∧
            t.list.wait = none ∧ t.tab.k = s.tab.k ∧ t.tab.u = s.tab.u ∧
            t.tab.port = [] ∧ t.tab.filter = (if s.tab.filter = .rebuilding then .suspect else s.tab.filter) ∧
            t.jrn.poll = none ∧ t.clk = s.clk ∧ t.cfg = s.cfg ∧ t.adm.scheme = s.adm.scheme ∧
            (f = .idle ∨ f = .gate ∨ f = .list → t.adm = s.adm ∧ t.list = { s.list with poll := none, work := none, wait := none }) ∧
            (∀ i, s.hold i ≠ none → t.lane i = (s.lane i).stopped) ∧
            (¬lookupDue → s.HoldsStopped t) ∧
            (f = .idle ∨ f = .list ∨ (f = .gate ∧ ¬lookupDue) → t.xmem = s.xmem ∧ t.ctl.notice = s.ctl.notice) ∧
            (∀ v, f = .list → (∃ d n c, s.list.work = some ⟨d, .loading n c⟩) → exec (.batchRecord []) turn = .next v →
              t.tab.memory = v.tab.memory ∧ t.tab.presence = v.tab.presence) ∧
            (∀ v, f = .list → (∃ d, s.list.work = some ⟨d, .request⟩) → exec (.listRequest []) turn = .next v →
              t.tab.memory = v.tab.memory) ∧
            (∀ i v, gateToo → s.tab.port.head? = some (.closing i) → exec (.closingOperation []) s = .next v →
              t.tab.memory = v.tab.memory) ∧
            (∀ v, lookupDue → f ≠ .profileThenGate → exec (.admissionLookup []) s = .next v →
              t.tab.memory = v.tab.memory ∧ (v.holds = s.holds → s.HoldsStopped t) ∧ (v.holds ≠ s.holds → v.HoldsStopped t)) ∧
            (f ≠ .list → t.tab.presence = s.tab.presence) ∧
            (f = .idle ∨ f = .profile → t.tab.memory = s.tab.memory)))

/-- INIT from HALTED or STANDBY reads the setup block and makes its checks in order; the first that fails ends setup with its code
and a result in the block, and leaves table memory, filters and every programmed block as they stood; otherwise the part is
SETTING_UP, and a format asked for has cleared the marker and made the filter SUSPECT. INIT from RUNNING has the effects of STOP
first, and in SETTING_UP it is ignored (11.2, 11.3, 2.6). The model's own: the operand that says how far the checks have come before
the next command (log 22), what the STOP effects meet half done (log 9), and that byte 35 of the result area stays (log 28). -/
def Obligations.InitChecksTheSetupBlock : Prop :=
  ∀ (c : InitCourse) (s : State), s.ctl.resetActive = false →
    let a := s.ctl.setupAt.toNat
    let goesOn (t : State) : Prop :=
      t.ctl.part = .settingUp ∧ t.ctl.failure = .none ∧ t.ctl.notice = s.ctl.notice ∧ t.xmem = s.xmem ∧
        ∃ r, t.ctl.setupRun = some r ∧ r.base = a ∧ r.stage = c.stage ∧ ∀ j, j < 1088 → Memory.read r.block (a + j) = s.read (a + j)
    (s.ctl.part = .settingUp → exec (.init c) s = .next s) ∧
      (s.ctl.part = .running →
        ∃ h, exec (.stop c.flight) s = .next h ∧ h.ctl.part = .halted ∧ exec (.init c) s = exec (.init c) h) ∧
      (s.ctl.part = .halted ∨ s.ctl.part = .standby → Memory.wf s.xmem →
        Completes (.init c) s (fun t =>
          t.cfg.gate = none ∧ t.cfg.list = none ∧ t.cfg.journal = none ∧ t.ctl.setupComplete = false ∧ t.holds = s.holds ∧
            t.lanes = s.lanes ∧ t.zones = s.zones ∧ t.monitors = s.monitors ∧ t.adm = s.adm ∧ t.gate = s.gate ∧ t.list = s.list ∧
            t.jrn = s.jrn ∧ t.clk = s.clk ∧
            (c.stage = .entered → goesOn t ∧ t.tab = s.tab) ∧
            (c.stage ≠ .entered → ¬blockOk a → SetupFailedWith .placement s t ∧ t.xmem = s.xmem ∧ t.tab = s.tab) ∧
            (c.stage = .checking → blockOk a → goesOn t ∧ t.tab = s.tab) ∧
            (c.stage = .table → blockOk a →
              (¬s.versionOk a → SetupFailedWith .version s t ∧ SetupResult a 2 1 0 0 s t ∧ t.tab = s.tab) ∧
                (s.versionOk a → ¬s.ringsOk a → SetupFailedWith .placement s t ∧ SetupResult a 2 2 0 0 s t ∧ t.tab = s.tab) ∧
                (s.versionOk a → s.ringsOk a → ¬s.regionsOk a →
                  SetupFailedWith .overlap s t ∧ SetupResult a 2 3 0 0 s t ∧ t.tab = s.tab) ∧
                (s.versionOk a → s.ringsOk a → s.regionsOk a → ¬s.geometryOk a →
                  SetupFailedWith .geometry s t ∧ SetupResult a 2 4 0 0 s t ∧ t.tab = s.tab) ∧
                (s.versionOk a → s.ringsOk a → s.regionsOk a → s.geometryOk a →
                  goesOn t ∧ (s.read (a + 2) ≠ 1 → t.tab = s.tab) ∧
                    (s.read (a + 2) = 1 →
                      t.tab.filter = .suspect ∧ t.tab.memory.marker = none ∧ t.tab.presence = s.tab.presence ∧
                        t.tab.memory.buckets = s.tab.memory.buckets)))))

/-- RUN enters RUNNING from STANDBY, or from HALTED with a valid setup, and the rings and the journal are examined at once; the lane
outputs take the values of RUNNING. PROMPT makes the same examinations while RUNNING. Both are ignored otherwise (11.2, 9.3, 10.3,
6.5). The order of the three examinations is the model's (log 23), and so is that the journal's run of writes is one step (log 45). -/
def Obligations.RunAndPromptExamineTheRings : Prop :=
  ∀ s : State, s.ctl.resetActive = false →
    (s.ctl.part = .standby ∨ (s.ctl.part = .halted ∧ s.ctl.setupComplete = true) →
      Completes .run s (fun t =>
        t = journalExamine (examineList (examineGate (s.setCtl { s.ctl with part := .running }))) ∧ t.ctl.part = .running ∧
          (∀ i, t.release i = (s.hold i).isSome) ∧
          (∀ i, t.freewheel i = true ↔
            (s.lane i).enabled = true ∧ ((s.lane i).mode = .base .free ∨ (s.lane i).mode = .emergency)) ∧
          t.tab = s.tab ∧ t.holds = s.holds ∧ t.lanes = s.lanes ∧ t.zones = s.zones ∧ t.monitors = s.monitors ∧ t.adm = s.adm ∧
          t.clk = s.clk ∧ t.cfg = s.cfg)) ∧
      (s.ctl.part = .running → exec .prompt s = .next (journalExamine (examineList (examineGate s)))) ∧
      (s.ctl.part = .running → s.gate.work ≠ none → s.list.work ≠ none → s.jrn.queue = [] → exec .prompt s = .next s) ∧
      (s.ctl.part = .running ∨ s.ctl.part = .settingUp ∨ (s.ctl.part = .halted ∧ s.ctl.setupComplete = false) →
        exec .run s = .next s) ∧
      (s.ctl.part ≠ .running → exec .prompt s = .next s)

/-- A write to NOTICE clears each flag written as 1 and no other; a write to NOTICE_EN sets the enables of the bytes written; and
NOTICE_N is active exactly while the master enable and an enabled flag are set (11.1, 11.4). CONTROL reads the part state, the
setup-complete flag, the failure code, the filter state and VALID in their bits, NOTICE the seven flags, NOTICE_EN the enables and the
master enable, SETUP_AT the offset last written and CLOCK the clock, or 0 while VALID is clear; every other bit and every other offset
below 0x40 reads 0, and the window above it reads the exchange memory (11.1, 12.2). That a read is a function is the model's
(log 29). -/
def Obligations.NoticeRegistersAndLine : Prop :=
  ∀ (e : BitVec 4) (v : Word) (s : State), s.ctl.resetActive = false →
    Completes (.noticeWrite e v) s (fun t =>
      (∀ f : NoticeFlag, t.flagSet f = (s.flagSet f && !(e.getLsbD 0 && v.getLsbD f.bit))) ∧
        t = s.setCtl { s.ctl with notice := t.ctl.notice }) ∧
      Completes (.noticeEnWrite e v) s (fun t =>
        (∀ f : NoticeFlag,
          t.ctl.enables.getLsbD f.bit = if e.getLsbD 0 then v.getLsbD f.bit else s.ctl.enables.getLsbD f.bit) ∧
          t.ctl.master = (if e.getLsbD 3 then v.getLsbD 31 else s.ctl.master) ∧
          t = s.setCtl { s.ctl with enables := t.ctl.enables, master := t.ctl.master } ∧
          (t.noticeActive = true ↔
            t.ctl.master = true ∧ ∃ f : NoticeFlag, t.flagSet f = true ∧ t.ctl.enables.getLsbD f.bit = true)) ∧
      (s.readWindow 0).toNat =
        256 * (match s.ctl.part with | .halted => 0 | .settingUp => 1 | .standby => 2 | .running => 3) +
          1024 * (if s.ctl.setupComplete then 1 else 0) +
          4096 * (match s.ctl.failure with
            | .none => 0 | .version => 1 | .placement => 2 | .overlap => 3 | .geometry => 4 | .tableTest => 5 | .unformatted => 6
            | .abandoned => 7) +
          65536 * (match s.tab.filter with | .suspect => 0 | .valid => 1 | .rebuilding => 2) +
          262144 * (if s.clk.valid then 1 else 0) ∧
      ((∀ f : NoticeFlag, (s.readWindow 1).getLsbD f.bit = s.flagSet f) ∧ ∀ n, 7 ≤ n → (s.readWindow 1).getLsbD n = false) ∧
      ((∀ f : NoticeFlag, (s.readWindow 2).getLsbD f.bit = s.ctl.enables.getLsbD f.bit) ∧
        (s.readWindow 2).getLsbD 31 = s.ctl.master ∧ ∀ n, 7 ≤ n → n ≠ 31 → (s.readWindow 2).getLsbD n = false) ∧
      s.readWindow 3 = s.ctl.setupAt ∧ s.readWindow 4 = (if s.clk.valid then s.clk.value else 0) ∧
      ∀ w : BitVec 16,
        (5 ≤ w.toNat → w.toNat < 16 → s.readWindow w = 0) ∧
          (16 ≤ w.toNat → ∀ i, i < 4 → byteOf (s.readWindow w) i = s.read (4 * w.toNat + i))

/-- A write to CLOCK sets the written bytes, sets VALID and restarts the second; each whole second advances a VALID clock by 1, up
to 2,147,483,647; CLOCK reads the clock, or 0 while VALID is clear (4.10, 11.1). That a write with no byte enable, which no bus
makes, still counts as a write is the model's choice (log 33). -/
def Obligations.ClockIsWrittenAndAdvances : Prop :=
  ∀ (e : BitVec 4) (v : Word) (s : State), s.ctl.resetActive = false →
    Completes (.clockWrite e v) s (fun t =>
      t = s.setClk t.clk ∧ t.clk.valid = true ∧ t.clk.ms = 0 ∧ t.readWindow 4 = t.clk.value ∧
        ∀ i, i < 4 → byteOf t.clk.value i = if e.getLsbD i then byteOf v i else byteOf s.clk.value i) ∧
      Completes .clockSecond s (fun t =>
        t = s.setClk t.clk ∧ t.clk.valid = s.clk.valid ∧ (s.clk.valid = false → t = s ∧ t.readWindow 4 = 0) ∧
          (s.clk.valid = true →
            t.clk.value.toInt = if s.clk.value.toInt = 2147483647 then 2147483647 else s.clk.value.toInt + 1))

/-- A processor write to a word of the window: SETUP_AT takes the written bytes, offsets 0x14 to 0x3F are ignored, the exchange
memory takes the written bytes and no other, the other registers are their own commands, and CONTROL carries its commands in the
order STOP, INIT, RUN, PROMPT (11.1, 11.2). That one command stands for every such write is the model's choice, and so is that the
commands of a CONTROL write meet nothing half done and that its setup comes to the table step (log 4, log 9, log 22). So is that,
while RESET_N is active, a write to the exchange memory lands as ever and the other writes do nothing (log 10). -/
def Obligations.WindowWrites : Prop :=
  ∀ (w : BitVec 16) (e : BitVec 4) (v : Word) (s : State),
    (s.ctl.resetActive = false → w = 3 →
      Completes (.registerWrite w e v) s (fun t =>
        t = s.setCtl { s.ctl with setupAt := t.ctl.setupAt } ∧
          ∀ i, i < 4 → byteOf t.ctl.setupAt i = if e.getLsbD i then byteOf v i else byteOf s.ctl.setupAt i)) ∧
      (5 ≤ w.toNat → w.toNat < 16 → exec (.registerWrite w e v) s = .next s) ∧
      (16 ≤ w.toNat → Memory.wf s.xmem →
        Completes (.registerWrite w e v) s (fun t =>
          t = s.setXmem t.xmem ∧
            (∀ i, i < 4 → t.read (4 * w.toNat + i) = if e.getLsbD i then byteOf v i else s.read (4 * w.toNat + i)) ∧
            ∀ b, (b < 4 * w.toNat ∨ 4 * w.toNat + 4 ≤ b) → t.read b = s.read b)) ∧
      (w = 1 → exec (.registerWrite w e v) s = exec (.noticeWrite e v) s) ∧
      (w = 2 → exec (.registerWrite w e v) s = exec (.noticeEnWrite e v) s) ∧
      (w = 4 → exec (.registerWrite w e v) s = exec (.clockWrite e v) s) ∧
      (s.ctl.resetActive = false → w = 0 → e.getLsbD 0 = false → exec (.registerWrite w e v) s = .next s) ∧
      (s.ctl.resetActive = false → w = 0 → e.getLsbD 0 = true →
        ∃ s1 s2 s3 s4, (if v.getLsbD 0 then exec (.stop .idle) s = .next s1 else s1 = s) ∧
          (if v.getLsbD 1 then exec (.init ⟨.idle, .table⟩) s1 = .next s2 else s2 = s1) ∧
          (if v.getLsbD 2 then exec .run s2 = .next s3 else s3 = s2) ∧
          (if v.getLsbD 3 then exec .prompt s3 = .next s4 else s4 = s3) ∧ exec (.registerWrite w e v) s = .next s4)

/-- RESET_N_ASSERTED stops the part: a table operation under way completes as at a STOP (2.6), and a journal write may be cut part-way,
short of its owner mark (10.2). The model's own is what else the assertion of RESET_N does, since the manual gives the values after
its release alone (log 10): RELEASE and FREEWHEEL fall at every lane, no register, hold or part state changes before the release, and
while RESET_N is active every command but power-on, RESET_N, a pin change and a bus write does nothing. So are the operands that say
what the assertion meets half done (log 9) and where it cuts a write (log 10). -/
def Obligations.ResetHoldsThePart : Prop :=
  ∀ (f : InFlight) (cut : BitVec 32) (s : State), Memory.wf s.xmem →
    (s.ctl.resetActive = false →
      Completes (.resetNAsserted f cut) s (fun t =>
        t.ctl.resetActive = true ∧ (∀ i, t.release i = false ∧ t.freewheel i = false) ∧
          (∃ v, exec (.stop f) s = .next v ∧ t.tab.memory = v.tab.memory) ∧
          (f = .idle → cut = 0 → t = s.setCtl { s.ctl with resetActive := true }) ∧
          (f = .idle →
            t = (s.setCtl { s.ctl with resetActive := true }).setXmem t.xmem ∧
              ∀ b, t.read b ≠ s.read b →
                ∃ ring, s.cfg.journal = some ring ∧ s.ctl.part = .running ∧ s.jrn.queue ≠ [] ∧
                  s.read (ring.base + 32 * s.jrn.put) = 1 ∧ ring.base + 32 * s.jrn.put < b ∧
                  b < ring.base + 32 * s.jrn.put + 32 ∧ cut.getLsbD (b - (ring.base + 32 * s.jrn.put)) = true))) ∧
      (s.ctl.resetActive = true → ∀ c, c ≠ .powerOn → c ≠ .resetN → (∀ i p x, c ≠ .laneEvent i p x) →
        (∀ w e v, c ≠ .registerWrite w e v) → exec c s = .next s)

/-- TABLE_STEP ends setup. A format with a failing bucket fails TABLE_TEST and a reuse with no marker of the geometry fails
UNFORMATTED; otherwise the block programs every ring, lane, zone, monitor and profile, the table is empty with its free list
ascending or as it was, and the part is in STANDBY (11.3, 2.6, 12.3, 12.6). Checks not yet made come first, and the first that fails
ends setup. A RAW lane whose pins differ from its levels takes them as one lane event after it is programmed (6.2). The model's own:
the stage of a setup and the checks made in this step (log 22), that byte 35 of the result area stays (log 28), that a format leaves
no word damaged (log 11), and that the RAW lane event follows the programming (log 21). -/
def Obligations.TableStepEndsSetup : Prop :=
  ∀ (bad : List TableWord) (s : State) (r : SetupRun), s.ctl.resetActive = false → s.ctl.part = .settingUp →
    s.ctl.setupRun = some r → Memory.wf s.xmem → s.tab.memory.Sound →
    let byte (j : Nat) : Nat := (Memory.read r.block (r.base + j)).toNat
    let half (j : Nat) : Nat := byte j + 256 * byte (j + 1)
    let word (j : Nat) : Nat := half j + 65536 * half (j + 2)
    let places := List.range (1024 * byte 5)
    let withdrawn := places.filter (fun i => decide (TableWord.place i ∈ bad))
    let badBucket : Prop := ∃ w ∈ bad, ∃ b, (w = .head b ∨ ∃ i, w = .slot b i) ∧ b < 2 ^ byte 4
    let marked (m : Marker) : Prop :=
      TableWord.marker ∉ s.tab.memory.damaged ∧ TableWord.marker ∉ bad ∧ s.tab.memory.marker = some m ∧ m.k = byte 4 ∧ m.u = byte 5
    let quiet (i : LaneId) : Prop := byte (0x46 + 32 * i.val) ≠ 0 ∨ (s.lane i).pins = (s.lane i).level
    let asBefore (t : State) : Prop :=
      t.lanes = s.lanes ∧ t.zones = s.zones ∧ t.monitors = s.monitors ∧ t.adm = s.adm ∧ t.gate = s.gate ∧ t.list = s.list ∧
        t.jrn = s.jrn ∧ t.cfg = s.cfg ∧ t.clk = s.clk ∧ t.tab.filter = s.tab.filter ∧ t.tab.presence = s.tab.presence
    let setUp (t : State) : Prop :=
      t.ctl.part = .standby ∧ t.ctl.setupComplete = true ∧ t.ctl.setupRun = none ∧
        (∀ f, t.flagSet f = (s.flagSet f || decide (f = .setupDone))) ∧
        t.cfg = ⟨some ⟨word 8, byte 12⟩, some ⟨word 16, byte 20⟩, some ⟨word 24, byte 28⟩, max 1 (min 250 (byte 6)),
          max 1 (byte 7)⟩ ∧
        t.gate = ⟨0, none, none⟩ ∧ t.list = ⟨0, none, none, false, none, ⟨0, 0, 0, 0, 0, 0, 0⟩, none⟩ ∧
        (∀ i, t.hold i = none) ∧ t.tab.k = byte 4 ∧ t.tab.u = byte 5 ∧ t.tab.port = [] ∧ t.clk = s.clk ∧
        (∀ i, quiet i → LaneProgrammed r i (s.lane i) (t.lane i)) ∧
        (∀ i, byte (0x46 + 32 * i.val) = 0 →
          (t.lane i).level = (s.lane i).pins ∧
            ∃ u v, u.ctl.part = .settingUp ∧ u.ctl.resetActive = false ∧ u.hold i = none ∧ u.clk = s.clk ∧
              LaneProgrammed r i (s.lane i) (u.lane i) ∧ exec (.laneEvent i (s.lane i).pins false) u = .next v ∧
              t.lane i = v.lane i) ∧
        ((∀ i, quiet i) → t.jrn = ⟨0, [], 0, none⟩) ∧
        (∀ z, t.zone z = ⟨half (0x140 + 8 * z.val), half (0x142 + 8 * z.val), 0⟩) ∧
        (∀ m : MonitorId,
          let o := 0x1C0 + 16 * m.val
          let x := t.monitor m
          if byte (o + 1) < 16 ∧ byte (o + 2) ≤ 1 ∧ byte (o + 3) ≤ 2 ∧ byte (o + 4) ≤ 7 ∧ byte (o + 6) ≤ 3 then
            x.enable = decide (byte o ≠ 0) ∧ x.zone.val = byte (o + 1) ∧ x.mode.code.toNat = byte (o + 2) ∧
              x.edge.code.toNat = byte (o + 3) ∧ x.steadiness = byte (o + 4) ∧ x.recordOn = decide (byte (o + 5) ≠ 0) ∧
              x.link.code.toNat = byte (o + 6) ∧ x.level = half (o + 8) ∧ x.low = half (o + 10) ∧ x.high = half (o + 12) ∧
              x.count = 0 ∧ x.output = (x.enable && x.raw (t.zone x.zone).occupancy)
          else x = ⟨false, 0, .level, 0, 0, 0, .rise, 0, false, .none, false, 0⟩) ∧
        (∀ p : ProfileId,
          let o := 0x240 + 16 * p.val
          let x := t.adm.profiles.get p
          x.openTime.toNat = word o ∧ x.closeTime.toNat = word (o + 4) ∧ x.noOpen = (byte (o + 8)).testBit 0 ∧
            x.noClose = (byte (o + 8)).testBit 1) ∧
        t.adm.scheme = (if byte 3 = 1 then .mod10 else .none)
    let begun : State :=
      (s.setCtl { s.ctl with setupRun := some { r with stage := .table } }).setTab
        (if byte 2 = 1 then { s.tab with filter := .suspect, memory := { s.tab.memory with marker := none } } else s.tab)
    (∀ code, r.stage = .entered ∨ (r.stage = .checking ∧ blockOk r.base) → (s.ofBlock r).setupChecks r.base (some code) →
      Completes (.tableStep bad) s (fun t =>
        SetupFailedWith code s t ∧ asBefore t ∧ t.tab = s.tab ∧ (blockOk r.base → SetupResult r.base 2 code.code 0 0 s t) ∧
          (¬blockOk r.base → t.xmem = s.xmem))) ∧
      (r.stage ≠ .table → (s.ofBlock r).setupChecks r.base none → exec (.tableStep bad) s = exec (.tableStep bad) begun) ∧
      (r.stage = .table → byte 2 = 1 → badBucket →
      Completes (.tableStep bad) s (fun t =>
        SetupFailedWith .tableTest s t ∧ SetupResult r.base 2 5 0 0 s t ∧ t.tab.memory.marker = none ∧ asBefore t)) ∧
      (r.stage = .table → byte 2 ≠ 1 → (∀ m, ¬marked m) →
        Completes (.tableStep bad) s (fun t =>
          SetupFailedWith .unformatted s t ∧ SetupResult r.base 2 6 0 0 s t ∧ asBefore t ∧
            t.tab.memory.buckets = s.tab.memory.buckets)) ∧
      (r.stage = .table → byte 2 = 1 → ¬badBucket →
        Completes (.tableStep bad) s (fun t =>
          setUp t ∧ SetupResult r.base 1 0 1 withdrawn.length s t ∧ t.tab.filter = .valid ∧ t.tab.presence = [] ∧
            t.tab.memory =
              ⟨some ⟨byte 4, byte 5, withdrawn.length⟩, [], places.filter (fun i => decide (TableWord.place i ∉ bad)), withdrawn,
                []⟩)) ∧
      ∀ m, r.stage = .table → byte 2 ≠ 1 → marked m →
        Completes (.tableStep bad) s (fun t =>
          setUp t ∧ SetupResult r.base 1 0 2 m.withdrawn s t ∧ t.tab.filter = s.tab.filter ∧ t.tab.presence = s.tab.presence ∧
            t.tab.memory = { s.tab.memory with damaged := t.tab.memory.damaged })

/-! ## The lanes -/

/-- LANE_EVENT conditions the four inputs of its lane: RAW takes the pins at once, and a sample instant counts agreements and
changes a level at the third sample in a row; it changes no setting, no other lane but by a link, and no entry (6.2, 6.1). The model's
own: that the pins alone follow while RESET_N is active (log 10), and that the operand says when a sample instant falls (log 39). -/
def Obligations.InputConditioning : Prop :=
  ∀ (i : LaneId) (pins : Levels) (sampled : Bool) (s : State),
    let l := s.lane i
    (s.ctl.resetActive = true → exec (.laneEvent i pins sampled) s = .next (s.setLane i { l with pins := pins })) ∧
      (s.ctl.resetActive = false →
        Completes (.laneEvent i pins sampled) s (fun t =>
          let n := t.lane i
          n.pins = pins ∧ (l.period = .raw → n.level = pins ∧ n.agree = l.agree) ∧
            (l.period ≠ .raw → sampled = false → t = s.setLane i { l with pins := pins }) ∧
            (l.period ≠ .raw → sampled = true →
              n.sampleMs = 0 ∧ Conditioned l.level.armA l.agree.armA pins.armA n.level.armA n.agree.armA ∧
                Conditioned l.level.armB l.agree.armB pins.armB n.level.armB n.agree.armB ∧
                Conditioned l.level.beam l.agree.beam pins.beam n.level.beam n.agree.beam ∧
                Conditioned l.level.fire l.agree.fire pins.fire n.level.fire n.agree.fire) ∧
            (n.level = l.level → t = s.setLane i { l with pins := pins, agree := n.agree, sampleMs := n.sampleMs }) ∧
            n = { l with
              pins := n.pins, level := n.level, agree := n.agree, sampleMs := n.sampleMs, tracker := n.tracker, mode := n.mode,
              pendingMode := n.pendingMode, afterEmergency := n.afterEmergency, tally := n.tally, prev := n.prev,
              alert := n.alert, overrun := n.overrun } ∧
            (∀ j, j ≠ i → t.lane j =
              { s.lane j with
                mode := (t.lane j).mode, pendingMode := (t.lane j).pendingMode, afterEmergency := (t.lane j).afterEmergency,
                tally := (t.lane j).tally }) ∧
            (∀ j, j ≠ i → t.hold j = s.hold j) ∧ t.tab.memory = s.tab.memory ∧ t.gate = s.gate ∧ t.list = s.list ∧
            t.cfg = s.cfg ∧ t.adm = s.adm ∧ t.clk = s.clk))

/-- The tracker of an enabled lane follows its arms: a step of one position turns it and counts, P0 brings it to REST, a jump of two
puts it in FAULT with a record of it and ends a STANDING hold, and FAULT lasts until P0 (6.3). An event acts on all its changes in
the order BEAM, tracker, FIRE, watch, and leaving REST discards the part of a release timer's unit (R115, R93). The levels are those
that arrive at a RAW lane or at a sample instant (6.2). For an event that completes a turn CompletedTurns says the whole. The
model's own in a FIRE step: 0xFF for no monitor and 0 in a detail byte with no name (log 42, log 40); and a reload starts a new unit
(log 31). -/
def Obligations.TrackerFollowsTheArms : Prop :=
  ∀ (i : LaneId) (pins : Levels) (x : Bool) (c : Lane) (s : State), s.Arrives i pins x c →
    let l := s.lane i
    let old := l.tracker
    let p := armPosition c.level
    let moves : Prop := l.enabled = true ∧ (c.level.armA ≠ l.level.armA ∨ c.level.armB ≠ l.level.armB)
    let next : Tracker :=
      if p = old.position then old
      else if old.state = .fault then (if p = 0 then ⟨.rest, 0, 0⟩ else ⟨.fault, p, 0⟩)
      else if p = old.position + 2 then ⟨.fault, p, 0⟩
      else if p = 0 then ⟨.rest, 0, 0⟩
      else if p = old.position + 1 then ⟨.turning, p, old.turn + 1⟩
      else ⟨.turning, p, old.turn - 1⟩
    let seen := (s.setLane i c).beamArrives i l.level.beam c.level.beam
    let placed (t : Tracker) := seen.setLane i { c with tracker := t }
    let does (t : State) : Prop := exec (.laneEvent i pins x) s = .next (t.eventEnds i l.level c.level)
    Completes (.laneEvent i pins x) s (fun t =>
      (¬moves → (t.lane i).tracker = old) ∧ (moves → (t.lane i).tracker = next)) ∧
      (c.level = l.level → exec (.laneEvent i pins x) s = .next (s.setLane i c)) ∧
      (c.level ≠ l.level → ¬moves ∨ p = old.position → does seen) ∧
      (moves → p ≠ old.position → old.state = .fault → does (placed next)) ∧
      (moves → old.state ≠ .fault → p = old.position + 2 →
        does (endHold i .fault (emit
          (s.recordNow .fault (some i) (some l.zone) {}
            (detailBytes old.position.val p.val (if old.state = .rest then 0 else 1)
              (if old.state = .turning then (old.turn % 256).toNat else 0)) zeroKey)
          (placed ⟨.fault, p, 0⟩)))) ∧
      (moves → old.state = .turning → p = 0 → (old.position = 3 ∧ old.turn = -1) ∨ (old.position = 1 ∧ old.turn = 1) → does (placed next)) ∧
      (moves → old.state = .turning → p ≠ 0 → p = old.position + 1 ∨ p = old.position + 3 → does (placed next)) ∧
      (moves → old.state = .rest → p ≠ 0 → p = old.position + 1 ∨ p = old.position + 3 →
        ((∀ h, s.hold i = some h → h.phase ≠ .standing) → does (placed next)) ∧
          ∀ h, seen.hold i = some h → h.phase = .standing → does ((placed next).setHold i (some { h with ms := 0 })))

/-- A completed turn commits or cancels a STANDING hold; with none it is an anonymous passage, which moves the zone's occupancy
by one and is counted in the tally of a free lane, with a TALLY record at 50, or makes a FORCED or REVERSE record (6.3, 6.4). A BEAM
rise of the same event is handed to the hold before the turn, so that the record of a commit has no BEAM_UNSEEN; a rise or fall of
FIRE acts after it, on the hold and the mode that the turn has left; and the watch comes last (R115). The levels are those that
arrive at a RAW lane or at a sample instant (6.2). That the record's mode and the tally are read after the zone's monitors have
acted is the model's reading (log 19). So is the 0 in a detail byte with no name (log 40), the 0xFF for no monitor in a MODE record
(log 42) and the new unit that a reload starts (log 31). -/
def Obligations.CompletedTurns : Prop :=
  ∀ (i : LaneId) (pins : Levels) (x forward : Bool) (c : Lane) (s : State), s.Arrives i pins x c → s.ZonesBounded →
    (s.lane i).enabled = true →
    (s.lane i).tracker = (if forward then ⟨.turning, 3, 3⟩ else ⟨.turning, 1, -3⟩) → armPosition (s.lane i).level ≠ 0 →
    c.level.armA = false → c.level.armB = false →
    let l := s.lane i
    let v := (s.setLane i { c with tracker := ⟨.rest, 0, 0⟩ }).beamArrives i l.level.beam c.level.beam
    let standing : Prop := ∃ h, s.hold i = some h ∧ h.phase = .standing
    let n : Int := (s.zone l.zone).occupancy + (if forward = decide (l.direction = .entry) then 1 else -1)
    let w := setOccupancy l.zone (max 0 (min 65535 n)).toNat v
    let counted := w.setLane i { w.lane i with tally := (w.lane i).tally + 1 }
    let free : Prop := s.ctl.part = .running ∧ (l.mode = .base .free ∨ l.mode = .emergency)
    let does (t : State) : Prop := exec (.laneEvent i pins x) s = .next (t.eventEnds i l.level c.level)
    (standing → does (endHold i (if forward then .commit else .notPassed) v)) ∧
      (¬standing → s.ctl.part = .settingUp → does v) ∧
      (¬standing → forward = true → free → (w.lane i).tally < 49 → does counted) ∧
      (¬standing → forward = true → free → (w.lane i).tally = 49 →
        does (emit (s.recordNow .tally (some i) (some l.zone) {} (detailBytes 50 0 0 0) zeroKey)
          (w.setLane i { w.lane i with tally := 0 }))) ∧
      (¬standing → s.ctl.part ≠ .settingUp → ¬(forward = true ∧ free) →
        does (emit
          (s.recordNow (if forward then .forced else .reverse) (some i) (some l.zone)
            { clamped := decide (n < 0 ∨ 65535 < n) }
            (detailCount (w.lane i).mode.code.toNat (max 0 (min 65535 n)).toNat) zeroKey) w))

/-- A rise of FIRE takes the lane to EMERGENCY in any part state, keeps the mode before it, records it and ends a STANDING hold;
a fall restores the mode kept, with the TALLY record that leaving a free mode asks for; each is evaluated as one watch event
after (6.5). The levels are those that arrive at a RAW lane or at a sample instant, where FIRE alone changes (6.2); beside other
changes TrackerFollowsTheArms and CompletedTurns say it. The model's own: 0xFF for no monitor in a MODE record, and 0 in a detail
byte with no name (log 42, log 40). -/
def Obligations.FireLine : Prop :=
  ∀ (i : LaneId) (pins : Levels) (x : Bool) (m : BaseMode) (c : Lane) (s : State), s.Arrives i pins x c →
    let l := s.lane i
    let z := some l.zone
    (l.level.fire = false → c.level = { l.level with fire := true } → l.mode = .base m →
      exec (.laneEvent i pins x) s =
        .next (watchEvent i (endHold i .emergency (emit
          (s.recordNow .mode (some i) z {} (detailBytes m.code.toNat 3 0 255) zeroKey)
          (s.setLane i { c with mode := .emergency, afterEmergency := some m }))))) ∧
      (l.level.fire = true → c.level = { l.level with fire := false } → l.mode = .emergency → l.afterEmergency = some m →
        let v := s.setLane i { c with afterEmergency := none, tally := 0 }
        let left :=
          if m ≠ .free ∧ 0 < l.tally then
            emit (s.recordNow .tally (some i) z {} (detailBytes l.tally 1 0 0) zeroKey) v
          else s.setLane i { c with afterEmergency := none }
        exec (.laneEvent i pins x) s =
          .next (watchEvent i (emit (s.recordNow .mode (some i) z {} (detailBytes 3 m.code.toNat 1 255) zeroKey)
            (left.setLane i { left.lane i with mode := .base m }))))

/-- A mode change asked for by a request or a link waits while the lane has a hold and is kept for after an EMERGENCY; otherwise
it is made at once with its MODE record, after a TALLY record where a free mode with a tally is left. The removal of a hold
applies the pending mode in the same way (6.5, 6.6, 5.6). A removal by STOP (`recorded` is false) makes no MODE record, and that it
still makes the TALLY record is the model's reading (log 20). The model's own: 0xFF for no monitor in a MODE record, and 0 in a
detail byte with no name (log 42, log 40). -/
def Obligations.ModeChanges : Prop :=
  ∀ (i : LaneId) (m old : BaseMode) (c : ModeCause) (recorded : Bool) (s : State),
    let l := s.lane i
    let tallied : Prop := old = .free ∧ m ≠ .free ∧ 0 < l.tally
    let modeRecord (c : ModeCause) (s : State) : Record :=
      s.recordNow .mode (some i) (some l.zone) {}
        (detailBytes old.code.toNat m.code.toNat c.code.toNat ((c.monitor.map Fin.val).getD 255)) zeroKey
    let tallyRecord := s.recordNow .tally (some i) (some l.zone) {} (detailBytes l.tally 1 0 0) zeroKey
    let gone := s.setHold i none
    (l.mode = .emergency → changeMode i m c s = s.setLane i { l with afterEmergency := some m, pendingMode := none }) ∧
      (l.mode ≠ .emergency → s.hold i ≠ none → changeMode i m c s = s.setLane i { l with pendingMode := some m }) ∧
      (s.hold i = none → l.mode = .base m → changeMode i m c s = s) ∧
      (s.hold i = none → l.mode = .base old → old ≠ m → ¬tallied →
        changeMode i m c s = emit (modeRecord c s) (s.setLane i { l with mode := .base m })) ∧
      (s.hold i = none → l.mode = .base old → old ≠ m → tallied →
        changeMode i m c s =
          emit (modeRecord c s)
            ((emit tallyRecord (s.setLane i { l with tally := 0 })).setLane i { l with tally := 0, mode := .base m })) ∧
      (l.pendingMode = none → removeHold i recorded s = gone) ∧
      (l.pendingMode = some m → l.mode = .emergency →
        removeHold i recorded s = gone.setLane i { l with pendingMode := none, afterEmergency := some m }) ∧
      (l.pendingMode = some m → l.mode = .base m → removeHold i recorded s = gone.setLane i { l with pendingMode := none }) ∧
      (l.pendingMode = some m → l.mode = .base old → old ≠ m → ¬tallied →
        removeHold i recorded s =
          if recorded then emit (modeRecord .pending s) (gone.setLane i { l with pendingMode := none, mode := .base m })
          else gone.setLane i { l with pendingMode := none, mode := .base m }) ∧
      (l.pendingMode = some m → l.mode = .base old → old ≠ m → tallied →
        let left :=
          (emit tallyRecord (gone.setLane i { l with pendingMode := none, tally := 0 })).setLane i
            { l with pendingMode := none, tally := 0, mode := .base m }
        removeHold i recorded s = if recorded then emit (modeRecord .pending s) left else left)

/-- A watch event takes the current term values as the previous ones, and a match reaches an enabled alert: an IDLE alert becomes
PENDING with an ALERT record of the newly satisfied terms and the term values, and any other alert sets OVERRUN (7.1 to 7.4). That
bits 6 and 7 of these two bytes, which name no term, are 0 is the model's choice (log 40). -/
def Obligations.WatchEvents : Prop :=
  ∀ (i : LaneId) (s : State),
    let l := s.lane i
    let n := s.terms i
    let new := l.watch.newly l.prev n
    (n = ⟨l.level.armA, l.level.armB, l.level.beam, l.level.fire, (s.hold i).isSome, decide (l.tracker.state = .fault)⟩) ∧
      (s.ctl.part = .settingUp ∨ l.watch.matched l.prev n = false ∨ l.alertOn = false →
        watchEvent i s = s.setLane i { l with prev := n }) ∧
      (s.ctl.part ≠ .settingUp → l.watch.matched l.prev n = true → l.alertOn = true → l.alert ≠ .idle →
        watchEvent i s = s.setLane i { l with prev := n, overrun := true }) ∧
      (s.ctl.part ≠ .settingUp → l.watch.matched l.prev n = true → l.alertOn = true → l.alert = .idle →
        ∃ d2 d3 : Byte,
          watchEvent i s =
              emit (s.recordNow .alert (some i) (some l.zone) {} (wordOf 0 l.watch.mode.code d2 d3) zeroKey)
                (s.setLane i { l with prev := n, alert := .pending }) ∧
            (l.watch.mode ≠ .first → ∀ t : Fin 8, d2.getLsbD t.val = decide (∃ y ∈ new, y.val = t.val)) ∧
            (l.watch.mode = .first → ∃ t ∈ new, d2 = BitVec.ofNat 8 t.val ∧ ∀ y ∈ new, t ≤ y) ∧
            (∀ t : Fin 6, d3.getLsbD t.val = n.val t) ∧ d3.getLsbD 6 = false ∧ d3.getLsbD 7 = false)

/-- The five ALERT requests at a lane, each returned DONE with the alert before and after it: TAKE, CLEAR, ENABLE, DISABLE, and
RAISE as a match with no newly satisfied term; a lane above 7 and an unnamed action are MALFORMED (7.6, 12.4). That any row of
the kind returns an unnamed action is the model's choice (log 8). So is the 0 in bits 2 to 7 of the result's flag bytes (log 43) and
in bits 6 and 7 of the ALERT record's term bytes (log 40). -/
def Obligations.AlertRequests : Prop :=
  ∀ (s : State) (ring : Ring) (d : Desc), s.GateTook ring .alert d →
    let a := (d.byte 0).toNat
    let back (r : Reply) (t : State) : Host.Outcome State Fault Refusal := .next (examineGate (gateHandBack ring d r t))
    ((8 ≤ d.lane.toNat ∨ 5 ≤ a) → ∀ c, (c = .alertTake ∧ (a = 0 ∨ 5 ≤ a)) ∨ (c = .alertClear ∧ (a = 1 ∨ 5 ≤ a)) ∨
        (c = .alertEnable ∧ (a = 2 ∨ 5 ≤ a)) ∨ (c = .alertDisable ∧ (a = 3 ∨ 5 ≤ a)) ∨ (c = .alertRaise ∧ 4 ≤ a) →
      exec c s = back ⟨.malformed, [], []⟩ s) ∧
      ∀ i : LaneId, d.lane = BitVec.ofNat 8 i.val →
        let l := s.lane i
        let flags (on late : Bool) : Byte := BitVec.ofNat 8 ((if on then 1 else 0) + (if late then 2 else 0))
        let reply (st : AlertState) (on late : Bool) : Reply :=
          ⟨.done, [l.alert.code, flags l.alertOn l.overrun, st.code, flags on late,
            if st = l.alert ∧ on = l.alertOn ∧ late = l.overrun then 0 else 1], []⟩
        (a = 0 → l.alert = .pending →
          exec .alertTake s = back (reply .inService l.alertOn l.overrun) (s.setLane i { l with alert := .inService })) ∧
          (a = 0 → l.alert ≠ .pending → exec .alertTake s = back (reply l.alert l.alertOn l.overrun) s) ∧
          (a = 1 →
            exec .alertClear s = back (reply .idle l.alertOn false) (s.setLane i { l with alert := .idle, overrun := false })) ∧
          (a = 2 → exec .alertEnable s = back (reply l.alert true l.overrun) (s.setLane i { l with alertOn := true })) ∧
          (a = 3 → exec .alertDisable s = back (reply l.alert false l.overrun) (s.setLane i { l with alertOn := false })) ∧
          (a = 4 → l.alertOn = false → exec .alertRaise s = back (reply l.alert false l.overrun) s) ∧
          (a = 4 → l.alertOn = true → l.alert ≠ .idle →
            exec .alertRaise s = back (reply l.alert true true) (s.setLane i { l with overrun := true })) ∧
          (a = 4 → l.alertOn = true → l.alert = .idle →
            ∃ d3 : Byte, (∀ t : Fin 6, d3.getLsbD t.val = (s.terms i).val t) ∧ d3.getLsbD 6 = false ∧ d3.getLsbD 7 = false ∧
              exec .alertRaise s = back (reply .pending true l.overrun)
                (emit (s.recordNow .alert (some i) (some l.zone) {}
                  (wordOf 1 l.watch.mode.code (if l.watch.mode = .first then 0xFF else 0) d3) zeroKey)
                  (s.setLane i { l with alert := .pending })))

/-- A LANE request sets the mode as a mode change does, and its tier, hold time, retrigger, escort time and watch at once with
the edge history restarted; its period restarts conditioning, and RAW takes the pins at once. It is returned DONE, or DEFERRED
where the mode waits for a hold, with the lane as it then stands. Any field out of range is MALFORMED (6.6, 7.7, 12.4). That the
mode comes first and the levels of a change to RAW last is the model's choice (log 38). -/
def Obligations.LaneRequests : Prop :=
  ∀ (s : State) (ring : Ring) (d : Desc), s.GateTook ring .lane d →
    let well : Prop :=
      d.lane.toNat < 8 ∧ (d.byte 0).toNat ≤ 2 ∧ (d.byte 1).toNat ≤ 3 ∧ (d.byte 2).toNat ≤ 3 ∧
        (∀ t : Fin 6, (d.byte (8 + t.val)).toNat ≤ 5) ∧ (d.byte 14).toNat ≤ 2
    (¬well → exec .lane s = .next (examineGate (gateHandBack ring d ⟨.malformed, [], []⟩ s))) ∧
      ∀ (i : LaneId) (m : BaseMode) (p : Period) (w : WatchSpec), d.lane = BitVec.ofNat 8 i.val → d.byte 0 = m.code →
        (d.byte 1).toNat ≤ 3 →
        d.byte 2 = (match p with | .raw => 0 | .ms1 => 1 | .ms4 => 2 | .ms16 => 3) →
        (∀ t : Fin 6, d.byte (8 + t.val) =
          (match w.terms.get t with | .ignore => 0 | .low => 1 | .high => 2 | .fall => 3 | .rise => 4 | .either => 5)) →
        d.byte 14 = w.mode.code → (w.lock = true ↔ d.byte 15 ≠ 0) →
        let l := s.lane i
        let u := changeMode i m .request s
        let set : Lane := { u.lane i with
          tier := BitVec.toFin ((d.byte 1).setWidth 2), retrigger := decide (d.byte 3 ≠ 0),
          holdTime := max 5 (min 600 ((d.byte 4).toNat + 256 * (d.byte 5).toNat)),
          escortTime := max 1 (min 120 ((d.byte 6).toNat + 256 * (d.byte 7).toNat)), watch := w, prev := u.terms i, period := p,
          agree := ⟨0, 0, 0, 0⟩, sampleMs := 0 }
        let v := if p = .raw then deliverLevels i l.pins (u.setLane i set) else u.setLane i set
        let n := v.lane i
        let opt (x : Option BaseMode) : Byte := match x with | none => 0xFF | some y => y.code
        exec .lane s = .next (examineGate (gateHandBack ring d
          ⟨if l.mode ≠ .emergency ∧ s.hold i ≠ none then .deferred else .done,
            [n.mode.code, opt n.pendingMode, opt n.afterEmergency, 0, BitVec.ofNat 8 n.holdTime, BitVec.ofNat 8 (n.holdTime / 256),
              BitVec.ofNat 8 n.escortTime, BitVec.ofNat 8 (n.escortTime / 256), n.tracker.state.code], []⟩ v))

/-! ## Holds and the gate requests -/

/-- A STANDING hold ends once: it becomes CLOSING, and waits for the table port where the entry is to be written, or else is
closed at once. Closing releases the reservation, moves the occupancy by one within its limits, makes the record of the outcome
and removes the hold. The release timer ends a hold at REST, and a BEAM rise marks it and may reload it (5.2 to 5.7). That the
expiry does nothing while the countdown is not at work is the model's (log 1, log 3), and so is that a reload starts a new unit
of 100 ms (log 31). So is the 0 in a detail byte with no name (log 40). -/
def Obligations.HoldEndings : Prop :=
  ∀ (i : LaneId) (s : State), s.ZonesBounded →
    let l := s.lane i
    (∀ o, (∀ h, s.hold i = some h → h.phase ≠ .standing) → endHold i o s = s) ∧
      (∀ h o, s.hold i = some h → h.phase = .standing →
        let closing := s.setHold i (some { h with phase := .closing o })
        let asks : Prop :=
          (∃ k loc t, h.kind = .credential k loc t) ∧ (o = .commit ∨ h.mark.isSome = true ∨ h.revoke.isSome = true)
        (asks → endHold i o s = closing.setTab { s.tab with port := s.tab.port ++ [.closing i] }) ∧
          (¬asks → endHold i o s = finishHold i { h with phase := .closing o } o ⟨0, 0, none, false, false, false⟩ closing)) ∧
      (∀ h o (c : Closing), (h.kind = .manual → c = ⟨0, 0, none, false, false, false⟩) →
        let z := h.zone
        let n : Int := (s.zone z).occupancy +
          (match o, h.direction with
            | .commit, .entry => 1
            | .commit, .exit => -1
            | .notPassed, .entry => -1
            | .notPassed, .exit => 1
            | _, _ => 0)
        let n' := (max 0 (min 65535 n)).toNat
        let released :=
          if h.direction = .entry then s.setZone z { s.zone z with reserved := (s.zone z).reserved - 1 } else s
        let clamped := decide (n < 0 ∨ 65535 < n)
        let record (k : RecordKind) (f : RecordFlags) (d : Word) : Record :=
          s.recordNow k (some i) (some z) { f with revokedAfter := c.revokedAfter, tableError := c.tableError, clamped := clamped } d
            (match h.kind with | .credential key _ _ => key | .manual => zeroKey)
        finishHold i h o c s =
          removeHold i true (emit
            (match o, h.kind with
              | .commit, .credential _ _ tier =>
                record .passage { beamUnseen := !h.beamSeen, contested := c.contested }
                  (detailBytes c.count c.returns tier.val ((c.cluster.map BitVec.toNat).getD 255))
              | .commit, .manual => record .manualPassage { beamUnseen := !h.beamSeen } (detailBytes n' (n' / 256) 0 0)
              | .lapsed, _ => record .lapsed {} h.startedAt
              | .notPassed, _ => record .cancelled {} (detailCount 0 n')
              | .emergency, _ => record .cancelled {} (detailCount 1 n')
              | .fault, _ => record .cancelled {} (detailCount 2 n'))
            (setOccupancy z n' released))) ∧
      (∀ h, s.hold i = some h → h.phase = .standing → s.ctl.part = .running → s.ctl.resetActive = false → l.tracker.state = .rest →
        let out := endHold i .lapsed (s.setHold i (some { h with remaining := 0, ms := 0 }))
        exec (.releaseTimerExpiry i) s = .next (if out.hold i = none then watchEvent i out else out)) ∧
      (s.ctl.part ≠ .running ∨ l.tracker.state ≠ .rest ∨ s.hold i = none → exec (.releaseTimerExpiry i) s = .next s) ∧
      (∀ h pins x c, s.hold i = some h → h.phase = .standing → s.Arrives i pins x c → l.level.beam = false →
        c.level = { l.level with beam := true } →
        exec (.laneEvent i pins x) s =
          .next (watchEvent i ((s.setLane i c).setHold i (some (h.beamArrives l.retrigger)))))

/-- MANUAL requests: a RELEASE that passes checks 1 to 5 makes a MANUAL hold with its reservation; an ESCORT that passes checks
1 to 4 gives the lane a token of its escort time and says whether it replaced one; a refusal carries the first reason; and a
token ends at its expiry (5.7, 12.4). That either row returns an unnamed action is the model's choice (log 8). -/
def Obligations.ManualRequests : Prop :=
  (∀ (i : LaneId) (s : State), s.ctl.resetActive = false →
    exec (.escortTokenExpiry i) s = .next (s.setLane i { s.lane i with token := none })) ∧
    ∀ (s : State) (ring : Ring) (d : Desc), s.GateTook ring .manual d →
      let a := (d.byte 0).toNat
      let back (r : Reply) (t : State) : Host.Outcome State Fault Refusal := .next (examineGate (gateHandBack ring d r t))
      (8 ≤ d.lane.toNat ∨ 2 ≤ a → (a ≠ 1 → exec .manualRelease s = back ⟨.malformed, [], []⟩ s) ∧
        (a ≠ 0 → exec .manualEscort s = back ⟨.malformed, [], []⟩ s)) ∧
        ∀ i : LaneId, d.lane = BitVec.ofNat 8 i.val →
          let l := s.lane i
          let refusal (r : Reason) : Reply := ⟨.done, [2, Reason.code (some r), BitVec.ofNat 8 l.zone.val, 0], []⟩
          let h : Hold :=
            ⟨.manual, l.direction, l.zone, .standing, l.holdTime, 0, l.holdTime, 0, if s.clk.valid then s.clk.value else 0, false, none,
              none⟩
          let held := s.setHold i (some h)
          let z := s.zone l.zone
          let reserved := if l.direction = .entry then held.setZone l.zone { z with reserved := z.reserved + 1 } else held
          (a = 0 → ∀ r, s.laneReason i true = some r → exec .manualRelease s = back (refusal r) s) ∧
            (a = 0 → s.laneReason i true = none →
              exec .manualRelease s = back ⟨.done, [1, 0, BitVec.ofNat 8 l.zone.val, 0], []⟩ (watchEvent i reserved)) ∧
            (a = 1 → ∀ r, s.laneReason i false = some r → exec .manualEscort s = back (refusal r) s) ∧
            (a = 1 → s.laneReason i false = none →
              exec .manualEscort s =
                back ⟨.done, [1, 0, BitVec.ofNat 8 l.zone.val, if l.token = none then 0 else 1], []⟩
                  (s.setLane i { l with token := some ⟨l.escortTime, 0⟩ }))

/-- PRESENT: a lane above 7, an unnamed credential kind and a length above 32 are MALFORMED; checks 1 to 5 refuse at the lane; a
credential that cannot be read refuses UNREADABLE, and one that fails its check digit BAD_CHECK; otherwise the key waits for the
table port (4.1 to 4.4, 1.2 to 1.6). The 0 in an unnamed bit of the result's presence bits and flag byte is the model's choice
(log 43). -/
def Obligations.PresentTakesTheFirstLook : Prop :=
  ∀ (s : State) (ring : Ring) (d : Desc), s.GateTook ring .present d → d.payload.length = 40 →
    let back (r : Reply) : Host.Outcome State Fault Refusal := .next (examineGate (gateHandBack ring d r s))
    (8 ≤ d.lane.toNat → exec .present s = back ⟨.malformed, [], []⟩) ∧
      ∀ i : LaneId, d.lane = BitVec.ofNat 8 i.val →
        let len := (d.byte 1).toNat
        let bytes := (List.range len).map (fun j => d.byte (2 + j))
        let digits := bytes.map (fun b => b.toNat - 0x30)
        let barcode : Prop := 6 ≤ len ∧ len ≤ 28 ∧ ∀ b ∈ bytes, 0x30 ≤ b.toNat ∧ b.toNat ≤ 0x39
        let card : Prop := len = 4 ∨ len = 7 ∨ len = 10
        let refuse (r : Reason) := back (presentReply (some r) (s.lane i).zone none none none false false)
        let ask (key : Key) : Host.Outcome State Fault Refusal :=
          .next ((s.setGate { s.gate with work := some ⟨d, .lookup key⟩ }).setTab { s.tab with port := s.tab.port ++ [.lookup] })
        (∀ r, s.laneReason i true = some r → exec .present s = refuse r) ∧
          (s.laneReason i true = none → (d.byte 0 ≠ 1 ∧ d.byte 0 ≠ 2) ∨ 32 < len → exec .present s = back ⟨.malformed, [], []⟩) ∧
          (s.laneReason i true = none → d.byte 0 = 1 → len ≤ 32 →
            (¬barcode → exec .present s = refuse .unreadable) ∧
              (barcode → s.adm.scheme = .mod10 → mod10Passes digits = false → exec .present s = refuse .badCheck) ∧
              (barcode → s.adm.scheme = .none ∨ mod10Passes digits = true → exec .present s = ask (packBarcode digits))) ∧
          (s.laneReason i true = none → d.byte 0 = 2 → len ≤ 32 →
            (¬card → exec .present s = refuse .unreadable) ∧ (card → exec .present s = ask (packCard bytes)))

/-- An admission lookup admits a stored key that is not REVOKED and not held where no check of its effective tier refuses: it makes the
CREDENTIAL hold with its reservation, uses up the escort token that check 13 passed on, and returns what it read (4.4 to 4.9,
5.1). A word is damaged from the operation that names it on (log 11). The 0 in an unnamed bit of the result's presence bits and flag
byte is the model's choice (log 43). -/
def Obligations.LookupAdmits : Prop :=
  ∀ (bad : List TableWord) (s : State) (ring : Ring) (d : Desc) (i : LaneId) (key : Key) (loc : Location) (e : Entry),
    s.LookupAtPort ring d i key →
    let u := popPort (damage bad s)
    let l := s.lane i
    let tier := s.effectiveTier i e
    s.laneReason i true = none → (s.tab.filter ≠ .valid ∨ filterIndex key ∈ s.tab.presence) → u.lookup key = .found loc e →
    e.state ≠ .revoked → (∀ j, ¬s.HeldAt key j) → tier = 0 ∨ (∀ r, ¬Refuses s i e r) →
    let h : Hold :=
      ⟨.credential key loc tier, l.direction, l.zone, .standing, l.holdTime, 0, l.holdTime, 0, if s.clk.valid then s.clk.value else 0,
        false, none, none⟩
    let usesToken : Prop := l.direction = .entry ∧ tier ≠ 0 ∧ e.grant l.zone = .escort
    let v := (u.setLane i { l with token := if usesToken then none else l.token }).setHold i (some h)
    let z := s.zone l.zone
    let w := if l.direction = .entry then v.setZone l.zone { z with reserved := z.reserved + 1 } else v
    exec (.admissionLookup bad) s =
      .next (examineGate (gateHandBack ring d
        (presentReply none l.zone (some tier) (some e) none
          (decide (l.direction = .entry ∧ 2 ≤ tier.val ∧
            s.clk.valid = false ∧
              ((s.adm.profiles.get e.profile).noOpen = false ∨ (s.adm.profiles.get e.profile).noClose = false)))
          (decide (s.tab.filter ≠ .valid)))
        (watchEvent i w)))

/-- An admission lookup refuses by the first check that fails: the lane checks again, UNKNOWN from the VALID filter with no walk or from
the walk, TABLE_ERROR with the TABLE_FAULT flag and record, REVOKED, IN_USE, and the checks of tiers 1 to 3; a refusal changes
nothing else (4.4 to 4.9). The model's choices: a word is damaged from the operation that names it on (log 11), and the 0 in an
unnamed bit of the result's presence bits and flag byte (log 43). -/
def Obligations.LookupRefuses : Prop :=
  ∀ (bad : List TableWord) (s : State) (ring : Ring) (d : Desc) (i : LaneId) (key : Key), s.LookupAtPort ring d i key →
    let u := popPort (damage bad s)
    let z := (s.lane i).zone
    let bypass := decide (s.tab.filter ≠ .valid)
    let bucket := bucketIndex s.tab.k key
    let refuse (r : Reason) (tier : Option (Fin 4)) (e : Option Entry) (j : Option LaneId) (noClock bypassed : Bool) (t : State) :
        Host.Outcome State Fault Refusal :=
      .next (examineGate (gateHandBack ring d (presentReply (some r) z tier e j noClock bypassed) t))
    (∀ r, s.laneReason i true = some r → exec (.admissionLookup bad) s = refuse r none none none false false u) ∧
      (s.laneReason i true = none → s.tab.filter = .valid → filterIndex key ∉ s.tab.presence →
        exec (.admissionLookup bad) s = refuse .unknown none none none false false u) ∧
      (s.laneReason i true = none → s.tab.filter ≠ .valid ∨ filterIndex key ∈ s.tab.presence →
        (u.lookup key = .absent → exec (.admissionLookup bad) s = refuse .unknown none none none false bypass u) ∧
          (u.lookup key = .failed →
            exec (.admissionLookup bad) s = refuse .tableError none none none false bypass
              (emit (s.recordNow .tableFault (some i) (some z) {}
                (detailBytes bucket (bucket / 256) (bucket / 65536) 0) key) (notify .tableFault u))) ∧
          ∀ loc e, u.lookup key = .found loc e →
            (e.state = .revoked → exec (.admissionLookup bad) s = refuse .revoked none (some e) none false bypass u) ∧
              (e.state ≠ .revoked → ∀ j, s.HeldAt key j → (∀ j', s.HeldAt key j' → j ≤ j') →
                exec (.admissionLookup bad) s = refuse .inUse none (some e) (some j) false bypass u) ∧
              (e.state ≠ .revoked → (∀ j, ¬s.HeldAt key j) → s.effectiveTier i e ≠ 0 → ∀ r, Refuses s i e r →
                exec (.admissionLookup bad) s =
                  refuse r (some (s.effectiveTier i e)) (some e) none
                    (decide (r = .zoneFull ∧ s.clk.valid = false ∧
                      ((s.adm.profiles.get e.profile).noOpen = false ∨ (s.adm.profiles.get e.profile).noClose = false)))
                    bypass u))

/-- A closing operation writes the held entry once, the commit first, then the pending mark, then the pending revoke, and closes the hold;
a mark INSIDE at the commit of an ENTRY hold is CONTESTED and not written. A read that fails writes nothing and closes the hold after
the TABLE_FAULT record. A location without the held key is the model's fault (log 26), which the manual rules out (5.3, 5.4, 2.4, 2.5).
A word is damaged from the operation that names it on, and a write leaves the damage, which is the model's choice (log 11). -/
def Obligations.ClosingWritesTheHeldEntry : Prop :=
  ∀ (bad : List TableWord) (s : State) (i : LaneId) (h : Hold) (o : HoldOutcome) (key : Key) (loc : Location) (tier : Fin 4),
    s.ClosingAtPort i h o key loc tier →
    let u := popPort (damage bad s)
    let now := if s.clk.valid then s.clk.value else 0
    let bucket := bucketIndex s.tab.k key
    (loc.word ∈ u.tab.memory.damaged →
      exec (.closingOperation bad) s =
        .next (watchEvent i (finishHold i h o ⟨0, 0, none, false, false, true⟩
          (emit (s.recordNow .tableFault (some i) (some h.zone) {}
            (detailBytes bucket (bucket / 256) (bucket / 65536) 1) key) (notify .tableFault u))))) ∧
      (loc.word ∉ u.tab.memory.damaged → (∀ e, s.tab.memory.entryAt loc = some e → e.key ≠ key) →
        exec (.closingOperation bad) s = .fault (.entryMissing i)) ∧
      ∀ e, loc.word ∉ u.tab.memory.damaged → s.tab.memory.entryAt loc = some e → e.key = key →
        let up (n : Nat) : Nat := if n < 255 then n + 1 else n
        let committed : Entry :=
          match o, h.direction with
          | .commit, .entry =>
            { e with state := .inside, count := up e.count, lastLane := some i, lastTime := some now, remote := none }
          | .commit, .exit =>
            { e with
              state := .outside, returns := if e.returns = 0 then 0 else e.returns - 1, lastLane := some i, lastTime := some now,
              remote := none }
          | _, _ => e
        let contested : Prop := o = .commit ∧ h.direction = .entry ∧ ∃ m, h.mark = some m ∧ m.inside = true
        let marked : Entry :=
          match h.mark with
          | none => committed
          | some m =>
            if contested ∨ committed.state = .revoked then committed
            else
              { committed with
                state := if m.inside then .inside else .outside, count := if m.inside then up committed.count else committed.count,
                lastLane := none, lastTime := some m.time, remote := some m.cluster }
        let final : Entry :=
          match h.revoke with
          | none => marked
          | some .revoke => { marked with state := .revoked }
          | some .restore => if marked.state = .revoked then { marked with state := .outside } else marked
        exec (.closingOperation bad) s =
          .next (watchEvent i (finishHold i h o
            ⟨final.count, final.returns.val, if contested then h.mark.map PendingMark.cluster else none, decide contested,
              decide (h.revoke = some .revoke), false⟩
            (u.setMemory (u.tab.memory.writeEntry loc final))))

/-! ## The list requests -/

/-- LOAD checks its fields, then its place in the chain: ALONE and FIRST break an open chain, MIDDLE and LAST return the kept descriptor
DONE and go on, or are ORPHAN. Its buffer's malformed records are skipped and counted, the first other record waits for the table
port, and the end of the buffer keeps the descriptor or returns it with its counts, a LAST with the totals too. The chain wait ends
an open chain CHAIN_BROKEN where the next descriptor is not there (3.2, 3.3). The model's own: that the write at a keep covers the
whole result area (log 36), and that the chain wait's last examination reloads the poll timer (log 18). -/
def Obligations.LoadsAndChains : Prop :=
  ∀ (s : State) (ring : Ring), s.cfg.list = some ring →
    let closed (t : State) : State :=
      t.setList { t.list with chainOpen := false, kept := none, totals := ⟨0, 0, 0, 0, 0, 0, 0⟩, wait := none }
    let keptBack (st : Status) (overlay : List (Nat × List Byte)) (k : Kept) : State :=
      writeReturn .listReturned (ring.base + 64 * k.index) k.notify ⟨st, k.counts.resultBytes, overlay⟩ s
    (s.list.chainOpen = false → breakChain s = s) ∧
      (s.list.chainOpen = true → s.list.kept = none → breakChain s = closed s) ∧
      (∀ k, s.list.chainOpen = true → s.list.kept = some k →
        breakChain s = closed (keptBack .chainBroken [(0, s.list.totals.totalBytes)] k)) ∧
      (∀ d, s.ListTook ring .load d →
        let offset := (d.byte 0).toNat + 256 * (d.byte 1).toNat + 65536 * (d.byte 2).toNat + 16777216 * (d.byte 3).toNat
        let count := (d.byte 4).toNat + 256 * (d.byte 5).toNat
        let well : Prop := 1 ≤ count ∧ count ≤ 1024 ∧ offset % 32 = 0 ∧ 64 ≤ offset ∧ offset + 32 * count ≤ 0x40000 ∧ d.chain.toNat ≤ 3
        let opened (t : State) : State :=
          t.setList { t.list with chainOpen := true, kept := none, totals := ⟨0, 0, 0, 0, 0, 0, 0⟩, wait := none }
        let buffer (t : State) : Host.Outcome State Fault Refusal := .next (continueBuffer d 0 ⟨0, 0, 0, 0, 0, 0, 0⟩ t)
        (¬well → exec .load s = .next (examineList (listHandBack ring d ⟨.malformed, [], []⟩ (breakChain s)))) ∧
          (well → d.chain = 0 → exec .load s = buffer (breakChain s)) ∧
          (well → d.chain = 1 → exec .load s = buffer (opened (breakChain s))) ∧
          (well → (d.chain = 2 ∨ d.chain = 3) → s.list.chainOpen = false →
            exec .load s = .next (examineList (listHandBack ring d ⟨.orphan, [], []⟩ s))) ∧
          (well → (d.chain = 2 ∨ d.chain = 3) → s.list.chainOpen = true →
            let after := (match s.list.kept with | none => s | some k => keptBack .done [] k)
            exec .load s = buffer (after.setList { after.list with kept := none, wait := none }))) ∧
      (∀ (d : Desc) (n : Nat) (c : Counts), n ≤ d.recordCount →
        (∀ m, n ≤ m → m < d.recordCount → (∀ j, n ≤ j → j < m → s.batchRecord d j = none) → s.batchRecord d m ≠ none →
          continueBuffer d n c s =
            s.setList { s.list with work := some ⟨d, .loading m { c with malformed := c.malformed + (m - n) }⟩ }) ∧
          ((∀ j, n ≤ j → j < d.recordCount → s.batchRecord d j = none) →
            continueBuffer d n c s = finishBuffer d { c with malformed := c.malformed + (d.recordCount - n) } s)) ∧
      (∀ (d : Desc) (c : Counts),
        (d.chain = 0 → finishBuffer d c s = examineList (listHandBack ring d ⟨.done, c.resultBytes, []⟩ s)) ∧
          (d.chain = 3 →
            finishBuffer d c s =
              examineList (listHandBack ring d ⟨.done, c.resultBytes, [(0, (c.addTo s.list.totals).totalBytes)]⟩ (closed s))) ∧
          (d.chain = 1 ∨ d.chain = 2 →
            finishBuffer d c s =
              examineList
                ((s.setXmem
                  (if s.read (ring.base + 64 * s.list.take) = 1 then
                    Memory.writeBytes s.xmem (ring.base + 64 * s.list.take + 48) (padTo 16 c.resultBytes)
                  else s.xmem)).setList
                  { s.list with
                    take := (s.list.take + 1) % 2 ^ ring.exp, poll := none, work := none,
                    kept := some ⟨s.list.take, d.notify, c⟩, totals := c.addTo s.list.totals, wait := none }))) ∧
      (∀ w, s.ctl.part = .running → s.ctl.resetActive = false → s.list.work = none → s.list.wait = some w →
        let stopped := s.setList { s.list with wait := none }
        (s.read (ring.base + 64 * s.list.take) = 1 → exec .chainWaitExpiry s = .next (examineList stopped)) ∧
          (s.read (ring.base + 64 * s.list.take) ≠ 1 → s.list.chainOpen = true →
            exec .chainWaitExpiry s =
              .next ((breakChain stopped).setList
                ⟨s.list.take, some s.cfg.poll, none, false, none, ⟨0, 0, 0, 0, 0, 0, 0⟩, none⟩)))

/-- One batch record at the table port: a PUT of a new key inserts an entry OUTSIDE with count 0 and sets its filter bits, or is FULL; a
PUT of a stored key replaces its list fields, and its history too with reset-state; a DROP empties the place; reset-state and DROP
skip a held key; and a read that fails ends the descriptor TABLE_ERROR (3.2, 2.4 to 2.7). The record is read when the port takes it
(log 15). A word is damaged from the operation that names it on, and a write leaves the damage, which is the model's choice (log 11). -/
def Obligations.BatchRecordOperation : Prop :=
  ∀ (bad : List TableWord) (s : State) (ring : Ring) (d : Desc) (n : Nat) (c : Counts), s.ListAtPort ring d (.loading n c) →
    let u := damage bad s
    let go (c : Counts) (t : State) : Host.Outcome State Fault Refusal := .next (continueBuffer d (n + 1) c t)
    let failed (key : Key) : Host.Outcome State Fault Refusal :=
      let b := bucketIndex s.tab.k key
      let t := emit (s.recordNow .tableFault none none {} (detailBytes b (b / 256) (b / 65536) 2) key) (notify .tableFault u)
      let closed := t.setList { t.list with chainOpen := false, kept := none, totals := ⟨0, 0, 0, 0, 0, 0, 0⟩, wait := none }
      .next (examineList
        (if d.chain = 0 then listHandBack ring d ⟨.tableError, c.resultBytes, []⟩ t
        else listHandBack ring d ⟨.tableError, c.resultBytes, [(0, (c.addTo s.list.totals).totalBytes)]⟩ closed))
    let held (key : Key) : Prop := ∃ j, s.HeldAt key j
    (s.batchRecord d n = none → exec (.batchRecord bad) s = go { c with malformed := c.malformed + 1 } u) ∧
      (∀ key f, s.batchRecord d n = some (.put key f) →
        let fresh : Entry := ⟨key, .outside, f.tier, f.grants, f.profile, f.returns, 0, none, none, none, f.batch⟩
        (u.lookup key = .failed → exec (.batchRecord bad) s = failed key) ∧
          (u.lookup key = .absent → ∀ m, u.tab.memory.insert (bucketIndex s.tab.k key) fresh = .written m →
            ∃ t, exec (.batchRecord bad) s = go { c with added := c.added + 1 } t ∧ t = u.setTab t.tab ∧
              t.tab = { s.tab with memory := m, presence := t.tab.presence, shadow := t.tab.shadow } ∧
              (∀ b, b ∈ t.tab.presence ↔ b ∈ s.tab.presence ∨ b = filterIndex key) ∧
              (∀ b, b ∈ t.tab.shadow ↔ b ∈ s.tab.shadow ∨ (s.tab.filter = .rebuilding ∧ b = filterIndex key))) ∧
          (u.lookup key = .absent → u.tab.memory.insert (bucketIndex s.tab.k key) fresh = .full →
            exec (.batchRecord bad) s = go { c with full := c.full + 1 } u) ∧
          (u.lookup key = .absent → u.tab.memory.insert (bucketIndex s.tab.k key) fresh = .failed →
            exec (.batchRecord bad) s = failed key) ∧
          (∀ loc e, u.lookup key = .found loc e →
            (f.reset = true → held key → exec (.batchRecord bad) s = go { c with heldSkip := c.heldSkip + 1 } u) ∧
              (f.reset = true → ¬held key →
                exec (.batchRecord bad) s =
                  go { c with replaced := c.replaced + 1 }
                    (u.setMemory (u.tab.memory.writeEntry loc { fresh with key := e.key }))) ∧
              (f.reset = false →
                exec (.batchRecord bad) s =
                  go { c with replaced := c.replaced + 1 }
                    (u.setMemory (u.tab.memory.writeEntry loc
                      { e with tier := f.tier, grants := f.grants, profile := f.profile, returns := f.returns, batch := f.batch }))))) ∧
      ∀ key, s.batchRecord d n = some (.drop key) →
        (u.lookup key = .failed → exec (.batchRecord bad) s = failed key) ∧
          (u.lookup key = .absent → exec (.batchRecord bad) s = go { c with notFound := c.notFound + 1 } u) ∧
          (∀ loc e, u.lookup key = .found loc e →
            (held key → exec (.batchRecord bad) s = go { c with heldSkip := c.heldSkip + 1 } u) ∧
              (¬held key → ∀ m, u.tab.memory.drop loc = .written m →
                exec (.batchRecord bad) s = go { c with dropped := c.dropped + 1 } (u.setMemory m)) ∧
              (¬held key → u.tab.memory.drop loc = .failed → exec (.batchRecord bad) s = failed key))

/-- REVOKE, RESTORE, MARK and QUERY break an open chain, are MALFORMED or ask for the table port, and there are answered:
NOT_FOUND, DONE with the entry changed or read, DONE_PENDING with the change stored in the hold of a held key, or TABLE_ERROR
(3.5, 12.4). That any of a kind's rows returns an unnamed action is the model's (log 8). The zero holding-lane byte of a DONE
result is the model's reading (log 37). Its choices are the 0 in bits 4 to 7 of QUERY's presence bits (log 43), the result bytes over
the payload of a QUERY without an entry, which stay as the processor wrote them, beside a result area of zeros (log 44), and that a word is damaged from the operation
that names it on, a write leaving the damage (log 11). -/
def Obligations.ListRequests : Prop :=
  ∀ (s : State) (ring : Ring) (d : Desc),
    let key := keyAt d.payload 0
    let broken := breakChain s
    let taken (c : Instr) (ok : Prop) : Prop :=
      (ok → exec c s = .next (broken.setList { broken.list with work := some ⟨d, .request⟩ })) ∧
        (¬ok → exec c s = .next (examineList (listHandBack ring d ⟨.malformed, [], []⟩ broken)))
    (s.ListTook ring .revoke d →
      (d.byte 16 ≠ 2 → taken .revoke (d.byte 16 = 1 ∧ keyPasses key = true)) ∧
        (d.byte 16 ≠ 1 → taken .restore (d.byte 16 = 2 ∧ keyPasses key = true))) ∧
      (s.ListTook ring .mark d → taken .mark ((d.byte 16).toNat ≤ 1 ∧ keyPasses key = true)) ∧
      (s.ListTook ring .query d → taken .query (keyPasses key = true)) ∧
      (∀ bad, s.ListAtPort ring d .request →
        let u := damage bad s
        let back (r : Reply) (t : State) : Prop := exec (.listRequest bad) s = .next (examineList (listHandBack ring d r t))
        let b := bucketIndex s.tab.k key
        let mark : PendingMark := ⟨decide (d.byte 16 = 1), d.byte 17, wordOf (d.byte 20) (d.byte 21) (d.byte 22) (d.byte 23)⟩
        let action : RevokeAction := if d.byte 16 = 2 then .restore else .revoke
        (u.lookup key = .failed →
          back ⟨.tableError, [], []⟩
            (emit (s.recordNow .tableFault none none {} (detailBytes b (b / 256) (b / 65536) 3) key) (notify .tableFault u))) ∧
          (u.lookup key = .absent → back ⟨.notFound, [], []⟩ u) ∧
          ∀ loc e, u.lookup key = .found loc e →
            ((∀ j, ¬s.HeldAt key j) →
              (d.kind = 17 → (d.byte 16 = 1 ∨ d.byte 16 = 2) →
                let e' : Entry :=
                  { e with state := if d.byte 16 = 1 then .revoked else if e.state = .revoked then .outside else e.state }
                back ⟨.done, [e'.state.code], []⟩ (u.setMemory (u.tab.memory.writeEntry loc e'))) ∧
                (d.kind = 18 →
                  let e' : Entry :=
                    if e.state = .revoked then e
                    else
                      { e with
                        state := if mark.inside then .inside else .outside
                        count := if mark.inside = true ∧ e.count < 255 then e.count + 1 else e.count
                        lastLane := none, lastTime := some mark.time, remote := some mark.cluster }
                  back ⟨.done, [e'.state.code, BitVec.ofNat 8 e'.count], []⟩ (u.setMemory (u.tab.memory.writeEntry loc e'))) ∧
                (d.kind = 19 → back (queryResult e none) u)) ∧
              ∀ j h, s.hold j = some h → s.HeldAt key j → (∀ j', s.HeldAt key j' → j ≤ j') →
                (d.kind = 17 → (d.byte 16 = 1 ∨ d.byte 16 = 2) →
                  back ⟨.donePending, [0, BitVec.ofNat 8 j.val, d.byte 16], []⟩
                    (u.setHold j (some { h with revoke := some action }))) ∧
                  (d.kind = 18 →
                    back ⟨.donePending, [0, 0, BitVec.ofNat 8 j.val], []⟩ (u.setHold j (some { h with mark := some mark }))) ∧
                  (d.kind = 19 → back (queryResult e (some (j, h))) u))

/-- REBUILD breaks an open chain (3.3) and is BUSY while REBUILDING; otherwise it starts a walk from bucket 0 with an empty shadow
filter and is ACCEPTED; either carries the filter state found (R63 in 3.5, R36 in 2.8, 12.4). Each bucket of the walk adds the bits of
its entries; the last makes the shadow the presence filter, VALID, and records its count; and a read that fails abandons the walk
(2.8). A walk in its turn at the port comes between list operations, two records of one LOAD among them (2.5, log 14). The model's own:
the operand that names damaged words, and what a word is (log 11); and after an abandoned walk the shadow filter is empty, and while no
walk runs its position is 0 (log 35). -/
def Obligations.RebuildAndItsWalk : Prop :=
  ∀ (s : State) (ring : Ring),
    (∀ d, s.ListTook ring .rebuild d →
      let u := breakChain s
      (s.tab.filter = .rebuilding → exec .rebuild s = .next (examineList (listHandBack ring d ⟨.busy, [2], []⟩ u))) ∧
        (s.tab.filter ≠ .rebuilding →
          exec .rebuild s =
            .next (examineList (listHandBack ring d ⟨.accepted, [if s.tab.filter = .valid then 1 else 0], []⟩
              (u.setTab { s.tab with shadow := [], filter := .rebuilding, walk := 0 }))))) ∧
      (∀ bad, s.ctl.part = .running → s.ctl.resetActive = false → s.tab.port = [] →
        (∀ d, s.list.work ≠ some ⟨d, .request⟩) → s.tab.filter = .rebuilding →
        let u := damage bad s
        let b := s.tab.walk
        let x := s.tab.memory.bucket b
        let fails : Prop := ∃ w ∈ u.tab.memory.damaged,
          (∃ i, w = .slot b i) ∨ w = .head b ∨ ∃ p e, (p, e) ∈ x.chain ∧ w = .place p
        (fails →
          exec (.rebuildWalkBucket bad) s =
            let faulted :=
              emit (s.recordNow .tableFault none none {} (detailBytes b (b / 256) (b / 65536) 4) zeroKey) (notify .tableFault u)
            .next (emit (s.recordNow .rebuildDone none none { incomplete := true } (BitVec.ofNat 32 b) zeroKey)
              (faulted.setTab { u.tab with shadow := [], filter := .suspect, walk := 0 }))) ∧
          (¬fails →
            ∃ shadow : List Nat,
              (∀ y, y ∈ shadow ↔ y ∈ s.tab.shadow ∨ ∃ e, s.tab.memory.Stores b e ∧ filterIndex e.key = y) ∧
                (s.tab.shadow.Pairwise (· < ·) → shadow.Pairwise (· < ·)) ∧
                (b + 1 < 2 ^ s.tab.k →
                  exec (.rebuildWalkBucket bad) s = .next (u.setTab { u.tab with shadow := shadow, walk := b + 1 })) ∧
                (2 ^ s.tab.k ≤ b + 1 →
                  exec (.rebuildWalkBucket bad) s =
                    .next (emit (s.recordNow .rebuildDone none none {} (BitVec.ofNat 32 shadow.length) zeroKey)
                      (u.setTab { u.tab with presence := shadow, shadow := [], filter := .valid, walk := 0 })))))

/-- The ZONE, MONITOR and PROFILE requests break an open chain and are MALFORMED where a field is out of range. SET_OCCUPANCY and ADJUST
change the occupancy, ADJUST within its limits; SET_CAPACITY the capacity; MONITOR writes the settings and computes the output
afresh with no event; PROFILE writes a window; each returns what stood before and after (8.2, 8.4, 4.11, 12.4). That each of the three
ZONE rows returns an action with no name is the model's (log 8), and so is the 0 in bits 2 to 7 of PROFILE's flag byte (log 43). -/
def Obligations.SettingsRequests : Prop :=
  ∀ (s : State) (ring : Ring) (d : Desc),
    let u := breakChain s
    let back (r : Reply) (t : State) : Host.Outcome State Fault Refusal := .next (examineList (listHandBack ring d r t))
    let malformed := back ⟨.malformed, [], []⟩ u
    let word (j : Nat) : Word := wordOf (d.byte j) (d.byte (j + 1)) (d.byte (j + 2)) (d.byte (j + 3))
    let half (n : Nat) : List Byte := [BitVec.ofNat 8 n, BitVec.ofNat 8 (n / 256)]
    (s.ListTook ring .zone d →
      let a := (d.byte 1).toNat
      let v := word 4
      let bad : Prop :=
        16 ≤ (d.byte 0).toNat ∨ 3 ≤ a ∨ (a ≠ 1 ∧ 65535 < v.toNat) ∨ (a = 1 ∧ (v.toInt < -65535 ∨ 65535 < v.toInt))
      (bad → (a ≠ 1 → a ≠ 2 → exec .zoneSetOccupancy s = malformed) ∧ (a ≠ 0 → a ≠ 2 → exec .zoneAdjust s = malformed) ∧
        (a ≠ 0 → a ≠ 1 → exec .zoneSetCapacity s = malformed)) ∧
        (¬bad → ∀ z : ZoneId, d.byte 0 = BitVec.ofNat 8 z.val →
          let x := s.zone z
          let reply (cap occ : Nat) (clamped : Bool) : Reply :=
            ⟨.done,
              half x.capacity ++ half x.occupancy ++ [BitVec.ofNat 8 x.reserved, 0] ++ half cap ++ half occ ++
                [BitVec.ofNat 8 x.reserved, if clamped then 1 else 0, d.byte 0, d.byte 1], []⟩
          let n : Int := x.occupancy + v.toInt
          let n' := (max 0 (min 65535 n)).toNat
          (a = 0 → exec .zoneSetOccupancy s = back (reply x.capacity v.toNat false) (setOccupancy z v.toNat u)) ∧
            (a = 1 → exec .zoneAdjust s = back (reply x.capacity n' (decide (n < 0 ∨ 65535 < n))) (setOccupancy z n' u)) ∧
            (a = 2 →
              exec .zoneSetCapacity s = back (reply v.toNat x.occupancy false) (u.setZone z { x with capacity := v.toNat })))) ∧
      (s.ListTook ring .monitor d →
        let well : Prop :=
          (d.byte 0).toNat < 8 ∧ (d.byte 2).toNat < 16 ∧ (d.byte 3).toNat ≤ 1 ∧ (d.byte 4).toNat ≤ 2 ∧ (d.byte 5).toNat ≤ 7 ∧
            (d.byte 7).toNat ≤ 3 ∧ (word 8).toNat ≤ 65535 ∧ (word 12).toNat ≤ 65535 ∧ (word 16).toNat ≤ 65535
        (¬well → exec .monitor s = malformed) ∧
          (well → ∀ n : MonitorId, d.byte 0 = BitVec.ofNat 8 n.val →
            ∃ m : Monitor, m.enable = decide (d.byte 1 ≠ 0) ∧ d.byte 2 = BitVec.ofNat 8 m.zone.val ∧ m.mode.code = d.byte 3 ∧
              m.edge.code = d.byte 4 ∧ m.steadiness = (d.byte 5).toNat ∧ m.recordOn = decide (d.byte 6 ≠ 0) ∧ m.link.code = d.byte 7 ∧
              m.level = (word 8).toNat ∧ m.low = (word 12).toNat ∧ m.high = (word 16).toNat ∧ m.count = 0 ∧
              m.output = (m.enable && m.raw (s.zone m.zone).occupancy) ∧
              let o := s.monitor n
              let flag (b : Bool) : Byte := if b then 1 else 0
              exec .monitor s =
                back
                  ⟨.done,
                    [flag o.enable, BitVec.ofNat 8 o.zone.val, o.mode.code, o.edge.code, BitVec.ofNat 8 o.steadiness, flag o.recordOn,
                      o.link.code] ++ half o.level ++ half o.low ++ half o.high ++
                      [flag o.output, BitVec.ofNat 8 o.count, flag m.output], []⟩
                  (u.setMonitor n m))) ∧
      (s.ListTook ring .profile d →
        (32 ≤ (d.byte 0).toNat → exec .profile s = malformed) ∧
          ∀ p : ProfileId, d.byte 0 = BitVec.ofNat 8 p.val →
            let o := s.adm.profiles.get p
            let flags : Byte := BitVec.ofNat 8 ((if o.noOpen then 1 else 0) + (if o.noClose then 2 else 0))
            ∃ t, exec .profile s =
                back
                  ⟨.done,
                    (List.range 4).map (byteOf o.openTime) ++ (List.range 4).map (byteOf o.closeTime) ++ [flags], []⟩ t ∧
              t = u.setAdm t.adm ∧ t.adm.scheme = s.adm.scheme ∧ (∀ y, y ≠ p → t.adm.profiles.get y = s.adm.profiles.get y) ∧
              t.adm.profiles.get p = ⟨word 4, word 8, (d.byte 1).getLsbD 0, (d.byte 1).getLsbD 1⟩)
end

