-- ==== Sys2Proof/Laws/State.lean ====
section
/-! SUPPORT. What each update of the state gives at each field, and what the updates of one place of a vector field give at that
place and at every other. -/

namespace Sys2Proof.Machine

/-- A place of a vector after an update of one of its places. -/
theorem vector_get_set {α : Type} {n : Nat} (v : Vector α n) (j i : Fin n) (x : α) :
    (v.set j.val x j.isLt).get i = if i = j then x else v.get i := by
  show (v.set j.val x j.isLt)[i.val] = if i = j then x else v[i.val]
  rw [Vector.getElem_set]
  split
  · next h => rw [if_pos (Fin.ext h.symm)]
  · next h => rw [if_neg (fun e => h (congrArg Fin.val e).symm)]

@[simp] theorem State.setCtl_ctl (s : State) (x : Control) : (s.setCtl x).ctl = x := rfl
@[simp] theorem State.setCtl_clk (s : State) (x : Control) : (s.setCtl x).clk = s.clk := rfl
@[simp] theorem State.setCtl_xmem (s : State) (x : Control) : (s.setCtl x).xmem = s.xmem := rfl
@[simp] theorem State.setCtl_cfg (s : State) (x : Control) : (s.setCtl x).cfg = s.cfg := rfl
@[simp] theorem State.setCtl_gate (s : State) (x : Control) : (s.setCtl x).gate = s.gate := rfl
@[simp] theorem State.setCtl_list (s : State) (x : Control) : (s.setCtl x).list = s.list := rfl
@[simp] theorem State.setCtl_tab (s : State) (x : Control) : (s.setCtl x).tab = s.tab := rfl
@[simp] theorem State.setCtl_adm (s : State) (x : Control) : (s.setCtl x).adm = s.adm := rfl
@[simp] theorem State.setCtl_holds (s : State) (x : Control) : (s.setCtl x).holds = s.holds := rfl
@[simp] theorem State.setCtl_lanes (s : State) (x : Control) : (s.setCtl x).lanes = s.lanes := rfl
@[simp] theorem State.setCtl_zones (s : State) (x : Control) : (s.setCtl x).zones = s.zones := rfl
@[simp] theorem State.setCtl_monitors (s : State) (x : Control) : (s.setCtl x).monitors = s.monitors := rfl
@[simp] theorem State.setCtl_jrn (s : State) (x : Control) : (s.setCtl x).jrn = s.jrn := rfl
@[simp] theorem State.setCtl_pending (s : State) (x : Control) : (s.setCtl x).pending = s.pending := rfl
@[simp] theorem State.setCtl_hold (s : State) (x : Control) (i : LaneId) : (s.setCtl x).hold i = s.hold i := rfl
@[simp] theorem State.setCtl_lane (s : State) (x : Control) (i : LaneId) : (s.setCtl x).lane i = s.lane i := rfl
@[simp] theorem State.setCtl_zone (s : State) (x : Control) (i : ZoneId) : (s.setCtl x).zone i = s.zone i := rfl
@[simp] theorem State.setCtl_monitor (s : State) (x : Control) (i : MonitorId) : (s.setCtl x).monitor i = s.monitor i := rfl

@[simp] theorem State.setClk_ctl (s : State) (x : Clock) : (s.setClk x).ctl = s.ctl := rfl
@[simp] theorem State.setClk_clk (s : State) (x : Clock) : (s.setClk x).clk = x := rfl
@[simp] theorem State.setClk_xmem (s : State) (x : Clock) : (s.setClk x).xmem = s.xmem := rfl
@[simp] theorem State.setClk_cfg (s : State) (x : Clock) : (s.setClk x).cfg = s.cfg := rfl
@[simp] theorem State.setClk_gate (s : State) (x : Clock) : (s.setClk x).gate = s.gate := rfl
@[simp] theorem State.setClk_list (s : State) (x : Clock) : (s.setClk x).list = s.list := rfl
@[simp] theorem State.setClk_tab (s : State) (x : Clock) : (s.setClk x).tab = s.tab := rfl
@[simp] theorem State.setClk_adm (s : State) (x : Clock) : (s.setClk x).adm = s.adm := rfl
@[simp] theorem State.setClk_holds (s : State) (x : Clock) : (s.setClk x).holds = s.holds := rfl
@[simp] theorem State.setClk_lanes (s : State) (x : Clock) : (s.setClk x).lanes = s.lanes := rfl
@[simp] theorem State.setClk_zones (s : State) (x : Clock) : (s.setClk x).zones = s.zones := rfl
@[simp] theorem State.setClk_monitors (s : State) (x : Clock) : (s.setClk x).monitors = s.monitors := rfl
@[simp] theorem State.setClk_jrn (s : State) (x : Clock) : (s.setClk x).jrn = s.jrn := rfl
@[simp] theorem State.setClk_pending (s : State) (x : Clock) : (s.setClk x).pending = s.pending := rfl
@[simp] theorem State.setClk_hold (s : State) (x : Clock) (i : LaneId) : (s.setClk x).hold i = s.hold i := rfl
@[simp] theorem State.setClk_lane (s : State) (x : Clock) (i : LaneId) : (s.setClk x).lane i = s.lane i := rfl
@[simp] theorem State.setClk_zone (s : State) (x : Clock) (i : ZoneId) : (s.setClk x).zone i = s.zone i := rfl
@[simp] theorem State.setClk_monitor (s : State) (x : Clock) (i : MonitorId) : (s.setClk x).monitor i = s.monitor i := rfl

@[simp] theorem State.setXmem_ctl (s : State) (x : List Host.Cell) : (s.setXmem x).ctl = s.ctl := rfl
@[simp] theorem State.setXmem_clk (s : State) (x : List Host.Cell) : (s.setXmem x).clk = s.clk := rfl
@[simp] theorem State.setXmem_xmem (s : State) (x : List Host.Cell) : (s.setXmem x).xmem = x := rfl
@[simp] theorem State.setXmem_cfg (s : State) (x : List Host.Cell) : (s.setXmem x).cfg = s.cfg := rfl
@[simp] theorem State.setXmem_gate (s : State) (x : List Host.Cell) : (s.setXmem x).gate = s.gate := rfl
@[simp] theorem State.setXmem_list (s : State) (x : List Host.Cell) : (s.setXmem x).list = s.list := rfl
@[simp] theorem State.setXmem_tab (s : State) (x : List Host.Cell) : (s.setXmem x).tab = s.tab := rfl
@[simp] theorem State.setXmem_adm (s : State) (x : List Host.Cell) : (s.setXmem x).adm = s.adm := rfl
@[simp] theorem State.setXmem_holds (s : State) (x : List Host.Cell) : (s.setXmem x).holds = s.holds := rfl
@[simp] theorem State.setXmem_lanes (s : State) (x : List Host.Cell) : (s.setXmem x).lanes = s.lanes := rfl
@[simp] theorem State.setXmem_zones (s : State) (x : List Host.Cell) : (s.setXmem x).zones = s.zones := rfl
@[simp] theorem State.setXmem_monitors (s : State) (x : List Host.Cell) : (s.setXmem x).monitors = s.monitors := rfl
@[simp] theorem State.setXmem_jrn (s : State) (x : List Host.Cell) : (s.setXmem x).jrn = s.jrn := rfl
@[simp] theorem State.setXmem_pending (s : State) (x : List Host.Cell) : (s.setXmem x).pending = s.pending := rfl
@[simp] theorem State.setXmem_hold (s : State) (x : List Host.Cell) (i : LaneId) : (s.setXmem x).hold i = s.hold i := rfl
@[simp] theorem State.setXmem_lane (s : State) (x : List Host.Cell) (i : LaneId) : (s.setXmem x).lane i = s.lane i := rfl
@[simp] theorem State.setXmem_zone (s : State) (x : List Host.Cell) (i : ZoneId) : (s.setXmem x).zone i = s.zone i := rfl
@[simp] theorem State.setXmem_monitor (s : State) (x : List Host.Cell) (i : MonitorId) : (s.setXmem x).monitor i = s.monitor i := rfl

@[simp] theorem State.setCfg_ctl (s : State) (x : RingConfig) : (s.setCfg x).ctl = s.ctl := rfl
@[simp] theorem State.setCfg_clk (s : State) (x : RingConfig) : (s.setCfg x).clk = s.clk := rfl
@[simp] theorem State.setCfg_xmem (s : State) (x : RingConfig) : (s.setCfg x).xmem = s.xmem := rfl
@[simp] theorem State.setCfg_cfg (s : State) (x : RingConfig) : (s.setCfg x).cfg = x := rfl
@[simp] theorem State.setCfg_gate (s : State) (x : RingConfig) : (s.setCfg x).gate = s.gate := rfl
@[simp] theorem State.setCfg_list (s : State) (x : RingConfig) : (s.setCfg x).list = s.list := rfl
@[simp] theorem State.setCfg_tab (s : State) (x : RingConfig) : (s.setCfg x).tab = s.tab := rfl
@[simp] theorem State.setCfg_adm (s : State) (x : RingConfig) : (s.setCfg x).adm = s.adm := rfl
@[simp] theorem State.setCfg_holds (s : State) (x : RingConfig) : (s.setCfg x).holds = s.holds := rfl
@[simp] theorem State.setCfg_lanes (s : State) (x : RingConfig) : (s.setCfg x).lanes = s.lanes := rfl
@[simp] theorem State.setCfg_zones (s : State) (x : RingConfig) : (s.setCfg x).zones = s.zones := rfl
@[simp] theorem State.setCfg_monitors (s : State) (x : RingConfig) : (s.setCfg x).monitors = s.monitors := rfl
@[simp] theorem State.setCfg_jrn (s : State) (x : RingConfig) : (s.setCfg x).jrn = s.jrn := rfl
@[simp] theorem State.setCfg_pending (s : State) (x : RingConfig) : (s.setCfg x).pending = s.pending := rfl
@[simp] theorem State.setCfg_hold (s : State) (x : RingConfig) (i : LaneId) : (s.setCfg x).hold i = s.hold i := rfl
@[simp] theorem State.setCfg_lane (s : State) (x : RingConfig) (i : LaneId) : (s.setCfg x).lane i = s.lane i := rfl
@[simp] theorem State.setCfg_zone (s : State) (x : RingConfig) (i : ZoneId) : (s.setCfg x).zone i = s.zone i := rfl
@[simp] theorem State.setCfg_monitor (s : State) (x : RingConfig) (i : MonitorId) : (s.setCfg x).monitor i = s.monitor i := rfl

@[simp] theorem State.setGate_ctl (s : State) (x : GateUnit) : (s.setGate x).ctl = s.ctl := rfl
@[simp] theorem State.setGate_clk (s : State) (x : GateUnit) : (s.setGate x).clk = s.clk := rfl
@[simp] theorem State.setGate_xmem (s : State) (x : GateUnit) : (s.setGate x).xmem = s.xmem := rfl
@[simp] theorem State.setGate_cfg (s : State) (x : GateUnit) : (s.setGate x).cfg = s.cfg := rfl
@[simp] theorem State.setGate_gate (s : State) (x : GateUnit) : (s.setGate x).gate = x := rfl
@[simp] theorem State.setGate_list (s : State) (x : GateUnit) : (s.setGate x).list = s.list := rfl
@[simp] theorem State.setGate_tab (s : State) (x : GateUnit) : (s.setGate x).tab = s.tab := rfl
@[simp] theorem State.setGate_adm (s : State) (x : GateUnit) : (s.setGate x).adm = s.adm := rfl
@[simp] theorem State.setGate_holds (s : State) (x : GateUnit) : (s.setGate x).holds = s.holds := rfl
@[simp] theorem State.setGate_lanes (s : State) (x : GateUnit) : (s.setGate x).lanes = s.lanes := rfl
@[simp] theorem State.setGate_zones (s : State) (x : GateUnit) : (s.setGate x).zones = s.zones := rfl
@[simp] theorem State.setGate_monitors (s : State) (x : GateUnit) : (s.setGate x).monitors = s.monitors := rfl
@[simp] theorem State.setGate_jrn (s : State) (x : GateUnit) : (s.setGate x).jrn = s.jrn := rfl
@[simp] theorem State.setGate_pending (s : State) (x : GateUnit) : (s.setGate x).pending = s.pending := rfl
@[simp] theorem State.setGate_hold (s : State) (x : GateUnit) (i : LaneId) : (s.setGate x).hold i = s.hold i := rfl
@[simp] theorem State.setGate_lane (s : State) (x : GateUnit) (i : LaneId) : (s.setGate x).lane i = s.lane i := rfl
@[simp] theorem State.setGate_zone (s : State) (x : GateUnit) (i : ZoneId) : (s.setGate x).zone i = s.zone i := rfl
@[simp] theorem State.setGate_monitor (s : State) (x : GateUnit) (i : MonitorId) : (s.setGate x).monitor i = s.monitor i := rfl

@[simp] theorem State.setList_ctl (s : State) (x : ListUnit) : (s.setList x).ctl = s.ctl := rfl
@[simp] theorem State.setList_clk (s : State) (x : ListUnit) : (s.setList x).clk = s.clk := rfl
@[simp] theorem State.setList_xmem (s : State) (x : ListUnit) : (s.setList x).xmem = s.xmem := rfl
@[simp] theorem State.setList_cfg (s : State) (x : ListUnit) : (s.setList x).cfg = s.cfg := rfl
@[simp] theorem State.setList_gate (s : State) (x : ListUnit) : (s.setList x).gate = s.gate := rfl
@[simp] theorem State.setList_list (s : State) (x : ListUnit) : (s.setList x).list = x := rfl
@[simp] theorem State.setList_tab (s : State) (x : ListUnit) : (s.setList x).tab = s.tab := rfl
@[simp] theorem State.setList_adm (s : State) (x : ListUnit) : (s.setList x).adm = s.adm := rfl
@[simp] theorem State.setList_holds (s : State) (x : ListUnit) : (s.setList x).holds = s.holds := rfl
@[simp] theorem State.setList_lanes (s : State) (x : ListUnit) : (s.setList x).lanes = s.lanes := rfl
@[simp] theorem State.setList_zones (s : State) (x : ListUnit) : (s.setList x).zones = s.zones := rfl
@[simp] theorem State.setList_monitors (s : State) (x : ListUnit) : (s.setList x).monitors = s.monitors := rfl
@[simp] theorem State.setList_jrn (s : State) (x : ListUnit) : (s.setList x).jrn = s.jrn := rfl
@[simp] theorem State.setList_pending (s : State) (x : ListUnit) : (s.setList x).pending = s.pending := rfl
@[simp] theorem State.setList_hold (s : State) (x : ListUnit) (i : LaneId) : (s.setList x).hold i = s.hold i := rfl
@[simp] theorem State.setList_lane (s : State) (x : ListUnit) (i : LaneId) : (s.setList x).lane i = s.lane i := rfl
@[simp] theorem State.setList_zone (s : State) (x : ListUnit) (i : ZoneId) : (s.setList x).zone i = s.zone i := rfl
@[simp] theorem State.setList_monitor (s : State) (x : ListUnit) (i : MonitorId) : (s.setList x).monitor i = s.monitor i := rfl

@[simp] theorem State.setTab_ctl (s : State) (x : TableUnit) : (s.setTab x).ctl = s.ctl := rfl
@[simp] theorem State.setTab_clk (s : State) (x : TableUnit) : (s.setTab x).clk = s.clk := rfl
@[simp] theorem State.setTab_xmem (s : State) (x : TableUnit) : (s.setTab x).xmem = s.xmem := rfl
@[simp] theorem State.setTab_cfg (s : State) (x : TableUnit) : (s.setTab x).cfg = s.cfg := rfl
@[simp] theorem State.setTab_gate (s : State) (x : TableUnit) : (s.setTab x).gate = s.gate := rfl
@[simp] theorem State.setTab_list (s : State) (x : TableUnit) : (s.setTab x).list = s.list := rfl
@[simp] theorem State.setTab_tab (s : State) (x : TableUnit) : (s.setTab x).tab = x := rfl
@[simp] theorem State.setTab_adm (s : State) (x : TableUnit) : (s.setTab x).adm = s.adm := rfl
@[simp] theorem State.setTab_holds (s : State) (x : TableUnit) : (s.setTab x).holds = s.holds := rfl
@[simp] theorem State.setTab_lanes (s : State) (x : TableUnit) : (s.setTab x).lanes = s.lanes := rfl
@[simp] theorem State.setTab_zones (s : State) (x : TableUnit) : (s.setTab x).zones = s.zones := rfl
@[simp] theorem State.setTab_monitors (s : State) (x : TableUnit) : (s.setTab x).monitors = s.monitors := rfl
@[simp] theorem State.setTab_jrn (s : State) (x : TableUnit) : (s.setTab x).jrn = s.jrn := rfl
@[simp] theorem State.setTab_pending (s : State) (x : TableUnit) : (s.setTab x).pending = s.pending := rfl
@[simp] theorem State.setTab_hold (s : State) (x : TableUnit) (i : LaneId) : (s.setTab x).hold i = s.hold i := rfl
@[simp] theorem State.setTab_lane (s : State) (x : TableUnit) (i : LaneId) : (s.setTab x).lane i = s.lane i := rfl
@[simp] theorem State.setTab_zone (s : State) (x : TableUnit) (i : ZoneId) : (s.setTab x).zone i = s.zone i := rfl
@[simp] theorem State.setTab_monitor (s : State) (x : TableUnit) (i : MonitorId) : (s.setTab x).monitor i = s.monitor i := rfl

@[simp] theorem State.setAdm_ctl (s : State) (x : Admission) : (s.setAdm x).ctl = s.ctl := rfl
@[simp] theorem State.setAdm_clk (s : State) (x : Admission) : (s.setAdm x).clk = s.clk := rfl
@[simp] theorem State.setAdm_xmem (s : State) (x : Admission) : (s.setAdm x).xmem = s.xmem := rfl
@[simp] theorem State.setAdm_cfg (s : State) (x : Admission) : (s.setAdm x).cfg = s.cfg := rfl
@[simp] theorem State.setAdm_gate (s : State) (x : Admission) : (s.setAdm x).gate = s.gate := rfl
@[simp] theorem State.setAdm_list (s : State) (x : Admission) : (s.setAdm x).list = s.list := rfl
@[simp] theorem State.setAdm_tab (s : State) (x : Admission) : (s.setAdm x).tab = s.tab := rfl
@[simp] theorem State.setAdm_adm (s : State) (x : Admission) : (s.setAdm x).adm = x := rfl
@[simp] theorem State.setAdm_holds (s : State) (x : Admission) : (s.setAdm x).holds = s.holds := rfl
@[simp] theorem State.setAdm_lanes (s : State) (x : Admission) : (s.setAdm x).lanes = s.lanes := rfl
@[simp] theorem State.setAdm_zones (s : State) (x : Admission) : (s.setAdm x).zones = s.zones := rfl
@[simp] theorem State.setAdm_monitors (s : State) (x : Admission) : (s.setAdm x).monitors = s.monitors := rfl
@[simp] theorem State.setAdm_jrn (s : State) (x : Admission) : (s.setAdm x).jrn = s.jrn := rfl
@[simp] theorem State.setAdm_pending (s : State) (x : Admission) : (s.setAdm x).pending = s.pending := rfl
@[simp] theorem State.setAdm_hold (s : State) (x : Admission) (i : LaneId) : (s.setAdm x).hold i = s.hold i := rfl
@[simp] theorem State.setAdm_lane (s : State) (x : Admission) (i : LaneId) : (s.setAdm x).lane i = s.lane i := rfl
@[simp] theorem State.setAdm_zone (s : State) (x : Admission) (i : ZoneId) : (s.setAdm x).zone i = s.zone i := rfl
@[simp] theorem State.setAdm_monitor (s : State) (x : Admission) (i : MonitorId) : (s.setAdm x).monitor i = s.monitor i := rfl

@[simp] theorem State.setJrn_ctl (s : State) (x : Journal) : (s.setJrn x).ctl = s.ctl := rfl
@[simp] theorem State.setJrn_clk (s : State) (x : Journal) : (s.setJrn x).clk = s.clk := rfl
@[simp] theorem State.setJrn_xmem (s : State) (x : Journal) : (s.setJrn x).xmem = s.xmem := rfl
@[simp] theorem State.setJrn_cfg (s : State) (x : Journal) : (s.setJrn x).cfg = s.cfg := rfl
@[simp] theorem State.setJrn_gate (s : State) (x : Journal) : (s.setJrn x).gate = s.gate := rfl
@[simp] theorem State.setJrn_list (s : State) (x : Journal) : (s.setJrn x).list = s.list := rfl
@[simp] theorem State.setJrn_tab (s : State) (x : Journal) : (s.setJrn x).tab = s.tab := rfl
@[simp] theorem State.setJrn_adm (s : State) (x : Journal) : (s.setJrn x).adm = s.adm := rfl
@[simp] theorem State.setJrn_holds (s : State) (x : Journal) : (s.setJrn x).holds = s.holds := rfl
@[simp] theorem State.setJrn_lanes (s : State) (x : Journal) : (s.setJrn x).lanes = s.lanes := rfl
@[simp] theorem State.setJrn_zones (s : State) (x : Journal) : (s.setJrn x).zones = s.zones := rfl
@[simp] theorem State.setJrn_monitors (s : State) (x : Journal) : (s.setJrn x).monitors = s.monitors := rfl
@[simp] theorem State.setJrn_jrn (s : State) (x : Journal) : (s.setJrn x).jrn = x := rfl
@[simp] theorem State.setJrn_pending (s : State) (x : Journal) : (s.setJrn x).pending = s.pending := rfl
@[simp] theorem State.setJrn_hold (s : State) (x : Journal) (i : LaneId) : (s.setJrn x).hold i = s.hold i := rfl
@[simp] theorem State.setJrn_lane (s : State) (x : Journal) (i : LaneId) : (s.setJrn x).lane i = s.lane i := rfl
@[simp] theorem State.setJrn_zone (s : State) (x : Journal) (i : ZoneId) : (s.setJrn x).zone i = s.zone i := rfl
@[simp] theorem State.setJrn_monitor (s : State) (x : Journal) (i : MonitorId) : (s.setJrn x).monitor i = s.monitor i := rfl

@[simp] theorem State.setPending_ctl (s : State) (x : List Instr) : (s.setPending x).ctl = s.ctl := rfl
@[simp] theorem State.setPending_clk (s : State) (x : List Instr) : (s.setPending x).clk = s.clk := rfl
@[simp] theorem State.setPending_xmem (s : State) (x : List Instr) : (s.setPending x).xmem = s.xmem := rfl
@[simp] theorem State.setPending_cfg (s : State) (x : List Instr) : (s.setPending x).cfg = s.cfg := rfl
@[simp] theorem State.setPending_gate (s : State) (x : List Instr) : (s.setPending x).gate = s.gate := rfl
@[simp] theorem State.setPending_list (s : State) (x : List Instr) : (s.setPending x).list = s.list := rfl
@[simp] theorem State.setPending_tab (s : State) (x : List Instr) : (s.setPending x).tab = s.tab := rfl
@[simp] theorem State.setPending_adm (s : State) (x : List Instr) : (s.setPending x).adm = s.adm := rfl
@[simp] theorem State.setPending_holds (s : State) (x : List Instr) : (s.setPending x).holds = s.holds := rfl
@[simp] theorem State.setPending_lanes (s : State) (x : List Instr) : (s.setPending x).lanes = s.lanes := rfl
@[simp] theorem State.setPending_zones (s : State) (x : List Instr) : (s.setPending x).zones = s.zones := rfl
@[simp] theorem State.setPending_monitors (s : State) (x : List Instr) : (s.setPending x).monitors = s.monitors := rfl
@[simp] theorem State.setPending_jrn (s : State) (x : List Instr) : (s.setPending x).jrn = s.jrn := rfl
@[simp] theorem State.setPending_pending (s : State) (x : List Instr) : (s.setPending x).pending = x := rfl
@[simp] theorem State.setPending_hold (s : State) (x : List Instr) (i : LaneId) : (s.setPending x).hold i = s.hold i := rfl
@[simp] theorem State.setPending_lane (s : State) (x : List Instr) (i : LaneId) : (s.setPending x).lane i = s.lane i := rfl
@[simp] theorem State.setPending_zone (s : State) (x : List Instr) (i : ZoneId) : (s.setPending x).zone i = s.zone i := rfl
@[simp] theorem State.setPending_monitor (s : State) (x : List Instr) (i : MonitorId) : (s.setPending x).monitor i = s.monitor i := rfl

@[simp] theorem State.setHold_ctl (s : State) (j : LaneId) (x : Option Hold) : (s.setHold j x).ctl = s.ctl := rfl
@[simp] theorem State.setHold_clk (s : State) (j : LaneId) (x : Option Hold) : (s.setHold j x).clk = s.clk := rfl
@[simp] theorem State.setHold_xmem (s : State) (j : LaneId) (x : Option Hold) : (s.setHold j x).xmem = s.xmem := rfl
@[simp] theorem State.setHold_cfg (s : State) (j : LaneId) (x : Option Hold) : (s.setHold j x).cfg = s.cfg := rfl
@[simp] theorem State.setHold_gate (s : State) (j : LaneId) (x : Option Hold) : (s.setHold j x).gate = s.gate := rfl
@[simp] theorem State.setHold_list (s : State) (j : LaneId) (x : Option Hold) : (s.setHold j x).list = s.list := rfl
@[simp] theorem State.setHold_tab (s : State) (j : LaneId) (x : Option Hold) : (s.setHold j x).tab = s.tab := rfl
@[simp] theorem State.setHold_adm (s : State) (j : LaneId) (x : Option Hold) : (s.setHold j x).adm = s.adm := rfl
@[simp] theorem State.setHold_lanes (s : State) (j : LaneId) (x : Option Hold) : (s.setHold j x).lanes = s.lanes := rfl
@[simp] theorem State.setHold_zones (s : State) (j : LaneId) (x : Option Hold) : (s.setHold j x).zones = s.zones := rfl
@[simp] theorem State.setHold_monitors (s : State) (j : LaneId) (x : Option Hold) : (s.setHold j x).monitors = s.monitors := rfl
@[simp] theorem State.setHold_jrn (s : State) (j : LaneId) (x : Option Hold) : (s.setHold j x).jrn = s.jrn := rfl
@[simp] theorem State.setHold_pending (s : State) (j : LaneId) (x : Option Hold) : (s.setHold j x).pending = s.pending := rfl
@[simp] theorem State.setHold_lane (s : State) (j : LaneId) (x : Option Hold) (i : LaneId) : (s.setHold j x).lane i = s.lane i := rfl
@[simp] theorem State.setHold_zone (s : State) (j : LaneId) (x : Option Hold) (i : ZoneId) : (s.setHold j x).zone i = s.zone i := rfl
@[simp] theorem State.setHold_monitor (s : State) (j : LaneId) (x : Option Hold) (i : MonitorId) : (s.setHold j x).monitor i = s.monitor i := rfl
@[simp] theorem State.setHold_hold_same (s : State) (j : LaneId) (x : Option Hold) : (s.setHold j x).hold j = x :=
  (vector_get_set _ _ _ _).trans (if_pos rfl)
theorem State.setHold_hold_other (s : State) (j : LaneId) (x : Option Hold) (i : LaneId) (h : i ≠ j) :
    (s.setHold j x).hold i = s.hold i :=
  (vector_get_set _ _ _ _).trans (if_neg h)
theorem State.setHold_hold (s : State) (j : LaneId) (x : Option Hold) (i : LaneId) :
    (s.setHold j x).hold i = if i = j then x else s.hold i :=
  vector_get_set _ _ _ _
@[simp] theorem State.setHold_setHold (s : State) (j : LaneId) (x y : Option Hold) : (s.setHold j x).setHold j y = s.setHold j y := by
  simp only [State.setHold, Vector.set_set]

@[simp] theorem State.setLane_ctl (s : State) (j : LaneId) (x : Lane) : (s.setLane j x).ctl = s.ctl := rfl
@[simp] theorem State.setLane_clk (s : State) (j : LaneId) (x : Lane) : (s.setLane j x).clk = s.clk := rfl
@[simp] theorem State.setLane_xmem (s : State) (j : LaneId) (x : Lane) : (s.setLane j x).xmem = s.xmem := rfl
@[simp] theorem State.setLane_cfg (s : State) (j : LaneId) (x : Lane) : (s.setLane j x).cfg = s.cfg := rfl
@[simp] theorem State.setLane_gate (s : State) (j : LaneId) (x : Lane) : (s.setLane j x).gate = s.gate := rfl
@[simp] theorem State.setLane_list (s : State) (j : LaneId) (x : Lane) : (s.setLane j x).list = s.list := rfl
@[simp] theorem State.setLane_tab (s : State) (j : LaneId) (x : Lane) : (s.setLane j x).tab = s.tab := rfl
@[simp] theorem State.setLane_adm (s : State) (j : LaneId) (x : Lane) : (s.setLane j x).adm = s.adm := rfl
@[simp] theorem State.setLane_holds (s : State) (j : LaneId) (x : Lane) : (s.setLane j x).holds = s.holds := rfl
@[simp] theorem State.setLane_zones (s : State) (j : LaneId) (x : Lane) : (s.setLane j x).zones = s.zones := rfl
@[simp] theorem State.setLane_monitors (s : State) (j : LaneId) (x : Lane) : (s.setLane j x).monitors = s.monitors := rfl
@[simp] theorem State.setLane_jrn (s : State) (j : LaneId) (x : Lane) : (s.setLane j x).jrn = s.jrn := rfl
@[simp] theorem State.setLane_pending (s : State) (j : LaneId) (x : Lane) : (s.setLane j x).pending = s.pending := rfl
@[simp] theorem State.setLane_hold (s : State) (j : LaneId) (x : Lane) (i : LaneId) : (s.setLane j x).hold i = s.hold i := rfl
@[simp] theorem State.setLane_zone (s : State) (j : LaneId) (x : Lane) (i : ZoneId) : (s.setLane j x).zone i = s.zone i := rfl
@[simp] theorem State.setLane_monitor (s : State) (j : LaneId) (x : Lane) (i : MonitorId) : (s.setLane j x).monitor i = s.monitor i := rfl
@[simp] theorem State.setLane_lane_same (s : State) (j : LaneId) (x : Lane) : (s.setLane j x).lane j = x :=
  (vector_get_set _ _ _ _).trans (if_pos rfl)
theorem State.setLane_lane_other (s : State) (j : LaneId) (x : Lane) (i : LaneId) (h : i ≠ j) :
    (s.setLane j x).lane i = s.lane i :=
  (vector_get_set _ _ _ _).trans (if_neg h)
theorem State.setLane_lane (s : State) (j : LaneId) (x : Lane) (i : LaneId) :
    (s.setLane j x).lane i = if i = j then x else s.lane i :=
  vector_get_set _ _ _ _
@[simp] theorem State.setLane_setLane (s : State) (j : LaneId) (x y : Lane) : (s.setLane j x).setLane j y = s.setLane j y := by
  simp only [State.setLane, Vector.set_set]

@[simp] theorem State.setZone_ctl (s : State) (j : ZoneId) (x : Zone) : (s.setZone j x).ctl = s.ctl := rfl
@[simp] theorem State.setZone_clk (s : State) (j : ZoneId) (x : Zone) : (s.setZone j x).clk = s.clk := rfl
@[simp] theorem State.setZone_xmem (s : State) (j : ZoneId) (x : Zone) : (s.setZone j x).xmem = s.xmem := rfl
@[simp] theorem State.setZone_cfg (s : State) (j : ZoneId) (x : Zone) : (s.setZone j x).cfg = s.cfg := rfl
@[simp] theorem State.setZone_gate (s : State) (j : ZoneId) (x : Zone) : (s.setZone j x).gate = s.gate := rfl
@[simp] theorem State.setZone_list (s : State) (j : ZoneId) (x : Zone) : (s.setZone j x).list = s.list := rfl
@[simp] theorem State.setZone_tab (s : State) (j : ZoneId) (x : Zone) : (s.setZone j x).tab = s.tab := rfl
@[simp] theorem State.setZone_adm (s : State) (j : ZoneId) (x : Zone) : (s.setZone j x).adm = s.adm := rfl
@[simp] theorem State.setZone_holds (s : State) (j : ZoneId) (x : Zone) : (s.setZone j x).holds = s.holds := rfl
@[simp] theorem State.setZone_lanes (s : State) (j : ZoneId) (x : Zone) : (s.setZone j x).lanes = s.lanes := rfl
@[simp] theorem State.setZone_monitors (s : State) (j : ZoneId) (x : Zone) : (s.setZone j x).monitors = s.monitors := rfl
@[simp] theorem State.setZone_jrn (s : State) (j : ZoneId) (x : Zone) : (s.setZone j x).jrn = s.jrn := rfl
@[simp] theorem State.setZone_pending (s : State) (j : ZoneId) (x : Zone) : (s.setZone j x).pending = s.pending := rfl
@[simp] theorem State.setZone_hold (s : State) (j : ZoneId) (x : Zone) (i : LaneId) : (s.setZone j x).hold i = s.hold i := rfl
@[simp] theorem State.setZone_lane (s : State) (j : ZoneId) (x : Zone) (i : LaneId) : (s.setZone j x).lane i = s.lane i := rfl
@[simp] theorem State.setZone_monitor (s : State) (j : ZoneId) (x : Zone) (i : MonitorId) : (s.setZone j x).monitor i = s.monitor i := rfl
@[simp] theorem State.setZone_zone_same (s : State) (j : ZoneId) (x : Zone) : (s.setZone j x).zone j = x :=
  (vector_get_set _ _ _ _).trans (if_pos rfl)
theorem State.setZone_zone_other (s : State) (j : ZoneId) (x : Zone) (i : ZoneId) (h : i ≠ j) :
    (s.setZone j x).zone i = s.zone i :=
  (vector_get_set _ _ _ _).trans (if_neg h)
theorem State.setZone_zone (s : State) (j : ZoneId) (x : Zone) (i : ZoneId) :
    (s.setZone j x).zone i = if i = j then x else s.zone i :=
  vector_get_set _ _ _ _

@[simp] theorem State.setMonitor_ctl (s : State) (j : MonitorId) (x : Monitor) : (s.setMonitor j x).ctl = s.ctl := rfl
@[simp] theorem State.setMonitor_clk (s : State) (j : MonitorId) (x : Monitor) : (s.setMonitor j x).clk = s.clk := rfl
@[simp] theorem State.setMonitor_xmem (s : State) (j : MonitorId) (x : Monitor) : (s.setMonitor j x).xmem = s.xmem := rfl
@[simp] theorem State.setMonitor_cfg (s : State) (j : MonitorId) (x : Monitor) : (s.setMonitor j x).cfg = s.cfg := rfl
@[simp] theorem State.setMonitor_gate (s : State) (j : MonitorId) (x : Monitor) : (s.setMonitor j x).gate = s.gate := rfl
@[simp] theorem State.setMonitor_list (s : State) (j : MonitorId) (x : Monitor) : (s.setMonitor j x).list = s.list := rfl
@[simp] theorem State.setMonitor_tab (s : State) (j : MonitorId) (x : Monitor) : (s.setMonitor j x).tab = s.tab := rfl
@[simp] theorem State.setMonitor_adm (s : State) (j : MonitorId) (x : Monitor) : (s.setMonitor j x).adm = s.adm := rfl
@[simp] theorem State.setMonitor_holds (s : State) (j : MonitorId) (x : Monitor) : (s.setMonitor j x).holds = s.holds := rfl
@[simp] theorem State.setMonitor_lanes (s : State) (j : MonitorId) (x : Monitor) : (s.setMonitor j x).lanes = s.lanes := rfl
@[simp] theorem State.setMonitor_zones (s : State) (j : MonitorId) (x : Monitor) : (s.setMonitor j x).zones = s.zones := rfl
@[simp] theorem State.setMonitor_jrn (s : State) (j : MonitorId) (x : Monitor) : (s.setMonitor j x).jrn = s.jrn := rfl
@[simp] theorem State.setMonitor_pending (s : State) (j : MonitorId) (x : Monitor) : (s.setMonitor j x).pending = s.pending := rfl
@[simp] theorem State.setMonitor_hold (s : State) (j : MonitorId) (x : Monitor) (i : LaneId) : (s.setMonitor j x).hold i = s.hold i := rfl
@[simp] theorem State.setMonitor_lane (s : State) (j : MonitorId) (x : Monitor) (i : LaneId) : (s.setMonitor j x).lane i = s.lane i := rfl
@[simp] theorem State.setMonitor_zone (s : State) (j : MonitorId) (x : Monitor) (i : ZoneId) : (s.setMonitor j x).zone i = s.zone i := rfl
@[simp] theorem State.setMonitor_monitor_same (s : State) (j : MonitorId) (x : Monitor) : (s.setMonitor j x).monitor j = x :=
  (vector_get_set _ _ _ _).trans (if_pos rfl)
theorem State.setMonitor_monitor_other (s : State) (j : MonitorId) (x : Monitor) (i : MonitorId) (h : i ≠ j) :
    (s.setMonitor j x).monitor i = s.monitor i :=
  (vector_get_set _ _ _ _).trans (if_neg h)
theorem State.setMonitor_monitor (s : State) (j : MonitorId) (x : Monitor) (i : MonitorId) :
    (s.setMonitor j x).monitor i = if i = j then x else s.monitor i :=
  vector_get_set _ _ _ _

end Sys2Proof.Machine
end

