-- ==== Sys2Proof/Laws/Memory.lean ====
section
/-! SUPPORT. The laws of sparse tables and of the exchange memory: a read after a write, that every memory operation keeps the
canonical form, and that equal reads are equal memories. -/

namespace Sys2Proof.Machine

/-! ## Sparse tables -/

section Sparse

variable {α : Type} [DecidableEq α] {d : α}

/-- A put leaves every other index alone. -/
theorem sparseGet_put_other (m : List (Nat × α)) (k j : Nat) (v : α) (h : j ≠ k) :
    sparseGet d (sparsePut d m k v) j = sparseGet d m j := by
  induction m with
  | nil => simp only [sparsePut]; split <;> simp [sparseGet, Ne.symm h]
  | cons p m ih =>
    obtain ⟨a, w⟩ := p
    simp only [sparsePut]
    split
    · split <;> simp [sparseGet, Ne.symm h]
    · split
      · next hk => subst hk; split <;> simp [sparseGet, Ne.symm h]
      · simp only [sparseGet, ih]

omit [DecidableEq α] in
/-- Below every listed index a sparse table reads as the default. -/
theorem sparseGet_below (m : List (Nat × α)) (k : Nat) (h : ∀ p ∈ m, k < p.1) : sparseGet d m k = d := by
  induction m with
  | nil => rfl
  | cons p m ih =>
    have hp := h p List.mem_cons_self
    simp only [sparseGet, if_neg (Nat.ne_of_gt hp)]
    exact ih (fun q hq => h q (List.mem_cons_of_mem _ hq))

/-- A put reads back. -/
theorem sparseGet_put_same (m : List (Nat × α)) (k : Nat) (v : α) (hm : sparseWf d m) :
    sparseGet d (sparsePut d m k v) k = v := by
  obtain ⟨hs, hd⟩ := hm
  induction m with
  | nil => simp only [sparsePut]; split <;> simp_all [sparseGet]
  | cons p m ih =>
    obtain ⟨a, w⟩ := p
    rw [List.pairwise_cons] at hs
    have below : k ≤ a → sparseGet d m k = d := fun hk =>
      sparseGet_below m k (fun q hq => Nat.lt_of_le_of_lt hk (hs.1 q hq))
    simp only [sparsePut]
    split
    · next hk =>
      split
      · next hv => simp [sparseGet, Nat.ne_of_gt hk, below (Nat.le_of_lt hk), hv]
      · simp [sparseGet]
    · split
      · next hk => split <;> simp_all [sparseGet]
      · next hk =>
        have hk2 : ¬a = k := fun e => hk e.symm
        simp only [sparseGet, if_neg hk2]
        exact ih hs.2 (fun q hq => hd q (List.mem_cons_of_mem _ hq))

/-- A put at one index, read at any index. -/
theorem sparseGet_put (m : List (Nat × α)) (k j : Nat) (v : α) (hm : sparseWf d m) :
    sparseGet d (sparsePut d m k v) j = if j = k then v else sparseGet d m j := by
  split
  · next h => subst h; exact sparseGet_put_same m j v hm
  · next h => exact sparseGet_put_other m k j v h

/-- What a put lists was put or listed before. -/
theorem sparsePut_mem (m : List (Nat × α)) (k : Nat) (v : α) (p : Nat × α) (h : p ∈ sparsePut d m k v) :
    p = (k, v) ∧ v ≠ d ∨ p ∈ m := by
  induction m with
  | nil => simp only [sparsePut] at h; split at h <;> simp_all
  | cons q m ih =>
    obtain ⟨a, w⟩ := q
    simp only [sparsePut] at h
    split at h
    · split at h
      · exact .inr h
      · rcases List.mem_cons.mp h with h | h
        · exact .inl ⟨h, ‹_›⟩
        · exact .inr h
    · split at h
      · split at h
        · exact .inr (List.mem_cons_of_mem _ h)
        · rcases List.mem_cons.mp h with h | h
          · exact .inl ⟨h, ‹_›⟩
          · exact .inr (List.mem_cons_of_mem _ h)
      · rcases List.mem_cons.mp h with h | h
        · exact .inr (h ▸ List.mem_cons_self)
        · rcases ih h with h | h
          · exact .inl h
          · exact .inr (List.mem_cons_of_mem _ h)

/-- A put keeps the canonical form. -/
theorem sparsePut_wf (m : List (Nat × α)) (k : Nat) (v : α) (hm : sparseWf d m) : sparseWf d (sparsePut d m k v) := by
  obtain ⟨hs, hd⟩ := hm
  refine ⟨?_, fun p hp => ?_⟩
  · induction m with
    | nil => simp only [sparsePut]; split <;> simp
    | cons q m ih =>
      obtain ⟨a, w⟩ := q
      rw [List.pairwise_cons] at hs
      simp only [sparsePut]
      split
      · next hk =>
        split
        · exact List.pairwise_cons.mpr hs
        · refine List.pairwise_cons.mpr ⟨fun p hp => ?_, List.pairwise_cons.mpr hs⟩
          rcases List.mem_cons.mp hp with hp | hp
          · subst hp; exact hk
          · exact Nat.lt_trans hk (hs.1 p hp)
      · split
        · next hk =>
          subst hk
          split
          · exact hs.2
          · exact List.pairwise_cons.mpr hs
        · refine List.pairwise_cons.mpr
            ⟨fun p hp => ?_, ih hs.2 (fun q hq => hd q (List.mem_cons_of_mem _ hq))⟩
          rcases sparsePut_mem m k v p hp with ⟨hp, -⟩ | hp
          · subst hp; show a < k; omega
          · exact hs.1 p hp
  · rcases sparsePut_mem m k v p hp with ⟨hp, hv⟩ | hp
    · subst hp; exact hv
    · exact hd p hp

/-- A listed index of a canonical table reads as its value. -/
theorem sparseGet_of_mem (m : List (Nat × α)) (k : Nat) (v : α) (hm : sparseWf d m) (h : (k, v) ∈ m) :
    sparseGet d m k = v := by
  obtain ⟨hs, hd⟩ := hm
  induction m with
  | nil => cases h
  | cons p m ih =>
    obtain ⟨a, w⟩ := p
    rw [List.pairwise_cons] at hs
    rcases List.mem_cons.mp h with h | h
    · cases h; simp [sparseGet]
    · have := hs.1 _ h
      simp only [sparseGet, if_neg (Nat.ne_of_lt this)]
      exact ih h hs.2 (fun q hq => hd q (List.mem_cons_of_mem _ hq))

omit [DecidableEq α] in
/-- What reads otherwise than the default is listed. -/
theorem mem_of_sparseGet (m : List (Nat × α)) (k : Nat) (h : sparseGet d m k ≠ d) : (k, sparseGet d m k) ∈ m := by
  induction m with
  | nil => exact absurd rfl h
  | cons p m ih =>
    obtain ⟨a, w⟩ := p
    simp only [sparseGet] at h ⊢
    split
    · next hk => subst hk; exact List.mem_cons_self
    · next hk => rw [if_neg hk] at h; exact List.mem_cons_of_mem _ (ih h)

/-- Filtering keeps the canonical form. -/
theorem sparseWf_filter (m : List (Nat × α)) (p : Nat × α → Bool) (hm : sparseWf d m) : sparseWf d (m.filter p) :=
  ⟨hm.1.filter p, fun q hq => hm.2 q (List.mem_filter.mp hq).1⟩

/-- Two canonical tables that read the same are the same data. -/
theorem sparse_ext (m n : List (Nat × α)) (hm : sparseWf d m) (hn : sparseWf d n)
    (h : ∀ k, sparseGet d m k = sparseGet d n k) : m = n := by
  have sub : ∀ m n : List (Nat × α), sparseWf d m → (∀ k, sparseGet d m k = sparseGet d n k) → m ⊆ n := by
    intro m n hm h p hp
    have h1 := sparseGet_of_mem m p.1 p.2 hm hp
    have h2 : sparseGet d n p.1 = p.2 := (h p.1).symm.trans h1
    have h3 := mem_of_sparseGet n p.1 (by rw [h2]; exact hm.2 p hp)
    rw [h2] at h3
    exact h3
  have anti : ∀ p q : Nat × α, p ∈ m → q ∈ n → p.1 < q.1 → q.1 < p.1 → p = q := fun p q _ _ a b => by omega
  have hp : m.Perm n := by
    refine (List.perm_ext_iff_of_nodup ?_ ?_).mpr (fun p => ⟨fun x => sub m n hm h x, fun x => sub n m hn (fun k => (h k).symm) x⟩)
    · exact hm.1.imp (fun a e => by rw [e] at a; omega)
    · exact hn.1.imp (fun a e => by rw [e] at a; omega)
  exact hp.eq_of_pairwise anti hm.1 hn.1

end Sparse

/-! ## The exchange memory -/

/-- The empty memory, which reset leaves, is canonical. -/
theorem Memory.reset_wf : Memory.wf State.reset.xmem := ⟨List.Pairwise.nil, fun _ h => by cases h⟩

/-- A byte written reads back, and every other byte reads as before. -/
theorem Memory.read_write (m : List Host.Cell) (a b : Nat) (v : Byte) (hm : Memory.wf m) :
    Memory.read (Memory.write m a v) b = if b = a then v else Memory.read m b :=
  sparseGet_put m a b v hm

/-- A byte that is not written reads as before, whatever the memory. -/
theorem Memory.read_write_other (m : List Host.Cell) (a b : Nat) (v : Byte) (h : b ≠ a) :
    Memory.read (Memory.write m a v) b = Memory.read m b :=
  sparseGet_put_other m a b v h

/-- A write keeps the canonical form. -/
theorem Memory.write_wf (m : List Host.Cell) (a : Nat) (v : Byte) (hm : Memory.wf m) : Memory.wf (Memory.write m a v) :=
  sparsePut_wf m a v hm

/-- Writing bytes keeps the canonical form. -/
theorem Memory.writeBytes_wf (bs : List Byte) (m : List Host.Cell) (a : Nat) (hm : Memory.wf m) :
    Memory.wf (Memory.writeBytes m a bs) := by
  induction bs generalizing m a with
  | nil => exact hm
  | cons b bs ih => exact ih _ _ (Memory.write_wf m a b hm)

/-- Bytes outside a written run read as before. -/
theorem Memory.read_writeBytes_outside (bs : List Byte) (m : List Host.Cell) (a b : Nat) (h : b < a ∨ a + bs.length ≤ b) :
    Memory.read (Memory.writeBytes m a bs) b = Memory.read m b := by
  induction bs generalizing m a with
  | nil => rfl
  | cons x bs ih =>
    simp only [List.length_cons] at h
    exact (ih (Memory.write m a x) (a + 1) (by omega)).trans (Memory.read_write_other m a b x (by omega))

/-- Bytes of a written run read as written. -/
theorem Memory.read_writeBytes_inside (bs : List Byte) (m : List Host.Cell) (a i : Nat) (hm : Memory.wf m) (h : i < bs.length) :
    Memory.read (Memory.writeBytes m a bs) (a + i) = bs[i] := by
  induction bs generalizing m a i with
  | nil => simp at h
  | cons x bs ih =>
    match i with
    | 0 =>
      refine (Memory.read_writeBytes_outside bs (Memory.write m a x) (a + 1) a (by omega)).trans ?_
      rw [Memory.read_write m a a x hm, if_pos rfl]
      rfl
    | i + 1 =>
      have := ih (Memory.write m a x) (a + 1) i (Memory.write_wf m a x hm) (by simpa using h)
      rw [show a + (i + 1) = a + 1 + i by omega]
      exact this

/-- What a unit keeps of a block it reads is canonical. -/
theorem Memory.clip_wf (m : List Host.Cell) (a n : Nat) (hm : Memory.wf m) : Memory.wf (Memory.clip m a n) :=
  sparseWf_filter m _ hm

/-- Two canonical memories with the same bytes are the same data. -/
theorem Memory.ext (m n : List Host.Cell) (hm : Memory.wf m) (hn : Memory.wf n) (h : ∀ a, Memory.read m a = Memory.read n a) :
    m = n :=
  sparse_ext m n hm hn h

/-- Writing bytes through the state. -/
@[simp] theorem State.writeBytes_xmem (s : State) (a : Nat) (bs : List Byte) :
    (s.writeBytes a bs).xmem = Memory.writeBytes s.xmem a bs := rfl

/-- A read through the state. -/
theorem State.read_def (s : State) (a : Nat) : s.read a = Memory.read s.xmem a := rfl

end Sys2Proof.Machine
end

