-- ==== Sys2Proof/Laws/Frames.lean ====
section
/-! SUPPORT. Frames: what the shared operations can change at most. A record touches only the exchange memory, the journal unit and
NOTICE; a mode, watch or occupancy change touches besides them only lanes, zones and monitors; a return touches only the exchange
memory, NOTICE and its ring unit. -/

namespace Sys2Proof.Machine

/-- Two states that differ only in the exchange memory, the journal unit and NOTICE. -/
structure JournalFrame (s t : State) : Prop where
  ctl : t.ctl = { s.ctl with notice := t.ctl.notice }
  clk : t.clk = s.clk
  cfg : t.cfg = s.cfg
  gate : t.gate = s.gate
  list : t.list = s.list
  tab : t.tab = s.tab
  adm : t.adm = s.adm
  holds : t.holds = s.holds
  lanes : t.lanes = s.lanes
  zones : t.zones = s.zones
  monitors : t.monitors = s.monitors
  pending : t.pending = s.pending

/-- Two states that differ only in the exchange memory, the journal unit, NOTICE, the lanes, the zones and the monitors. -/
structure UnitFrame (s t : State) : Prop where
  ctl : t.ctl = { s.ctl with notice := t.ctl.notice }
  clk : t.clk = s.clk
  cfg : t.cfg = s.cfg
  gate : t.gate = s.gate
  list : t.list = s.list
  tab : t.tab = s.tab
  adm : t.adm = s.adm
  holds : t.holds = s.holds
  pending : t.pending = s.pending

theorem JournalFrame.refl (s : State) : JournalFrame s s := by constructor <;> rfl

theorem UnitFrame.refl (s : State) : UnitFrame s s := by constructor <;> rfl

theorem JournalFrame.trans {s t u : State} (a : JournalFrame s t) (b : JournalFrame t u) : JournalFrame s u where
  ctl := by rw [b.ctl, a.ctl]
  clk := b.clk.trans a.clk
  cfg := b.cfg.trans a.cfg
  gate := b.gate.trans a.gate
  list := b.list.trans a.list
  tab := b.tab.trans a.tab
  adm := b.adm.trans a.adm
  holds := b.holds.trans a.holds
  lanes := b.lanes.trans a.lanes
  zones := b.zones.trans a.zones
  monitors := b.monitors.trans a.monitors
  pending := b.pending.trans a.pending

theorem UnitFrame.trans {s t u : State} (a : UnitFrame s t) (b : UnitFrame t u) : UnitFrame s u where
  ctl := by rw [b.ctl, a.ctl]
  clk := b.clk.trans a.clk
  cfg := b.cfg.trans a.cfg
  gate := b.gate.trans a.gate
  list := b.list.trans a.list
  tab := b.tab.trans a.tab
  adm := b.adm.trans a.adm
  holds := b.holds.trans a.holds
  pending := b.pending.trans a.pending

theorem JournalFrame.unit {s t : State} (a : JournalFrame s t) : UnitFrame s t where
  ctl := a.ctl
  clk := a.clk
  cfg := a.cfg
  gate := a.gate
  list := a.list
  tab := a.tab
  adm := a.adm
  holds := a.holds
  pending := a.pending

theorem UnitFrame.foldl {α : Type} (f : State → α → State) (hf : ∀ s x, UnitFrame s (f s x)) (l : List α) (s : State) :
    UnitFrame s (l.foldl f s) := by
  induction l generalizing s with
  | nil => exact UnitFrame.refl s
  | cons x l ih => exact (hf s x).trans (ih (f s x))

/-! ## The journal -/

theorem notify_frame (f : NoticeFlag) (s : State) : JournalFrame s (notify f s) := by constructor <;> rfl

theorem writeBytes_frame (s : State) (a : Nat) (bs : List Byte) : JournalFrame s (s.writeBytes a bs) := by constructor <;> rfl

theorem setJrn_frame (s : State) (j : Journal) : JournalFrame s (s.setJrn j) := by constructor <;> rfl

theorem setLane_frame (s : State) (i : LaneId) (l : Lane) : UnitFrame s (s.setLane i l) := by constructor <;> rfl

theorem setZone_frame (s : State) (z : ZoneId) (x : Zone) : UnitFrame s (s.setZone z x) := by constructor <;> rfl

theorem setMonitor_frame (s : State) (m : MonitorId) (x : Monitor) : UnitFrame s (s.setMonitor m x) := by constructor <;> rfl

theorem journalWrite_frame (ring : Ring) (r : Record) (rest : List Record) (s : State) :
    JournalFrame s (journalWrite ring r rest s) := by constructor <;> rfl

theorem journalDrain_frame (n : Nat) (s : State) : JournalFrame s (journalDrain n s) := by
  induction n generalizing s with
  | zero => exact JournalFrame.refl s
  | succ n ih =>
    unfold journalDrain
    split
    · split
      · exact (journalWrite_frame _ _ _ _).trans (ih _)
      · exact (setJrn_frame _ _).trans (notify_frame _ _)
    · exact JournalFrame.refl s

theorem journalExamine_frame (s : State) : JournalFrame s (journalExamine s) := by
  unfold journalExamine
  split
  · exact journalDrain_frame _ _
  · exact JournalFrame.refl s

/-- A record created changes only the exchange memory, the journal unit and NOTICE. -/
theorem emit_frame (r : Record) (s : State) : JournalFrame s (emit r s) := by
  unfold emit
  split
  · simp only
    split
    · exact (setJrn_frame _ _).trans (journalExamine_frame _)
    · exact setJrn_frame _ _
  · exact setJrn_frame _ _

theorem emitLane_frame (kind : RecordKind) (i : LaneId) (flags : RecordFlags) (detail : Word) (s : State) :
    JournalFrame s (emitLane kind i flags detail s) := emit_frame _ _

@[simp] theorem notify_clk (f : NoticeFlag) (s : State) : (notify f s).clk = s.clk := (notify_frame f s).clk
@[simp] theorem notify_cfg (f : NoticeFlag) (s : State) : (notify f s).cfg = s.cfg := (notify_frame f s).cfg
@[simp] theorem notify_gate (f : NoticeFlag) (s : State) : (notify f s).gate = s.gate := (notify_frame f s).gate
@[simp] theorem notify_list (f : NoticeFlag) (s : State) : (notify f s).list = s.list := (notify_frame f s).list
@[simp] theorem notify_tab (f : NoticeFlag) (s : State) : (notify f s).tab = s.tab := (notify_frame f s).tab
@[simp] theorem notify_adm (f : NoticeFlag) (s : State) : (notify f s).adm = s.adm := (notify_frame f s).adm
@[simp] theorem notify_holds (f : NoticeFlag) (s : State) : (notify f s).holds = s.holds := (notify_frame f s).holds
@[simp] theorem notify_lanes (f : NoticeFlag) (s : State) : (notify f s).lanes = s.lanes := (notify_frame f s).lanes
@[simp] theorem notify_zones (f : NoticeFlag) (s : State) : (notify f s).zones = s.zones := (notify_frame f s).zones
@[simp] theorem notify_monitors (f : NoticeFlag) (s : State) : (notify f s).monitors = s.monitors := (notify_frame f s).monitors
@[simp] theorem notify_pending (f : NoticeFlag) (s : State) : (notify f s).pending = s.pending := (notify_frame f s).pending
@[simp] theorem notify_part (f : NoticeFlag) (s : State) : (notify f s).ctl.part = s.ctl.part := by rw [(notify_frame f s).ctl]
@[simp] theorem notify_resetActive (f : NoticeFlag) (s : State) : (notify f s).ctl.resetActive = s.ctl.resetActive := by rw [(notify_frame f s).ctl]
@[simp] theorem notify_setupComplete (f : NoticeFlag) (s : State) : (notify f s).ctl.setupComplete = s.ctl.setupComplete := by rw [(notify_frame f s).ctl]
@[simp] theorem notify_failure (f : NoticeFlag) (s : State) : (notify f s).ctl.failure = s.ctl.failure := by rw [(notify_frame f s).ctl]
@[simp] theorem notify_setupRun (f : NoticeFlag) (s : State) : (notify f s).ctl.setupRun = s.ctl.setupRun := by rw [(notify_frame f s).ctl]
@[simp] theorem notify_enables (f : NoticeFlag) (s : State) : (notify f s).ctl.enables = s.ctl.enables := by rw [(notify_frame f s).ctl]
@[simp] theorem notify_master (f : NoticeFlag) (s : State) : (notify f s).ctl.master = s.ctl.master := by rw [(notify_frame f s).ctl]
@[simp] theorem notify_setupAt (f : NoticeFlag) (s : State) : (notify f s).ctl.setupAt = s.ctl.setupAt := by rw [(notify_frame f s).ctl]
@[simp] theorem notify_hold (f : NoticeFlag) (s : State) (j : LaneId) : (notify f s).hold j = s.hold j := congrArg (fun v => v.get j) (notify_frame f s).holds
@[simp] theorem notify_lane (f : NoticeFlag) (s : State) (j : LaneId) : (notify f s).lane j = s.lane j := congrArg (fun v => v.get j) (notify_frame f s).lanes
@[simp] theorem notify_zone (f : NoticeFlag) (s : State) (j : ZoneId) : (notify f s).zone j = s.zone j := congrArg (fun v => v.get j) (notify_frame f s).zones
@[simp] theorem notify_monitor (f : NoticeFlag) (s : State) (j : MonitorId) : (notify f s).monitor j = s.monitor j := congrArg (fun v => v.get j) (notify_frame f s).monitors

@[simp] theorem journalExamine_clk (s : State) : (journalExamine s).clk = s.clk := (journalExamine_frame s).clk
@[simp] theorem journalExamine_cfg (s : State) : (journalExamine s).cfg = s.cfg := (journalExamine_frame s).cfg
@[simp] theorem journalExamine_gate (s : State) : (journalExamine s).gate = s.gate := (journalExamine_frame s).gate
@[simp] theorem journalExamine_list (s : State) : (journalExamine s).list = s.list := (journalExamine_frame s).list
@[simp] theorem journalExamine_tab (s : State) : (journalExamine s).tab = s.tab := (journalExamine_frame s).tab
@[simp] theorem journalExamine_adm (s : State) : (journalExamine s).adm = s.adm := (journalExamine_frame s).adm
@[simp] theorem journalExamine_holds (s : State) : (journalExamine s).holds = s.holds := (journalExamine_frame s).holds
@[simp] theorem journalExamine_lanes (s : State) : (journalExamine s).lanes = s.lanes := (journalExamine_frame s).lanes
@[simp] theorem journalExamine_zones (s : State) : (journalExamine s).zones = s.zones := (journalExamine_frame s).zones
@[simp] theorem journalExamine_monitors (s : State) : (journalExamine s).monitors = s.monitors := (journalExamine_frame s).monitors
@[simp] theorem journalExamine_pending (s : State) : (journalExamine s).pending = s.pending := (journalExamine_frame s).pending
@[simp] theorem journalExamine_part (s : State) : (journalExamine s).ctl.part = s.ctl.part := by rw [(journalExamine_frame s).ctl]
@[simp] theorem journalExamine_resetActive (s : State) : (journalExamine s).ctl.resetActive = s.ctl.resetActive := by rw [(journalExamine_frame s).ctl]
@[simp] theorem journalExamine_setupComplete (s : State) : (journalExamine s).ctl.setupComplete = s.ctl.setupComplete := by rw [(journalExamine_frame s).ctl]
@[simp] theorem journalExamine_failure (s : State) : (journalExamine s).ctl.failure = s.ctl.failure := by rw [(journalExamine_frame s).ctl]
@[simp] theorem journalExamine_setupRun (s : State) : (journalExamine s).ctl.setupRun = s.ctl.setupRun := by rw [(journalExamine_frame s).ctl]
@[simp] theorem journalExamine_enables (s : State) : (journalExamine s).ctl.enables = s.ctl.enables := by rw [(journalExamine_frame s).ctl]
@[simp] theorem journalExamine_master (s : State) : (journalExamine s).ctl.master = s.ctl.master := by rw [(journalExamine_frame s).ctl]
@[simp] theorem journalExamine_setupAt (s : State) : (journalExamine s).ctl.setupAt = s.ctl.setupAt := by rw [(journalExamine_frame s).ctl]
@[simp] theorem journalExamine_hold (s : State) (j : LaneId) : (journalExamine s).hold j = s.hold j := congrArg (fun v => v.get j) (journalExamine_frame s).holds
@[simp] theorem journalExamine_lane (s : State) (j : LaneId) : (journalExamine s).lane j = s.lane j := congrArg (fun v => v.get j) (journalExamine_frame s).lanes
@[simp] theorem journalExamine_zone (s : State) (j : ZoneId) : (journalExamine s).zone j = s.zone j := congrArg (fun v => v.get j) (journalExamine_frame s).zones
@[simp] theorem journalExamine_monitor (s : State) (j : MonitorId) : (journalExamine s).monitor j = s.monitor j := congrArg (fun v => v.get j) (journalExamine_frame s).monitors

@[simp] theorem emit_clk (r : Record) (s : State) : (emit r s).clk = s.clk := (emit_frame r s).clk
@[simp] theorem emit_cfg (r : Record) (s : State) : (emit r s).cfg = s.cfg := (emit_frame r s).cfg
@[simp] theorem emit_gate (r : Record) (s : State) : (emit r s).gate = s.gate := (emit_frame r s).gate
@[simp] theorem emit_list (r : Record) (s : State) : (emit r s).list = s.list := (emit_frame r s).list
@[simp] theorem emit_tab (r : Record) (s : State) : (emit r s).tab = s.tab := (emit_frame r s).tab
@[simp] theorem emit_adm (r : Record) (s : State) : (emit r s).adm = s.adm := (emit_frame r s).adm
@[simp] theorem emit_holds (r : Record) (s : State) : (emit r s).holds = s.holds := (emit_frame r s).holds
@[simp] theorem emit_lanes (r : Record) (s : State) : (emit r s).lanes = s.lanes := (emit_frame r s).lanes
@[simp] theorem emit_zones (r : Record) (s : State) : (emit r s).zones = s.zones := (emit_frame r s).zones
@[simp] theorem emit_monitors (r : Record) (s : State) : (emit r s).monitors = s.monitors := (emit_frame r s).monitors
@[simp] theorem emit_pending (r : Record) (s : State) : (emit r s).pending = s.pending := (emit_frame r s).pending
@[simp] theorem emit_part (r : Record) (s : State) : (emit r s).ctl.part = s.ctl.part := by rw [(emit_frame r s).ctl]
@[simp] theorem emit_resetActive (r : Record) (s : State) : (emit r s).ctl.resetActive = s.ctl.resetActive := by rw [(emit_frame r s).ctl]
@[simp] theorem emit_setupComplete (r : Record) (s : State) : (emit r s).ctl.setupComplete = s.ctl.setupComplete := by rw [(emit_frame r s).ctl]
@[simp] theorem emit_failure (r : Record) (s : State) : (emit r s).ctl.failure = s.ctl.failure := by rw [(emit_frame r s).ctl]
@[simp] theorem emit_setupRun (r : Record) (s : State) : (emit r s).ctl.setupRun = s.ctl.setupRun := by rw [(emit_frame r s).ctl]
@[simp] theorem emit_enables (r : Record) (s : State) : (emit r s).ctl.enables = s.ctl.enables := by rw [(emit_frame r s).ctl]
@[simp] theorem emit_master (r : Record) (s : State) : (emit r s).ctl.master = s.ctl.master := by rw [(emit_frame r s).ctl]
@[simp] theorem emit_setupAt (r : Record) (s : State) : (emit r s).ctl.setupAt = s.ctl.setupAt := by rw [(emit_frame r s).ctl]
@[simp] theorem emit_hold (r : Record) (s : State) (j : LaneId) : (emit r s).hold j = s.hold j := congrArg (fun v => v.get j) (emit_frame r s).holds
@[simp] theorem emit_lane (r : Record) (s : State) (j : LaneId) : (emit r s).lane j = s.lane j := congrArg (fun v => v.get j) (emit_frame r s).lanes
@[simp] theorem emit_zone (r : Record) (s : State) (j : ZoneId) : (emit r s).zone j = s.zone j := congrArg (fun v => v.get j) (emit_frame r s).zones
@[simp] theorem emit_monitor (r : Record) (s : State) (j : MonitorId) : (emit r s).monitor j = s.monitor j := congrArg (fun v => v.get j) (emit_frame r s).monitors

@[simp] theorem emitLane_clk (k : RecordKind) (i : LaneId) (f : RecordFlags) (d : Word) (s : State) : (emitLane k i f d s).clk = s.clk := (emitLane_frame k i f d s).clk
@[simp] theorem emitLane_cfg (k : RecordKind) (i : LaneId) (f : RecordFlags) (d : Word) (s : State) : (emitLane k i f d s).cfg = s.cfg := (emitLane_frame k i f d s).cfg
@[simp] theorem emitLane_gate (k : RecordKind) (i : LaneId) (f : RecordFlags) (d : Word) (s : State) : (emitLane k i f d s).gate = s.gate := (emitLane_frame k i f d s).gate
@[simp] theorem emitLane_list (k : RecordKind) (i : LaneId) (f : RecordFlags) (d : Word) (s : State) : (emitLane k i f d s).list = s.list := (emitLane_frame k i f d s).list
@[simp] theorem emitLane_tab (k : RecordKind) (i : LaneId) (f : RecordFlags) (d : Word) (s : State) : (emitLane k i f d s).tab = s.tab := (emitLane_frame k i f d s).tab
@[simp] theorem emitLane_adm (k : RecordKind) (i : LaneId) (f : RecordFlags) (d : Word) (s : State) : (emitLane k i f d s).adm = s.adm := (emitLane_frame k i f d s).adm
@[simp] theorem emitLane_holds (k : RecordKind) (i : LaneId) (f : RecordFlags) (d : Word) (s : State) : (emitLane k i f d s).holds = s.holds := (emitLane_frame k i f d s).holds
@[simp] theorem emitLane_lanes (k : RecordKind) (i : LaneId) (f : RecordFlags) (d : Word) (s : State) : (emitLane k i f d s).lanes = s.lanes := (emitLane_frame k i f d s).lanes
@[simp] theorem emitLane_zones (k : RecordKind) (i : LaneId) (f : RecordFlags) (d : Word) (s : State) : (emitLane k i f d s).zones = s.zones := (emitLane_frame k i f d s).zones
@[simp] theorem emitLane_monitors (k : RecordKind) (i : LaneId) (f : RecordFlags) (d : Word) (s : State) : (emitLane k i f d s).monitors = s.monitors := (emitLane_frame k i f d s).monitors
@[simp] theorem emitLane_pending (k : RecordKind) (i : LaneId) (f : RecordFlags) (d : Word) (s : State) : (emitLane k i f d s).pending = s.pending := (emitLane_frame k i f d s).pending
@[simp] theorem emitLane_part (k : RecordKind) (i : LaneId) (f : RecordFlags) (d : Word) (s : State) : (emitLane k i f d s).ctl.part = s.ctl.part := by rw [(emitLane_frame k i f d s).ctl]
@[simp] theorem emitLane_resetActive (k : RecordKind) (i : LaneId) (f : RecordFlags) (d : Word) (s : State) : (emitLane k i f d s).ctl.resetActive = s.ctl.resetActive := by rw [(emitLane_frame k i f d s).ctl]
@[simp] theorem emitLane_setupComplete (k : RecordKind) (i : LaneId) (f : RecordFlags) (d : Word) (s : State) : (emitLane k i f d s).ctl.setupComplete = s.ctl.setupComplete := by rw [(emitLane_frame k i f d s).ctl]
@[simp] theorem emitLane_failure (k : RecordKind) (i : LaneId) (f : RecordFlags) (d : Word) (s : State) : (emitLane k i f d s).ctl.failure = s.ctl.failure := by rw [(emitLane_frame k i f d s).ctl]
@[simp] theorem emitLane_setupRun (k : RecordKind) (i : LaneId) (f : RecordFlags) (d : Word) (s : State) : (emitLane k i f d s).ctl.setupRun = s.ctl.setupRun := by rw [(emitLane_frame k i f d s).ctl]
@[simp] theorem emitLane_enables (k : RecordKind) (i : LaneId) (f : RecordFlags) (d : Word) (s : State) : (emitLane k i f d s).ctl.enables = s.ctl.enables := by rw [(emitLane_frame k i f d s).ctl]
@[simp] theorem emitLane_master (k : RecordKind) (i : LaneId) (f : RecordFlags) (d : Word) (s : State) : (emitLane k i f d s).ctl.master = s.ctl.master := by rw [(emitLane_frame k i f d s).ctl]
@[simp] theorem emitLane_setupAt (k : RecordKind) (i : LaneId) (f : RecordFlags) (d : Word) (s : State) : (emitLane k i f d s).ctl.setupAt = s.ctl.setupAt := by rw [(emitLane_frame k i f d s).ctl]
@[simp] theorem emitLane_hold (k : RecordKind) (i : LaneId) (f : RecordFlags) (d : Word) (s : State) (j : LaneId) : (emitLane k i f d s).hold j = s.hold j := congrArg (fun v => v.get j) (emitLane_frame k i f d s).holds
@[simp] theorem emitLane_lane (k : RecordKind) (i : LaneId) (f : RecordFlags) (d : Word) (s : State) (j : LaneId) : (emitLane k i f d s).lane j = s.lane j := congrArg (fun v => v.get j) (emitLane_frame k i f d s).lanes
@[simp] theorem emitLane_zone (k : RecordKind) (i : LaneId) (f : RecordFlags) (d : Word) (s : State) (j : ZoneId) : (emitLane k i f d s).zone j = s.zone j := congrArg (fun v => v.get j) (emitLane_frame k i f d s).zones
@[simp] theorem emitLane_monitor (k : RecordKind) (i : LaneId) (f : RecordFlags) (d : Word) (s : State) (j : MonitorId) : (emitLane k i f d s).monitor j = s.monitor j := congrArg (fun v => v.get j) (emitLane_frame k i f d s).monitors

/-! ## Modes -/

theorem reportTally_frame (i : LaneId) (c : Byte) (s : State) : UnitFrame s (reportTally i c s) :=
  (setLane_frame _ _ _).trans (emitLane_frame _ _ _ _ _).unit

theorem reportTallyOnLeave_frame (i : LaneId) (m : LaneMode) (s : State) : UnitFrame s (reportTallyOnLeave i m s) := by
  unfold reportTallyOnLeave
  split
  · exact reportTally_frame _ _ _
  · exact UnitFrame.refl s

theorem takeMode_frame (i : LaneId) (m : LaneMode) (c : ModeCause) (r : Bool) (s : State) : UnitFrame s (takeMode i m c r s) := by
  unfold takeMode
  simp only
  split
  · exact UnitFrame.refl s
  · split
    · exact ((reportTallyOnLeave_frame _ _ _).trans (setLane_frame _ _ _)).trans (emitLane_frame _ _ _ _ _).unit
    · exact (reportTallyOnLeave_frame _ _ _).trans (setLane_frame _ _ _)

/-- A mode change changes only its lane, the exchange memory, the journal unit and NOTICE. -/
theorem changeMode_frame (i : LaneId) (m : BaseMode) (c : ModeCause) (s : State) : UnitFrame s (changeMode i m c s) := by
  unfold changeMode
  simp only
  split
  · exact setLane_frame _ _ _
  · split
    · exact setLane_frame _ _ _
    · exact takeMode_frame _ _ _ _ _

@[simp] theorem takeMode_clk (i : LaneId) (m : LaneMode) (c : ModeCause) (r : Bool) (s : State) : (takeMode i m c r s).clk = s.clk := (takeMode_frame i m c r s).clk
@[simp] theorem takeMode_cfg (i : LaneId) (m : LaneMode) (c : ModeCause) (r : Bool) (s : State) : (takeMode i m c r s).cfg = s.cfg := (takeMode_frame i m c r s).cfg
@[simp] theorem takeMode_gate (i : LaneId) (m : LaneMode) (c : ModeCause) (r : Bool) (s : State) : (takeMode i m c r s).gate = s.gate := (takeMode_frame i m c r s).gate
@[simp] theorem takeMode_list (i : LaneId) (m : LaneMode) (c : ModeCause) (r : Bool) (s : State) : (takeMode i m c r s).list = s.list := (takeMode_frame i m c r s).list
@[simp] theorem takeMode_tab (i : LaneId) (m : LaneMode) (c : ModeCause) (r : Bool) (s : State) : (takeMode i m c r s).tab = s.tab := (takeMode_frame i m c r s).tab
@[simp] theorem takeMode_adm (i : LaneId) (m : LaneMode) (c : ModeCause) (r : Bool) (s : State) : (takeMode i m c r s).adm = s.adm := (takeMode_frame i m c r s).adm
@[simp] theorem takeMode_holds (i : LaneId) (m : LaneMode) (c : ModeCause) (r : Bool) (s : State) : (takeMode i m c r s).holds = s.holds := (takeMode_frame i m c r s).holds
@[simp] theorem takeMode_pending (i : LaneId) (m : LaneMode) (c : ModeCause) (r : Bool) (s : State) : (takeMode i m c r s).pending = s.pending := (takeMode_frame i m c r s).pending
@[simp] theorem takeMode_part (i : LaneId) (m : LaneMode) (c : ModeCause) (r : Bool) (s : State) : (takeMode i m c r s).ctl.part = s.ctl.part := by rw [(takeMode_frame i m c r s).ctl]
@[simp] theorem takeMode_resetActive (i : LaneId) (m : LaneMode) (c : ModeCause) (r : Bool) (s : State) : (takeMode i m c r s).ctl.resetActive = s.ctl.resetActive := by rw [(takeMode_frame i m c r s).ctl]
@[simp] theorem takeMode_setupComplete (i : LaneId) (m : LaneMode) (c : ModeCause) (r : Bool) (s : State) : (takeMode i m c r s).ctl.setupComplete = s.ctl.setupComplete := by rw [(takeMode_frame i m c r s).ctl]
@[simp] theorem takeMode_failure (i : LaneId) (m : LaneMode) (c : ModeCause) (r : Bool) (s : State) : (takeMode i m c r s).ctl.failure = s.ctl.failure := by rw [(takeMode_frame i m c r s).ctl]
@[simp] theorem takeMode_setupRun (i : LaneId) (m : LaneMode) (c : ModeCause) (r : Bool) (s : State) : (takeMode i m c r s).ctl.setupRun = s.ctl.setupRun := by rw [(takeMode_frame i m c r s).ctl]
@[simp] theorem takeMode_enables (i : LaneId) (m : LaneMode) (c : ModeCause) (r : Bool) (s : State) : (takeMode i m c r s).ctl.enables = s.ctl.enables := by rw [(takeMode_frame i m c r s).ctl]
@[simp] theorem takeMode_master (i : LaneId) (m : LaneMode) (c : ModeCause) (r : Bool) (s : State) : (takeMode i m c r s).ctl.master = s.ctl.master := by rw [(takeMode_frame i m c r s).ctl]
@[simp] theorem takeMode_setupAt (i : LaneId) (m : LaneMode) (c : ModeCause) (r : Bool) (s : State) : (takeMode i m c r s).ctl.setupAt = s.ctl.setupAt := by rw [(takeMode_frame i m c r s).ctl]
@[simp] theorem takeMode_hold (i : LaneId) (m : LaneMode) (c : ModeCause) (r : Bool) (s : State) (j : LaneId) : (takeMode i m c r s).hold j = s.hold j := congrArg (fun v => v.get j) (takeMode_frame i m c r s).holds

@[simp] theorem changeMode_clk (i : LaneId) (m : BaseMode) (c : ModeCause) (s : State) : (changeMode i m c s).clk = s.clk := (changeMode_frame i m c s).clk
@[simp] theorem changeMode_cfg (i : LaneId) (m : BaseMode) (c : ModeCause) (s : State) : (changeMode i m c s).cfg = s.cfg := (changeMode_frame i m c s).cfg
@[simp] theorem changeMode_gate (i : LaneId) (m : BaseMode) (c : ModeCause) (s : State) : (changeMode i m c s).gate = s.gate := (changeMode_frame i m c s).gate
@[simp] theorem changeMode_list (i : LaneId) (m : BaseMode) (c : ModeCause) (s : State) : (changeMode i m c s).list = s.list := (changeMode_frame i m c s).list
@[simp] theorem changeMode_tab (i : LaneId) (m : BaseMode) (c : ModeCause) (s : State) : (changeMode i m c s).tab = s.tab := (changeMode_frame i m c s).tab
@[simp] theorem changeMode_adm (i : LaneId) (m : BaseMode) (c : ModeCause) (s : State) : (changeMode i m c s).adm = s.adm := (changeMode_frame i m c s).adm
@[simp] theorem changeMode_holds (i : LaneId) (m : BaseMode) (c : ModeCause) (s : State) : (changeMode i m c s).holds = s.holds := (changeMode_frame i m c s).holds
@[simp] theorem changeMode_pending (i : LaneId) (m : BaseMode) (c : ModeCause) (s : State) : (changeMode i m c s).pending = s.pending := (changeMode_frame i m c s).pending
@[simp] theorem changeMode_part (i : LaneId) (m : BaseMode) (c : ModeCause) (s : State) : (changeMode i m c s).ctl.part = s.ctl.part := by rw [(changeMode_frame i m c s).ctl]
@[simp] theorem changeMode_resetActive (i : LaneId) (m : BaseMode) (c : ModeCause) (s : State) : (changeMode i m c s).ctl.resetActive = s.ctl.resetActive := by rw [(changeMode_frame i m c s).ctl]
@[simp] theorem changeMode_setupComplete (i : LaneId) (m : BaseMode) (c : ModeCause) (s : State) : (changeMode i m c s).ctl.setupComplete = s.ctl.setupComplete := by rw [(changeMode_frame i m c s).ctl]
@[simp] theorem changeMode_failure (i : LaneId) (m : BaseMode) (c : ModeCause) (s : State) : (changeMode i m c s).ctl.failure = s.ctl.failure := by rw [(changeMode_frame i m c s).ctl]
@[simp] theorem changeMode_setupRun (i : LaneId) (m : BaseMode) (c : ModeCause) (s : State) : (changeMode i m c s).ctl.setupRun = s.ctl.setupRun := by rw [(changeMode_frame i m c s).ctl]
@[simp] theorem changeMode_enables (i : LaneId) (m : BaseMode) (c : ModeCause) (s : State) : (changeMode i m c s).ctl.enables = s.ctl.enables := by rw [(changeMode_frame i m c s).ctl]
@[simp] theorem changeMode_master (i : LaneId) (m : BaseMode) (c : ModeCause) (s : State) : (changeMode i m c s).ctl.master = s.ctl.master := by rw [(changeMode_frame i m c s).ctl]
@[simp] theorem changeMode_setupAt (i : LaneId) (m : BaseMode) (c : ModeCause) (s : State) : (changeMode i m c s).ctl.setupAt = s.ctl.setupAt := by rw [(changeMode_frame i m c s).ctl]
@[simp] theorem changeMode_hold (i : LaneId) (m : BaseMode) (c : ModeCause) (s : State) (j : LaneId) : (changeMode i m c s).hold j = s.hold j := congrArg (fun v => v.get j) (changeMode_frame i m c s).holds

/-! ## Zones -/

theorem deliverLink_frame (n : MonitorId) (k : LinkAction) (z : ZoneId) (s : State) : UnitFrame s (deliverLink n k z s) := by
  unfold deliverLink
  split
  · exact UnitFrame.refl s
  · refine UnitFrame.foldl _ (fun t i => ?_) _ _
    split
    · exact changeMode_frame _ _ _ _
    · exact UnitFrame.refl t

theorem monitorEvent_frame (n : MonitorId) (r : Bool) (s : State) : UnitFrame s (monitorEvent n r s) := by
  unfold monitorEvent
  simp only
  split
  · exact (emit_frame _ _).unit.trans (deliverLink_frame _ _ _ _)
  · exact deliverLink_frame _ _ _ _

theorem evaluateMonitor_frame (z : ZoneId) (s : State) (n : MonitorId) : UnitFrame s (evaluateMonitor z s n) := by
  unfold evaluateMonitor
  simp only
  split
  · split
    · exact (setMonitor_frame _ _ _).trans (monitorEvent_frame _ _ _)
    · exact setMonitor_frame _ _ _
  · exact UnitFrame.refl s

/-- An occupancy change touches no hold, ring, table or setting. -/
theorem setOccupancy_frame (z : ZoneId) (v : Nat) (s : State) : UnitFrame s (setOccupancy z v s) := by
  unfold setOccupancy
  split
  · exact UnitFrame.refl s
  · exact (setZone_frame _ _ _).trans (UnitFrame.foldl _ (evaluateMonitor_frame z) _ _)

@[simp] theorem setOccupancy_clk (z : ZoneId) (v : Nat) (s : State) : (setOccupancy z v s).clk = s.clk := (setOccupancy_frame z v s).clk
@[simp] theorem setOccupancy_cfg (z : ZoneId) (v : Nat) (s : State) : (setOccupancy z v s).cfg = s.cfg := (setOccupancy_frame z v s).cfg
@[simp] theorem setOccupancy_gate (z : ZoneId) (v : Nat) (s : State) : (setOccupancy z v s).gate = s.gate := (setOccupancy_frame z v s).gate
@[simp] theorem setOccupancy_list (z : ZoneId) (v : Nat) (s : State) : (setOccupancy z v s).list = s.list := (setOccupancy_frame z v s).list
@[simp] theorem setOccupancy_tab (z : ZoneId) (v : Nat) (s : State) : (setOccupancy z v s).tab = s.tab := (setOccupancy_frame z v s).tab
@[simp] theorem setOccupancy_adm (z : ZoneId) (v : Nat) (s : State) : (setOccupancy z v s).adm = s.adm := (setOccupancy_frame z v s).adm
@[simp] theorem setOccupancy_holds (z : ZoneId) (v : Nat) (s : State) : (setOccupancy z v s).holds = s.holds := (setOccupancy_frame z v s).holds
@[simp] theorem setOccupancy_pending (z : ZoneId) (v : Nat) (s : State) : (setOccupancy z v s).pending = s.pending := (setOccupancy_frame z v s).pending
@[simp] theorem setOccupancy_part (z : ZoneId) (v : Nat) (s : State) : (setOccupancy z v s).ctl.part = s.ctl.part := by rw [(setOccupancy_frame z v s).ctl]
@[simp] theorem setOccupancy_resetActive (z : ZoneId) (v : Nat) (s : State) : (setOccupancy z v s).ctl.resetActive = s.ctl.resetActive := by rw [(setOccupancy_frame z v s).ctl]
@[simp] theorem setOccupancy_setupComplete (z : ZoneId) (v : Nat) (s : State) : (setOccupancy z v s).ctl.setupComplete = s.ctl.setupComplete := by rw [(setOccupancy_frame z v s).ctl]
@[simp] theorem setOccupancy_failure (z : ZoneId) (v : Nat) (s : State) : (setOccupancy z v s).ctl.failure = s.ctl.failure := by rw [(setOccupancy_frame z v s).ctl]
@[simp] theorem setOccupancy_setupRun (z : ZoneId) (v : Nat) (s : State) : (setOccupancy z v s).ctl.setupRun = s.ctl.setupRun := by rw [(setOccupancy_frame z v s).ctl]
@[simp] theorem setOccupancy_enables (z : ZoneId) (v : Nat) (s : State) : (setOccupancy z v s).ctl.enables = s.ctl.enables := by rw [(setOccupancy_frame z v s).ctl]
@[simp] theorem setOccupancy_master (z : ZoneId) (v : Nat) (s : State) : (setOccupancy z v s).ctl.master = s.ctl.master := by rw [(setOccupancy_frame z v s).ctl]
@[simp] theorem setOccupancy_setupAt (z : ZoneId) (v : Nat) (s : State) : (setOccupancy z v s).ctl.setupAt = s.ctl.setupAt := by rw [(setOccupancy_frame z v s).ctl]
@[simp] theorem setOccupancy_hold (z : ZoneId) (v : Nat) (s : State) (j : LaneId) : (setOccupancy z v s).hold j = s.hold j := congrArg (fun v => v.get j) (setOccupancy_frame z v s).holds

/-! ## The watch -/

theorem reachAlert_frame (i : LaneId) (c : Byte) (ts : List (Fin 6)) (s : State) : UnitFrame s (reachAlert i c ts s) := by
  unfold reachAlert
  simp only
  split
  · exact UnitFrame.refl s
  · split
    · exact (setLane_frame _ _ _).trans (emitLane_frame _ _ _ _ _).unit
    · exact setLane_frame _ _ _

/-- A watch event changes only its lane, the exchange memory, the journal unit and NOTICE. -/
theorem watchEvent_frame (i : LaneId) (s : State) : UnitFrame s (watchEvent i s) := by
  unfold watchEvent
  simp only
  split
  · exact (setLane_frame _ _ _).trans (reachAlert_frame _ _ _ _)
  · exact setLane_frame _ _ _

@[simp] theorem watchEvent_clk (i : LaneId) (s : State) : (watchEvent i s).clk = s.clk := (watchEvent_frame i s).clk
@[simp] theorem watchEvent_cfg (i : LaneId) (s : State) : (watchEvent i s).cfg = s.cfg := (watchEvent_frame i s).cfg
@[simp] theorem watchEvent_gate (i : LaneId) (s : State) : (watchEvent i s).gate = s.gate := (watchEvent_frame i s).gate
@[simp] theorem watchEvent_list (i : LaneId) (s : State) : (watchEvent i s).list = s.list := (watchEvent_frame i s).list
@[simp] theorem watchEvent_tab (i : LaneId) (s : State) : (watchEvent i s).tab = s.tab := (watchEvent_frame i s).tab
@[simp] theorem watchEvent_adm (i : LaneId) (s : State) : (watchEvent i s).adm = s.adm := (watchEvent_frame i s).adm
@[simp] theorem watchEvent_holds (i : LaneId) (s : State) : (watchEvent i s).holds = s.holds := (watchEvent_frame i s).holds
@[simp] theorem watchEvent_pending (i : LaneId) (s : State) : (watchEvent i s).pending = s.pending := (watchEvent_frame i s).pending
@[simp] theorem watchEvent_part (i : LaneId) (s : State) : (watchEvent i s).ctl.part = s.ctl.part := by rw [(watchEvent_frame i s).ctl]
@[simp] theorem watchEvent_resetActive (i : LaneId) (s : State) : (watchEvent i s).ctl.resetActive = s.ctl.resetActive := by rw [(watchEvent_frame i s).ctl]
@[simp] theorem watchEvent_setupComplete (i : LaneId) (s : State) : (watchEvent i s).ctl.setupComplete = s.ctl.setupComplete := by rw [(watchEvent_frame i s).ctl]
@[simp] theorem watchEvent_failure (i : LaneId) (s : State) : (watchEvent i s).ctl.failure = s.ctl.failure := by rw [(watchEvent_frame i s).ctl]
@[simp] theorem watchEvent_setupRun (i : LaneId) (s : State) : (watchEvent i s).ctl.setupRun = s.ctl.setupRun := by rw [(watchEvent_frame i s).ctl]
@[simp] theorem watchEvent_enables (i : LaneId) (s : State) : (watchEvent i s).ctl.enables = s.ctl.enables := by rw [(watchEvent_frame i s).ctl]
@[simp] theorem watchEvent_master (i : LaneId) (s : State) : (watchEvent i s).ctl.master = s.ctl.master := by rw [(watchEvent_frame i s).ctl]
@[simp] theorem watchEvent_setupAt (i : LaneId) (s : State) : (watchEvent i s).ctl.setupAt = s.ctl.setupAt := by rw [(watchEvent_frame i s).ctl]
@[simp] theorem watchEvent_hold (i : LaneId) (s : State) (j : LaneId) : (watchEvent i s).hold j = s.hold j := congrArg (fun v => v.get j) (watchEvent_frame i s).holds

/-! ## Returns -/

theorem writeBytes_foldl_frame (a : Nat) (o : List (Nat × List Byte)) (s : State) :
    JournalFrame s (o.foldl (fun t w => t.writeBytes (a + 8 + w.1) w.2) s) := by
  induction o generalizing s with
  | nil => exact JournalFrame.refl s
  | cons w o ih => exact (writeBytes_frame _ _ _).trans (ih _)

theorem foldl_writeBytes_jrn (a : Nat) (o : List (Nat × List Byte)) (s : State) :
    (o.foldl (fun t w => t.writeBytes (a + 8 + w.1) w.2) s).jrn = s.jrn := by
  induction o generalizing s with
  | nil => rfl
  | cons w o ih => exact ih _

/-- A return's writes change only the exchange memory and NOTICE. -/
theorem writeReturn_frame (flag : NoticeFlag) (a : Nat) (n : Bool) (r : Reply) (s : State) :
    JournalFrame s (writeReturn flag a n r s) := by
  unfold writeReturn
  split
  · simp only
    split
    · exact ((((writeBytes_frame _ _ _).trans (writeBytes_frame _ _ _)).trans (writeBytes_foldl_frame _ _ _)).trans
        (writeBytes_frame _ _ _)).trans (notify_frame _ _)
    · exact ((((writeBytes_frame _ _ _).trans (writeBytes_frame _ _ _)).trans (writeBytes_foldl_frame _ _ _)).trans
        (writeBytes_frame _ _ _))
  · exact JournalFrame.refl s

@[simp] theorem notify_jrn (f : NoticeFlag) (s : State) : (notify f s).jrn = s.jrn := rfl

@[simp] theorem State.writeBytes_jrn (s : State) (a : Nat) (bs : List Byte) : (s.writeBytes a bs).jrn = s.jrn := rfl

@[simp] theorem writeReturn_jrn (flag : NoticeFlag) (a : Nat) (n : Bool) (r : Reply) (s : State) :
    (writeReturn flag a n r s).jrn = s.jrn := by
  unfold writeReturn
  split
  · simp only
    split
    · simp only [notify_jrn, State.writeBytes_jrn, foldl_writeBytes_jrn]
    · simp only [State.writeBytes_jrn, foldl_writeBytes_jrn]
  · rfl

@[simp] theorem writeReturn_clk (f : NoticeFlag) (a : Nat) (n : Bool) (r : Reply) (s : State) : (writeReturn f a n r s).clk = s.clk := (writeReturn_frame f a n r s).clk
@[simp] theorem writeReturn_cfg (f : NoticeFlag) (a : Nat) (n : Bool) (r : Reply) (s : State) : (writeReturn f a n r s).cfg = s.cfg := (writeReturn_frame f a n r s).cfg
@[simp] theorem writeReturn_gate (f : NoticeFlag) (a : Nat) (n : Bool) (r : Reply) (s : State) : (writeReturn f a n r s).gate = s.gate := (writeReturn_frame f a n r s).gate
@[simp] theorem writeReturn_list (f : NoticeFlag) (a : Nat) (n : Bool) (r : Reply) (s : State) : (writeReturn f a n r s).list = s.list := (writeReturn_frame f a n r s).list
@[simp] theorem writeReturn_tab (f : NoticeFlag) (a : Nat) (n : Bool) (r : Reply) (s : State) : (writeReturn f a n r s).tab = s.tab := (writeReturn_frame f a n r s).tab
@[simp] theorem writeReturn_adm (f : NoticeFlag) (a : Nat) (n : Bool) (r : Reply) (s : State) : (writeReturn f a n r s).adm = s.adm := (writeReturn_frame f a n r s).adm
@[simp] theorem writeReturn_holds (f : NoticeFlag) (a : Nat) (n : Bool) (r : Reply) (s : State) : (writeReturn f a n r s).holds = s.holds := (writeReturn_frame f a n r s).holds
@[simp] theorem writeReturn_lanes (f : NoticeFlag) (a : Nat) (n : Bool) (r : Reply) (s : State) : (writeReturn f a n r s).lanes = s.lanes := (writeReturn_frame f a n r s).lanes
@[simp] theorem writeReturn_zones (f : NoticeFlag) (a : Nat) (n : Bool) (r : Reply) (s : State) : (writeReturn f a n r s).zones = s.zones := (writeReturn_frame f a n r s).zones
@[simp] theorem writeReturn_monitors (f : NoticeFlag) (a : Nat) (n : Bool) (r : Reply) (s : State) : (writeReturn f a n r s).monitors = s.monitors := (writeReturn_frame f a n r s).monitors
@[simp] theorem writeReturn_pending (f : NoticeFlag) (a : Nat) (n : Bool) (r : Reply) (s : State) : (writeReturn f a n r s).pending = s.pending := (writeReturn_frame f a n r s).pending
@[simp] theorem writeReturn_part (f : NoticeFlag) (a : Nat) (n : Bool) (r : Reply) (s : State) : (writeReturn f a n r s).ctl.part = s.ctl.part := by rw [(writeReturn_frame f a n r s).ctl]
@[simp] theorem writeReturn_resetActive (f : NoticeFlag) (a : Nat) (n : Bool) (r : Reply) (s : State) : (writeReturn f a n r s).ctl.resetActive = s.ctl.resetActive := by rw [(writeReturn_frame f a n r s).ctl]
@[simp] theorem writeReturn_setupComplete (f : NoticeFlag) (a : Nat) (n : Bool) (r : Reply) (s : State) : (writeReturn f a n r s).ctl.setupComplete = s.ctl.setupComplete := by rw [(writeReturn_frame f a n r s).ctl]
@[simp] theorem writeReturn_failure (f : NoticeFlag) (a : Nat) (n : Bool) (r : Reply) (s : State) : (writeReturn f a n r s).ctl.failure = s.ctl.failure := by rw [(writeReturn_frame f a n r s).ctl]
@[simp] theorem writeReturn_setupRun (f : NoticeFlag) (a : Nat) (n : Bool) (r : Reply) (s : State) : (writeReturn f a n r s).ctl.setupRun = s.ctl.setupRun := by rw [(writeReturn_frame f a n r s).ctl]
@[simp] theorem writeReturn_enables (f : NoticeFlag) (a : Nat) (n : Bool) (r : Reply) (s : State) : (writeReturn f a n r s).ctl.enables = s.ctl.enables := by rw [(writeReturn_frame f a n r s).ctl]
@[simp] theorem writeReturn_master (f : NoticeFlag) (a : Nat) (n : Bool) (r : Reply) (s : State) : (writeReturn f a n r s).ctl.master = s.ctl.master := by rw [(writeReturn_frame f a n r s).ctl]
@[simp] theorem writeReturn_setupAt (f : NoticeFlag) (a : Nat) (n : Bool) (r : Reply) (s : State) : (writeReturn f a n r s).ctl.setupAt = s.ctl.setupAt := by rw [(writeReturn_frame f a n r s).ctl]
@[simp] theorem writeReturn_hold (f : NoticeFlag) (a : Nat) (n : Bool) (r : Reply) (s : State) (j : LaneId) : (writeReturn f a n r s).hold j = s.hold j := congrArg (fun v => v.get j) (writeReturn_frame f a n r s).holds
@[simp] theorem writeReturn_lane (f : NoticeFlag) (a : Nat) (n : Bool) (r : Reply) (s : State) (j : LaneId) : (writeReturn f a n r s).lane j = s.lane j := congrArg (fun v => v.get j) (writeReturn_frame f a n r s).lanes
@[simp] theorem writeReturn_zone (f : NoticeFlag) (a : Nat) (n : Bool) (r : Reply) (s : State) (j : ZoneId) : (writeReturn f a n r s).zone j = s.zone j := congrArg (fun v => v.get j) (writeReturn_frame f a n r s).zones
@[simp] theorem writeReturn_monitor (f : NoticeFlag) (a : Nat) (n : Bool) (r : Reply) (s : State) (j : MonitorId) : (writeReturn f a n r s).monitor j = s.monitor j := congrArg (fun v => v.get j) (writeReturn_frame f a n r s).monitors

/-- A broken chain changes the exchange memory, NOTICE and the open-chain record alone. -/
theorem breakChain_frame (s : State) : JournalFrame s ((breakChain s).setList s.list) := by
  have key : ∀ t : State, JournalFrame s t → ∀ l, JournalFrame s ((t.setList l).setList s.list) := fun t h l =>
    { h with list := rfl }
  unfold breakChain
  split
  · refine key _ ?_ _
    unfold returnKept
    split
    · exact writeReturn_frame _ _ _ _ _
    · exact JournalFrame.refl s
  · exact JournalFrame.refl s

end Sys2Proof.Machine
end

