-- ==== Sys2Proof/Laws/Units.lean ====
section
/-! SUPPORT. Finer frames: what a mode change and a watch event can do beyond their own lane, what an examination of a ring can do
beyond its ring unit, and what the shared operations give in their plain cases. -/

namespace Sys2Proof.Machine

/-- Two states that differ only in one lane, the exchange memory, the journal unit and NOTICE. -/
structure LaneFrame (i : LaneId) (s t : State) : Prop where
  unit : UnitFrame s t
  zones : t.zones = s.zones
  monitors : t.monitors = s.monitors
  others : ∀ j, j ≠ i → t.lane j = s.lane j

theorem LaneFrame.refl (i : LaneId) (s : State) : LaneFrame i s s := ⟨UnitFrame.refl s, rfl, rfl, fun _ _ => rfl⟩

theorem LaneFrame.trans {i : LaneId} {s t u : State} (a : LaneFrame i s t) (b : LaneFrame i t u) : LaneFrame i s u :=
  ⟨a.unit.trans b.unit, b.zones.trans a.zones, b.monitors.trans a.monitors, fun j h => (b.others j h).trans (a.others j h)⟩

theorem JournalFrame.lane {s t : State} (a : JournalFrame s t) (i : LaneId) : LaneFrame i s t :=
  ⟨a.unit, a.zones, a.monitors, fun j _ => congrArg (fun v => v.get j) a.lanes⟩

theorem setLane_laneFrame (s : State) (i : LaneId) (l : Lane) : LaneFrame i s (s.setLane i l) :=
  ⟨setLane_frame s i l, rfl, rfl, fun j h => State.setLane_lane_other s i l j h⟩

/-! ## Modes and the watch -/

theorem reportTallyOnLeave_laneFrame (i : LaneId) (m : LaneMode) (s : State) : LaneFrame i s (reportTallyOnLeave i m s) := by
  unfold reportTallyOnLeave reportTally
  split
  · exact (setLane_laneFrame _ _ _).trans ((emitLane_frame _ _ _ _ _).lane i)
  · exact LaneFrame.refl i s

/-- Taking a mode changes only its lane, the exchange memory, the journal unit and NOTICE. -/
theorem takeMode_laneFrame (i : LaneId) (m : LaneMode) (c : ModeCause) (r : Bool) (s : State) :
    LaneFrame i s (takeMode i m c r s) := by
  unfold takeMode
  simp only
  split
  · exact LaneFrame.refl i s
  · split
    · exact ((reportTallyOnLeave_laneFrame _ _ _).trans (setLane_laneFrame _ _ _)).trans ((emitLane_frame _ _ _ _ _).lane i)
    · exact (reportTallyOnLeave_laneFrame _ _ _).trans (setLane_laneFrame _ _ _)

/-- A mode change changes only its lane, the exchange memory, the journal unit and NOTICE. -/
theorem changeMode_laneFrame (i : LaneId) (m : BaseMode) (c : ModeCause) (s : State) : LaneFrame i s (changeMode i m c s) := by
  unfold changeMode
  simp only
  split
  · exact setLane_laneFrame _ _ _
  · split
    · exact setLane_laneFrame _ _ _
    · exact takeMode_laneFrame _ _ _ _ _

theorem reachAlert_laneFrame (i : LaneId) (c : Byte) (ts : List (Fin 6)) (s : State) : LaneFrame i s (reachAlert i c ts s) := by
  unfold reachAlert
  simp only
  split
  · exact LaneFrame.refl i s
  · split
    · exact (setLane_laneFrame _ _ _).trans ((emitLane_frame _ _ _ _ _).lane i)
    · exact setLane_laneFrame _ _ _

/-- A watch event changes only its lane, the exchange memory, the journal unit and NOTICE. -/
theorem watchEvent_laneFrame (i : LaneId) (s : State) : LaneFrame i s (watchEvent i s) := by
  unfold watchEvent
  simp only
  split
  · exact (setLane_laneFrame s i _).trans (reachAlert_laneFrame _ _ _ _)
  · exact setLane_laneFrame s i _

/-- A record's fields, as the clock stands (R85, R182). -/
theorem State.record_clk (s t : State) (h : t.clk = s.clk) (kind : RecordKind) (lane : Option LaneId) (zone : Option ZoneId)
    (flags : RecordFlags) (detail : Word) (key : Key) :
    t.record kind lane zone flags detail key = s.record kind lane zone flags detail key := by
  simp only [State.record, State.now, h]

/-- A mode in force stays as it is. -/
theorem takeMode_same (i : LaneId) (m : LaneMode) (c : ModeCause) (r : Bool) (s : State) (h : (s.lane i).mode = m) :
    takeMode i m c r s = s := by
  simp only [takeMode, h, if_true]

/-- A hold removed with no pending mode leaves everything else. -/
theorem removeHold_plain (i : LaneId) (r : Bool) (s : State) (h : (s.lane i).pendingMode = none) :
    removeHold i r s = s.setHold i none := by
  unfold removeHold
  simp only [State.setHold_lane, h]

/-- An occupancy that does not change changes nothing. -/
theorem setOccupancy_same (z : ZoneId) (s : State) : setOccupancy z (s.zone z).occupancy s = s := by
  simp only [setOccupancy, if_true]

/-- A lane with no STANDING hold has none to end. -/
theorem endHold_none (i : LaneId) (o : HoldOutcome) (s : State) (h : s.standingHold i = none) : endHold i o s = s := by
  simp only [endHold, h]

/-! ## Examinations -/

theorem setGate_frame (s : State) (g g' : GateUnit) : JournalFrame (s.setGate g) ((s.setGate g').setGate g) := by
  constructor <;> rfl

/-- The hand-back of a gate descriptor changes the exchange memory, NOTICE and the gate unit alone. -/
theorem gateHandBack_frame (ring : Ring) (d : Desc) (r : Reply) (s : State) (g : GateUnit) :
    JournalFrame (s.setGate g) ((gateHandBack ring d r s).setGate g) := by
  have h := writeReturn_frame .gateReturned (ring.descAddr s.gate.take) d.notify r s
  exact { h with gate := rfl }

/-- Examinations of the gate ring change the exchange memory, NOTICE and the gate unit alone. -/
theorem gateExamine_frame (n : Nat) (s : State) (g : GateUnit) :
    JournalFrame (s.setGate g) ((gateExamine n s).setGate g) := by
  induction n generalizing s with
  | zero => exact JournalFrame.refl _
  | succ n ih =>
    unfold gateExamine
    split
    · exact JournalFrame.refl _
    · split
      · simp only
        split
        · exact setGate_frame s g _
        · exact (gateHandBack_frame _ _ _ _ _).trans (ih _)
      · exact setGate_frame s g _

/-- An examination of the gate ring changes the exchange memory, NOTICE and the gate unit alone. -/
theorem examineGate_frame (s : State) (g : GateUnit) : JournalFrame (s.setGate g) ((examineGate s).setGate g) := by
  unfold examineGate
  split
  · exact gateExamine_frame _ _ _
  · exact JournalFrame.refl _

theorem setList_frame (s : State) (l l' : ListUnit) : JournalFrame (s.setList l) ((s.setList l').setList l) := by
  constructor <;> rfl

/-- The hand-back of a list descriptor changes the exchange memory, NOTICE and the list unit alone. -/
theorem listHandBack_frame (ring : Ring) (d : Desc) (r : Reply) (s : State) (l : ListUnit) :
    JournalFrame (s.setList l) ((listHandBack ring d r s).setList l) := by
  have h := writeReturn_frame .listReturned (ring.descAddr s.list.take) d.notify r s
  exact { h with list := rfl }

theorem breakChain_listFrame (s : State) (l : ListUnit) : JournalFrame (s.setList l) ((breakChain s).setList l) := by
  have h := breakChain_frame s
  exact { h with list := rfl }

/-- Examinations of the list ring change the exchange memory, NOTICE and the list unit alone. -/
theorem listExamine_frame (n : Nat) (s : State) (l : ListUnit) :
    JournalFrame (s.setList l) ((listExamine n s).setList l) := by
  induction n generalizing s with
  | zero => exact JournalFrame.refl _
  | succ n ih =>
    unfold listExamine
    split
    · exact JournalFrame.refl _
    · split
      · simp only
        split
        · exact setList_frame s l _
        · exact ((breakChain_listFrame s l).trans (listHandBack_frame _ _ _ _ l)).trans (ih _)
      · exact setList_frame s l _

/-- An examination of the list ring changes the exchange memory, NOTICE and the list unit alone. -/
theorem examineList_frame (s : State) (l : ListUnit) : JournalFrame (s.setList l) ((examineList s).setList l) := by
  unfold examineList
  split
  · exact listExamine_frame _ _ _
  · exact JournalFrame.refl _

/-! ## The decision -/

/-- Checks 1 to 4 refuse in their order (R66, R68, R69). -/
theorem laneChecks4_disabled (s : State) (i : LaneId) (h : (s.lane i).enabled = false) :
    s.laneChecks4 i = some .laneDisabled := by
  simp only [State.laneChecks4, h, if_true]

/-- Checks 1 to 4 pass exactly at an enabled OPEN lane with no tracker fault and no lock. -/
theorem laneChecks4_none (s : State) (i : LaneId) :
    s.laneChecks4 i = none ↔ (s.lane i).enabled = true ∧ (s.lane i).mode = .base .opened ∧ (s.lane i).tracker.state ≠ .fault ∧
      (s.lane i).locked = false := by
  unfold State.laneChecks4
  generalize s.lane i = l
  simp only
  cases he : l.enabled <;> cases hm : l.mode with
  | emergency => simp
  | base m => cases m <;> cases l.locked <;> by_cases ht : l.tracker.state = .fault <;> simp [ht]

/-- Check 5 adds the lane's hold. -/
theorem laneChecks5_none (s : State) (i : LaneId) : s.laneChecks5 i = none ↔ s.laneChecks4 i = none ∧ s.hold i = none := by
  unfold State.laneChecks5
  split
  · next r h => simp [h]
  · next h => cases hh : s.hold i <;> simp [h]

end Sys2Proof.Machine
end

