-- ==== Sys2Proof/Laws/Setup.lean ====
section
/-! SUPPORT. What setup's stages can do, what a STOP or a reset completes, and how the tables that the statements compare the model
with stand to the model's own operations. -/

namespace Sys2Proof.Machine

/-! ## The tables of the statements -/

/-- A timer's millisecond, as the statements count it. -/
theorem countedMs_pass (c : Countdown) (u : Nat) : countedMs c u = c.pass u := by
  unfold countedMs Countdown.pass
  by_cases h : c.ms + 1 < u
  · rw [if_pos h, if_neg (show ¬u ≤ c.ms + 1 by omega)]
  · rw [if_neg h, if_pos (show u ≤ c.ms + 1 by omega)]
    by_cases k : 1 < c.units
    · rw [if_pos k, if_neg (show ¬c.units ≤ 1 by omega)]
    · rw [if_neg k, if_pos (show c.units ≤ 1 by omega)]

/-- One input's sample, as the statements say it. -/
theorem conditionInput_conditioned (level : Bool) (count : Nat) (sampled : Bool) :
    Conditioned level count sampled (conditionInput level count sampled).1 (conditionInput level count sampled).2 := by
  unfold Conditioned conditionInput
  split
  · exact ⟨rfl, rfl⟩
  · split
    · rw [if_neg (by omega)]; exact ⟨rfl, rfl⟩
    · rw [if_pos (by omega)]; exact ⟨rfl, rfl⟩

/-- A sample's level and count are the ones that conditioning gives. -/
theorem Conditioned.eq {level sampled level' : Bool} {count count' : Nat} (h : Conditioned level count sampled level' count') :
    (level', count') = conditionInput level count sampled := by
  unfold Conditioned at h
  unfold conditionInput
  by_cases a : sampled = level
  · rw [if_pos a] at h ⊢
    rw [h.1, h.2]
  · rw [if_neg a] at h ⊢
    by_cases b : count + 1 < 3
    · rw [if_pos b] at h
      rw [if_neg (by omega), h.1, h.2]
    · rw [if_neg b] at h
      rw [if_pos (by omega), h.1, h.2]

/-- Check 1 of R186. -/
theorem blockPlaced_iff (a : Nat) : blockPlaced a = true ↔ blockOk a := by
  simp [blockPlaced, inWindow, blockOk, Config.windowBase, Config.windowEnd, Config.setupBytes]

/-- A QUERY's return, as the statements say it. -/
theorem queryReply_queryResult (e : Entry) (held : Option (LaneId × Hold)) : queryReply e held = queryResult e held := by
  have hm : ∀ m : Option PendingMark, (m.map (fun m => flagByte m.inside)).getD 0xFF =
      match m with | none => 0xFF | some m => if m.inside then 1 else 0 := by
    intro m; cases m <;> rfl
  unfold queryReply queryResult
  simp only [hm]
  cases held with
  | none =>
    cases e.state <;> cases e.lastLane <;> cases e.lastTime <;> cases e.remote <;> rfl
  | some x =>
    obtain ⟨i, h⟩ := x
    cases e.state <;> cases e.lastLane <;> cases e.lastTime <;> cases e.remote <;> cases hr : h.revoke <;> cases hk : h.mark <;>
      simp only [Option.bind_some, hr, hk, Option.map_some, Option.map_none, Option.getD_some, Option.getD_none] <;> rfl

/-! ## Setup's stages (R186, log 22) -/

@[simp] theorem setStage_tab (r : SetupRun) (g : SetupStage) (s : State) : (setStage r g s).tab = s.tab := rfl
@[simp] theorem setStage_xmem (r : SetupRun) (g : SetupStage) (s : State) : (setStage r g s).xmem = s.xmem := rfl
@[simp] theorem setStage_part (r : SetupRun) (g : SetupStage) (s : State) : (setStage r g s).ctl.part = s.ctl.part := rfl
@[simp] theorem setStage_setupRun (r : SetupRun) (g : SetupStage) (s : State) :
    (setStage r g s).ctl.setupRun = some { r with stage := g } := rfl

/-- Check 1 at the first stage, and nothing at a later one. -/
theorem makeFirstCheck_cases (s : State) (r : SetupRun) (h : s.ctl.setupRun = some r) :
    makeFirstCheck s =
      if r.stage = .entered then (if blockPlaced r.base then setStage r .checking s else failSetup .placement s) else s := by
  simp only [makeFirstCheck, h]

/-- Checks 2 to 5 at the second stage, and nothing at another. -/
theorem makeBlockChecks_cases (s : State) (r : SetupRun) (h : s.ctl.setupRun = some r) :
    makeBlockChecks s =
      if r.stage = .checking then
        match r.check with
        | some code => failSetup code s
        | none => if r.format then beginFormat (setStage r .table s) else setStage r .table s
      else s := by
  simp only [makeBlockChecks, h] <;> rfl

/-- A setup at its table step has no check to make. -/
theorem advanceSetup_table (g : SetupStage) (s : State) (r : SetupRun) (h : s.ctl.setupRun = some r) (hs : r.stage = .table) :
    advanceSetup g s = s := by
  cases g <;> simp [advanceSetup, makeFirstCheck_cases s r h, makeBlockChecks_cases s r h, hs]

/-- With no setup in progress there is no check to make. -/
theorem advanceSetup_none (g : SetupStage) (s : State) (h : s.ctl.setupRun = none) : advanceSetup g s = s := by
  cases g <;> simp [advanceSetup, makeFirstCheck, makeBlockChecks, h]

/-- A setup that fails leaves the part HALTED with no valid setup, and moves nothing but the result and NOTICE. -/
theorem failSetup_ctl (code : FailureCode) (s : State) :
    (failSetup code s).ctl.part = .halted ∧ (failSetup code s).ctl.setupComplete = false ∧ (failSetup code s).ctl.failure = code ∧
      (failSetup code s).ctl.setupRun = none ∧ (failSetup code s).tab = s.tab := by
  refine ⟨rfl, rfl, rfl, rfl, ?_⟩
  unfold failSetup
  cases s.ctl.setupRun with
  | none => rfl
  | some r => by_cases h : r.stage = .entered <;> simp only [h, if_true, if_false] <;> rfl

/-! ## What a STOP or a reset completes (log 9) -/

@[simp] theorem completeFlight_idle (s : State) : completeFlight .idle s = s := by
  unfold completeFlight; split <;> rfl

/-- Nothing is under way while the part is not at work. -/
theorem completeFlight_down (f : InFlight) (s : State) (h : s.portUp = false) : completeFlight f s = s := by
  simp [completeFlight, h]

/-- A PROFILE carried out breaks an open chain and changes its profile alone. -/
theorem carryOutProfile_adm (d : Desc) (s : State) : ∃ a, carryOutProfile d s = (breakChain s).setAdm a := by
  unfold carryOutProfile
  cases profileOf (d.byte 0) with
  | none => exact ⟨(breakChain s).adm, rfl⟩
  | some p => exact ⟨_, rfl⟩

end Sys2Proof.Machine
end

