-- ==== Sys2Proof/Laws/Lanes.lean ====
section
/-! SUPPORT. What one lane event, one millisecond and one removal by STOP do, in the terms the statements use: the four steps of an event
in their order (R115), which timers a millisecond counts (log 2), and the lane and the record that the removal leaves (R105). -/

namespace Sys2Proof.Machine

/-! ## Records -/

/-- A record made now is the one the statements name. -/
theorem State.record_recordNow (s : State) (kind : RecordKind) (lane : Option LaneId) (zone : Option ZoneId) (flags : RecordFlags)
    (detail : Word) (key : Key) : s.record kind lane zone flags detail key = s.recordNow kind lane zone flags detail key := by
  unfold State.record State.recordNow State.now
  cases s.clk.valid <;> rfl

/-- A word of four bytes, as the statements add it up. -/
theorem wordOf_detailBytes (a b c d : Nat) :
    wordOf (BitVec.ofNat 8 a) (BitVec.ofNat 8 b) (BitVec.ofNat 8 c) (BitVec.ofNat 8 d) = detailBytes a b c d := by
  apply BitVec.eq_of_toNat_eq
  unfold wordOf detailBytes
  have e1 : b % 256 * 256 = (b % 256) <<< 8 := by rw [Nat.shiftLeft_eq]
  have e2 : c % 256 * 65536 = (c % 256) <<< 16 := by rw [Nat.shiftLeft_eq]
  have e3 : d % 256 * 16777216 = (d % 256) <<< 24 := by rw [Nat.shiftLeft_eq]
  have h1 := Nat.shiftLeft_add_eq_or_of_lt (show a % 256 < 2 ^ 8 by omega) (b % 256)
  have h2 := Nat.shiftLeft_add_eq_or_of_lt (show (b % 256) <<< 8 + a % 256 < 2 ^ 16 by omega) (c % 256)
  have h3 := Nat.shiftLeft_add_eq_or_of_lt (show (c % 256) <<< 16 + ((b % 256) <<< 8 + a % 256) < 2 ^ 24 by omega) (d % 256)
  simp only [BitVec.toNat_or, BitVec.toNat_shiftLeft, BitVec.toNat_setWidth, BitVec.toNat_ofNat]
  have l1 : (b % 2 ^ 8 % 2 ^ 32) <<< 8 % 2 ^ 32 = (b % 256) <<< 8 := by simp only [Nat.shiftLeft_eq]; omega
  have l2 : (c % 2 ^ 8 % 2 ^ 32) <<< 16 % 2 ^ 32 = (c % 256) <<< 16 := by simp only [Nat.shiftLeft_eq]; omega
  have l3 : (d % 2 ^ 8 % 2 ^ 32) <<< 24 % 2 ^ 32 = (d % 256) <<< 24 := by simp only [Nat.shiftLeft_eq]; omega
  have l0 : a % 2 ^ 8 % 2 ^ 32 = a % 256 := by omega
  rw [l0, l1, l2, l3, Nat.or_comm (a % 256), ← h1, Nat.or_comm _ ((c % 256) <<< 16), ← h2, Nat.or_comm _ ((d % 256) <<< 24), ← h3]
  omega

/-! ## Mode changes (R123, R126) -/

/-- A mode taken that leaves no tally to report. -/
theorem takeMode_untallied (i : LaneId) (m : LaneMode) (c : ModeCause) (r : Bool) (s : State) (h : (s.lane i).mode ≠ m)
    (ht : ¬((s.lane i).mode.isFree = true ∧ m.isFree = false ∧ 0 < (s.lane i).tally)) :
    takeMode i m c r s =
      if r then
        emit (s.recordNow .mode (some i) (some (s.lane i).zone) {}
          (detail4 (s.lane i).mode.code m.code c.code (finByte c.monitor)) zeroKey) (s.setLane i { s.lane i with mode := m })
      else s.setLane i { s.lane i with mode := m } := by
  unfold takeMode reportTallyOnLeave
  simp only [if_neg h, if_neg ht, emitLane, State.record_recordNow, State.setLane_lane_same]
  rfl

/-- A mode taken that leaves a free mode with a tally: the TALLY record comes before the change. -/
theorem takeMode_tallied (i : LaneId) (m : LaneMode) (c : ModeCause) (r : Bool) (s : State) (h : (s.lane i).mode ≠ m)
    (ht : (s.lane i).mode.isFree = true ∧ m.isFree = false ∧ 0 < (s.lane i).tally) :
    takeMode i m c r s =
      let left :=
        (emit (s.recordNow .tally (some i) (some (s.lane i).zone) {} (detailBytes (s.lane i).tally 1 0 0) zeroKey)
          (s.setLane i { s.lane i with tally := 0 })).setLane i { s.lane i with tally := 0, mode := m }
      if r then
        emit (s.recordNow .mode (some i) (some (s.lane i).zone) {}
          (detail4 (s.lane i).mode.code m.code c.code (finByte c.monitor)) zeroKey) left
      else left := by
  have hd : ∀ n, detail4 (BitVec.ofNat 8 n) 1 0 0 = detailBytes n 1 0 0 := fun n => wordOf_detailBytes n 1 0 0
  unfold takeMode reportTallyOnLeave reportTally
  simp only [if_neg h, if_pos ht, emitLane, State.record_recordNow, State.setLane_lane_same, emit_lane, hd]
  simp only [State.recordNow, emit_clk, State.setLane_clk]
  rfl

/-! ## The steps of an event (R115) -/

/-- A BEAM rise acts as step 1 says. -/
theorem beamRise_beamArrives (i : LaneId) (s : State) : beamRise i s = s.beamArrives i false true := by
  unfold beamRise State.beamArrives State.standingHold Hold.beamArrives
  cases hh : s.hold i with
  | none => rfl
  | some h =>
    by_cases p : h.phase = .standing
    · simp only [Option.filter_some, Hold.standing, p, decide_true, if_true, and_self, Config.reloadLimit]
      split <;> rfl
    · simp [Option.filter_some, Hold.standing, p]

/-- With no BEAM rise step 1 does nothing. -/
theorem beamArrives_idle (i : LaneId) (was now : Bool) (s : State) (h : ¬(was = false ∧ now = true)) :
    s.beamArrives i was now = s := by
  unfold State.beamArrives
  cases s.hold i with
  | none => rfl
  | some x => simp only; rw [if_neg (fun k => h ⟨k.1, k.2.1⟩)]

/-- Step 1 changes the holds alone. -/
theorem beamArrives_lane (i j : LaneId) (was now : Bool) (s : State) : (s.beamArrives i was now).lane j = s.lane j := by
  unfold State.beamArrives
  cases s.hold i with
  | none => rfl
  | some h => simp only; split <;> rfl

/-- Step 1 leaves a lane with no STANDING hold alone. -/
theorem beamArrives_none (i : LaneId) (was now : Bool) (s : State) (h : ∀ x, s.hold i = some x → x.phase ≠ .standing) :
    s.beamArrives i was now = s := by
  unfold State.beamArrives
  cases hh : s.hold i with
  | none => rfl
  | some x => simp only; rw [if_neg (fun k => h x hh k.2.2)]

/-- A FIRE rise acts as step 3 says. -/
theorem fireRise_fireArrives (i : LaneId) (s : State) : fireRise i s = s.fireArrives i false true := by
  unfold fireRise State.fireArrives
  cases hm : (s.lane i).mode with
  | emergency => simp only [hm]
  | base m =>
    have hd : detail4 (LaneMode.base m).code LaneMode.emergency.code ModeCause.fire.code (finByte ModeCause.fire.monitor) =
        detailBytes m.code.toNat 3 0 255 := by cases m <;> rfl
    simp only [hm]
    rw [takeMode_untallied _ _ _ _ _ (by simp) (by simp [LaneMode.isFree])]
    simp only [State.setLane_lane_same, State.setLane_setLane, if_true, hd]
    rfl

/-- A FIRE fall acts as step 3 says. -/
theorem fireFall_fireArrives (i : LaneId) (s : State) : fireFall i s = s.fireArrives i true false := by
  unfold fireFall State.fireArrives
  cases hm : (s.lane i).mode with
  | base m => simp only [hm]
  | emergency =>
    cases ha : (s.lane i).afterEmergency with
    | none => simp only [hm, ha]
    | some m =>
      have hd : detail4 LaneMode.emergency.code (LaneMode.base m).code ModeCause.fireClear.code (finByte ModeCause.fireClear.monitor) =
          detailBytes 3 m.code.toNat 1 255 := by cases m <;> rfl
      have hf : (LaneMode.base m).isFree = false ↔ m ≠ .free := by cases m <;> simp [LaneMode.isFree]
      simp only [hm, ha]
      by_cases ht : m ≠ .free ∧ 0 < (s.lane i).tally
      · rw [takeMode_tallied _ _ _ _ _ (by simp) (by rw [hf, State.setLane_lane_same]; exact ⟨rfl, ht⟩)]
        simp only [State.setLane_lane_same, State.setLane_setLane, if_true, hd, if_pos ht, emit_lane]
        rfl
      · rw [takeMode_untallied _ _ _ _ _ (by simp) (by rw [hf, State.setLane_lane_same]; exact fun k => ht k.2)]
        simp only [State.setLane_lane_same, State.setLane_setLane, if_true, hd, if_neg ht]
        rfl

/-- One event acts in the order BEAM, tracker, FIRE, watch. -/
theorem levelsChange_eventEnds (i : LaneId) (new : Levels) (s : State) :
    levelsChange i new s =
      let old := s.lane i
      let seen := (s.setLane i { old with level := new }).beamArrives i old.level.beam new.beam
      (if old.enabled = true ∧ (old.level.armA ≠ new.armA ∨ old.level.armB ≠ new.armB) then trackerMove i (armPosition new) seen
        else seen).eventEnds i old.level new := by
  have hb : (if new.beam && !(s.lane i).level.beam then beamRise i (s.setLane i { s.lane i with level := new })
      else s.setLane i { s.lane i with level := new }) =
      (s.setLane i { s.lane i with level := new }).beamArrives i (s.lane i).level.beam new.beam := by
    rw [beamRise_beamArrives]
    cases h1 : new.beam <;> cases h2 : (s.lane i).level.beam <;>
      simp only [Bool.not_true, Bool.not_false, Bool.and_self, Bool.and_true, Bool.and_false, Bool.false_eq_true, if_true, if_false] <;>
      rw [beamArrives_idle] <;> decide
  have hf : ∀ x : State, (if new.fire && !(s.lane i).level.fire then fireRise i x
      else if !new.fire && (s.lane i).level.fire then fireFall i x else x) = x.fireArrives i (s.lane i).level.fire new.fire := by
    intro x
    rw [fireRise_fireArrives, fireFall_fireArrives]
    cases new.fire <;> cases (s.lane i).level.fire <;> rfl
  unfold levelsChange State.eventEnds
  simp only [hb, hf, beamArrives_lane, State.setLane_lane_same]

/-! ## One millisecond (log 2) -/

/-- A poll timer of the journal unit that a record made in the millisecond has loaded is not counted in it. -/
theorem tickRunningPoll_loaded (s : State) : tickRunningPoll false s = s := rfl

/-- A chain wait that an examination made in the millisecond has started is not counted in it. -/
theorem tickRunningWait_started (s : State) : tickRunningWait false s = s := rfl

/-! ## A STOP's removal of a hold (R105, R106) -/

/-- A STOP leaves a lane without a hold as it was. -/
theorem stopHold_none (i : LaneId) (s : State) (h : s.hold i = none) : stopHold s i = s := by simp [stopHold, h]

/-- The removal of a lane's hold makes the TALLY record of the lane, or none, and then leaves the lane stopped, its hold gone and all
else as it was. -/
theorem stopHold_some (i : LaneId) (s : State) (h : s.hold i ≠ none) :
    stopHold s i =
      (((match s.stopTally i with
        | none => s.setHold i none
        | some r => emit r ((s.setHold i none).setLane i { s.lane i with pendingMode := none, tally := 0 })).setLane i
          (s.lane i).stopped)) := by
  have some_hold : (s.hold i).isSome = true := Option.isSome_iff_ne_none.mpr h
  unfold stopHold removeHold State.stopTally Lane.stopped
  simp only [some_hold, if_true, State.setHold_lane]
  cases hp : (s.lane i).pendingMode with
  | none => simp [hp]
  | some m =>
    dsimp only
    by_cases he : (s.lane i).mode = .emergency
    · simp [he, State.setLane_setLane]
    · obtain ⟨b, hb⟩ : ∃ b, (s.lane i).mode = .base b := by
        cases h' : (s.lane i).mode with
        | emergency => exact absurd h' he
        | base b => exact ⟨b, rfl⟩
      simp only [if_neg he]
      by_cases hm : b = m
      · rw [takeMode_same _ _ _ _ _ (by simp [hb, hm])]
        subst hm; cases b <;> simp [hb, State.setLane_setLane]
      · by_cases ht : b = .free ∧ 0 < (s.lane i).tally
        · obtain ⟨rfl, hz⟩ := ht
          rw [takeMode_tallied _ _ _ _ _ (by simpa [hb] using hm) (by cases m <;> simp_all [LaneMode.isFree])]
          cases m <;> simp_all [State.setLane_setLane, State.recordNow]
        · rw [takeMode_untallied _ _ _ _ _ (by simpa [hb] using hm) (by cases b <;> simp_all [LaneMode.isFree])]
          cases b <;> cases m <;> simp_all [State.setLane_setLane]

end Sys2Proof.Machine
end

