-- ==== Sys2Proof/WellFormed.lean ====
section
/-! DEFINITION. When the operands of a command name something the KG818 has. -/

namespace Sys2Proof

/-- A table word lies within the largest geometry, k = 17 and u = 64 (R16). -/
def TableWord.wf : TableWord → Bool
  | .slot b _ => decide (b < 2 ^ 17)
  | .head b => decide (b < 2 ^ 17)
  | .place i => decide (i < 65536)
  | .freeHead => true
  | .marker => true

/-- The operands of a command are well formed: each named table word exists in the largest geometry (R16), a bus write has an
active byte enable (R184), and a cut journal write has not written the owner mark, which is its last write (R176). -/
def Instr.wf : Instr → Bool
  | .tableStep bad => bad.all TableWord.wf
  | .admissionLookup bad => bad.all TableWord.wf
  | .closingOperation bad => bad.all TableWord.wf
  | .batchRecord bad => bad.all TableWord.wf
  | .listRequest bad => bad.all TableWord.wf
  | .rebuildWalkBucket bad => bad.all TableWord.wf
  | .resetNAsserted _ cut => !cut.getLsbD 0
  | .powerOn | .resetN | .stop _ | .init _ | .run | .prompt => true
  | .noticeWrite enables _ => decide (enables ≠ 0)
  | .noticeEnWrite enables _ => decide (enables ≠ 0)
  | .clockWrite enables _ => decide (enables ≠ 0)
  | .registerWrite _ enables _ => decide (enables ≠ 0)
  | .laneEvent _ _ _ | .releaseTimerExpiry _ | .escortTokenExpiry _ | .clockSecond => true
  | .ringPollExpiry _ | .chainWaitExpiry | .journalPollExpiry => true
  | .present | .manualRelease | .manualEscort | .lane => true
  | .alertTake | .alertClear | .alertEnable | .alertDisable | .alertRaise => true
  | .load | .revoke | .restore | .mark | .query | .rebuild => true
  | .zoneSetOccupancy | .zoneAdjust | .zoneSetCapacity | .monitor | .profile => true

end Sys2Proof
end

