-- ==== Sys2Proof/Tests/Slice0.lean ====
section
/-! SUPPORT. Tests: the well-formedness smoke test, the manual's worked examples, one step of each command, and for each statement
with hypotheses a state that meets them. -/

open Sys2Proof Sys2Proof.Machine

namespace Sys2Proof.Tests

/-! ## Well-formedness: each check refuses an ill-formed term -/

theorem test_wf_accepts :
    Instr.wf (.tableStep [.slot 131071 3, .head 131071, .place 65535, .freeHead, .marker]) = true ∧
      Instr.wf (.resetNAsserted .profileThenGate 0xFFFFFFFE) = true ∧ Instr.wf (.registerWrite 0xFFFF 8 0) = true ∧
      Instr.wf .powerOn = true ∧ Instr.wf (.clockWrite 1 0) = true := by decide

theorem test_wf_refuses_a_bucket_past_the_last : TableWord.wf (.slot 131072 0) = false ∧ TableWord.wf (.head 131072) = false := by
  decide

theorem test_wf_refuses_a_place_past_the_last : TableWord.wf (.place 65536) = false := by decide

theorem test_wf_refuses_a_bad_word_in_each_table_operation :
    Instr.wf (.tableStep [.place 65536]) = false ∧ Instr.wf (.admissionLookup [.head 131072]) = false ∧
      Instr.wf (.closingOperation [.slot 131072 3]) = false ∧ Instr.wf (.batchRecord [.freeHead, .place 65536]) = false ∧
      Instr.wf (.listRequest [.head 131072]) = false ∧ Instr.wf (.rebuildWalkBucket [.slot 131072 0]) = false := by decide

theorem test_wf_refuses_a_write_without_enables :
    Instr.wf (.noticeWrite 0 1) = false ∧ Instr.wf (.noticeEnWrite 0 1) = false ∧ Instr.wf (.clockWrite 0 1) = false ∧
      Instr.wf (.registerWrite 16 0 1) = false := by decide

theorem test_wf_refuses_a_cut_owner_mark : Instr.wf (.resetNAsserted .idle 1) = false := by decide

/-! ## The worked examples of chapter 1 -/

def digits16 : List Nat := [1, 2, 3, 4, 5, 6, 7, 8, 9, 0, 1, 2, 3, 4, 5, 2]
def uid7 : List Byte := [0x04, 0xA1, 0xB2, 0xC3, 0xD4, 0xE5, 0xF6]

/-- 1.4 and 1.8: the barcode passes MOD10, and with 6 as its check digit fails. -/
theorem test_mod10_worked :
    mod10Passes digits16 = true ∧ mod10Passes [1, 2, 3, 4, 5, 6, 7, 8, 9, 0, 1, 2, 3, 4, 5, 6] = false ∧
      mod10Passes [1, 2, 3, 4, 5, 5] = true ∧ mod10Passes [0, 1, 2, 3, 4, 5, 5] = true ∧ mod10Passes [0, 0, 0, 0, 0, 0] = true := by
  decide

/-- 1.8: the barcode's key. -/
theorem test_barcode_key_worked :
    (packBarcode digits16).toList =
      [0x01, 0x10, 0, 0, 0, 0, 0, 0, 0x12, 0x34, 0x56, 0x78, 0x90, 0x12, 0x34, 0x52] := by decide

/-- 1.8: the barcode's mixed value, bucket indices and filter index. -/
theorem test_barcode_placement_worked :
    keyMix (packBarcode digits16) = 0x8336E11C ∧ bucketIndex 16 (packBarcode digits16) = 57628 ∧
      bucketIndex 12 (packBarcode digits16) = 284 ∧ filterIndex (packBarcode digits16) = 134363 := by decide

/-- 1.8: the card's key, mixed value, bucket index and filter index. -/
theorem test_card_worked :
    (packCard uid7).toList = [0x02, 0x07, 0, 0, 0, 0, 0, 0, 0, 0x04, 0xA1, 0xB2, 0xC3, 0xD4, 0xE5, 0xF6] ∧
      keyMix (packCard uid7) = 0xC1D78593 ∧ bucketIndex 16 (packCard uid7) = 34195 ∧ filterIndex (packCard uid7) = 198494 := by
  decide

/-- 1.8: the same digits with and without a leading zero. -/
theorem test_leading_zero_worked :
    keyMix (packBarcode [1, 2, 3, 4, 5, 5]) = 0x01143541 ∧ bucketIndex 12 (packBarcode [1, 2, 3, 4, 5, 5]) = 1345 ∧
      filterIndex (packBarcode [1, 2, 3, 4, 5, 5]) = 1104 ∧ keyMix (packBarcode [0, 1, 2, 3, 4, 5, 5]) = 0x01153540 ∧
      bucketIndex 12 (packBarcode [0, 1, 2, 3, 4, 5, 5]) = 1344 ∧ filterIndex (packBarcode [0, 1, 2, 3, 4, 5, 5]) = 1108 := by
  decide

/-- 1.8, limit cases: the payloads that are refused, and those that give a key. -/
theorem test_limit_cases_worked :
    normalise .none 1 5 (List.replicate 32 0x30) = .unreadable ∧ normalise .mod10 1 6 (List.replicate 32 0x30) ≠ .badCheck ∧
      normalise .none 1 29 (List.replicate 32 0x30) = .unreadable ∧ normalise .none 1 33 (List.replicate 32 0x30) = .malformed ∧
      normalise .none 3 6 (List.replicate 32 0x30) = .malformed ∧ normalise .none 2 5 (List.replicate 32 0) = .unreadable ∧
      normalise .none 1 7 [0x31, 0x32, 0x20, 0x33, 0x34, 0x35, 0x36] = .unreadable := by decide

/-- 1.9: the eight keys of its table, in its order. -/
theorem test_packed_keys_worked :
    [#v[0x01, 0x10, 0, 0, 0, 0, 0, 0, 0x12, 0x34, 0x56, 0x78, 0x90, 0x12, 0x34, 0x52],
      #v[0x01, 0x10, 0, 0, 0, 0, 0, 0, 0x12, 0x34, 0x56, 0x78, 0x90, 0x12, 0x34, 0x5A],
      #v[0x01, 0x0F, 0, 0, 0, 0, 0, 0, 0x12, 0x34, 0x56, 0x78, 0x90, 0x12, 0x34, 0x52],
      #v[0x01, 0x05, 0, 0, 0, 0, 0, 0, 0, 0, 0, 0, 0, 0x01, 0x23, 0x45],
      #v[0x02, 0x07, 0, 0, 0, 0, 0, 0, 0, 0x04, 0xA1, 0xB2, 0xC3, 0xD4, 0xE5, 0xF6],
      #v[0x02, 0x04, 0, 0, 0, 0, 0, 0, 0, 0x04, 0xA1, 0xB2, 0xC3, 0xD4, 0xE5, 0xF6],
      #v[0x02, 0x08, 0, 0, 0, 0, 0, 0, 0x04, 0xA1, 0xB2, 0xC3, 0xD4, 0xE5, 0xF6, 0x07],
      #v[0x03, 0x07, 0, 0, 0, 0, 0, 0, 0, 0x04, 0xA1, 0xB2, 0xC3, 0xD4, 0xE5, 0xF6]].map keyPasses =
    [true, false, false, false, true, false, false, false] := by decide

/-! ## Small states -/

def ring : Ring := ⟨0x1000, 3⟩
def listRing : Ring := ⟨0x2000, 3⟩
def journalRing : Ring := ⟨0x3000, 3⟩

/-- An enabled OPEN lane with sample period RAW. -/
def openLane : Lane := { Lane.powerOn with enabled := true, period := .raw, mode := .base .opened, holdTime := 50 }

/-- The part RUNNING with three rings and eight such lanes. -/
def live : State :=
  { State.reset with
    ctl := ⟨.running, true, .none, none, false, 0, 0, false, 0⟩
    cfg := ⟨some ring, some listRing, some journalRing, 10, 5⟩
    lanes := Vector.replicate 8 openLane }

def desc (kind lane : Byte) (bs : List Byte) : Desc := ⟨true, 0, kind, lane, padTo 40 bs⟩

/-- A descriptor just taken at the gate ring, and at the list ring, whose owner mark is PART. -/
def took (d : Desc) : State := (live.writeBytes 0x1000 [1]).setGate ⟨0, none, some ⟨d, .taken⟩⟩
def tookList (d : Desc) : State := (live.writeBytes 0x2000 [1]).setList { live.list with work := some ⟨d, .taken⟩ }

/-- A next state of which `p` holds. -/
def after (c : Instr) (s : State) (p : State → Bool) : Bool :=
  match exec c s with
  | .next t => p t
  | _ => false

/-- A card key with its entry in the bucket of its key, OUTSIDE, tier 1, grant ONCE in zone 0. -/
def keyA : Key := packCard [0xDE, 0xAD, 0xBE, 0xEF]
def keyABytes : List Byte := [2, 4, 0, 0, 0, 0, 0, 0, 0, 0, 0, 0, 0xDE, 0xAD, 0xBE, 0xEF]
def bucketA : Nat := bucketIndex 12 keyA
def entryA : Entry := ⟨keyA, .outside, 1, 1, 0, 0, 0, none, none, none, 1⟩
def locA : Location := .main bucketA 0
def tableWith (e : Entry) : TableMemory :=
  ⟨some ⟨12, 1, 0⟩, [(bucketA, ⟨#v[some e, none, none, none], []⟩)], List.range 1024, [], []⟩

/-- A state with the entry stored and the filter VALID. -/
def storing (e : Entry) (s : State) : State :=
  s.setTab ⟨12, 1, tableWith e, [filterIndex keyA], [], .valid, 0, []⟩

/-- A CREDENTIAL hold of the key, and a state with it at a lane. -/
def holdA (p : HoldPhase) : Hold :=
  ⟨.credential keyA locA 1, .entry, 0, p, 50, 0, 50, 0, 0, false, none, none⟩
def holding (i : LaneId) (h : Hold) (s : State) : State := (s.setHold i (some h)).setZone 0 ⟨0, 0, 1⟩

/-- A lookup, a closing operation, a batch record and a list request at the table port. -/
def atLookup (key : Key) (s : State) : State :=
  (s.setGate ⟨0, none, some ⟨desc 1 0 [], .lookup key⟩⟩).setTab { s.tab with port := [.lookup] }
def atClosing (i : LaneId) (s : State) : State := s.setTab { s.tab with port := [.closing i] }
def atList (d : Desc) (p : ListPhase) (s : State) : State := s.setList { s.list with work := some ⟨d, p⟩ }

/-! ## One step of each command -/

theorem test_power_on :
    after .powerOn (storing entryA live) (fun t => decide (t.ctl.part = .halted ∧ t.tab.memory.marker = none)) = true := by decide

theorem test_reset_n :
    after .resetN (storing entryA live) (fun t => decide (t.ctl.part = .halted ∧ t.tab.memory.marker = some ⟨12, 1, 0⟩ ∧
      t.tab.filter = .suspect)) = true := by decide

theorem test_reset_n_asserted_lowers_release :
    live.freewheel 0 = false ∧ (holding 0 (holdA .standing) live).release 0 = true ∧
      after (.resetNAsserted .idle 0) (holding 0 (holdA .standing) live) (fun t => !t.release 0) = true := by decide

theorem test_stop_removes_holds :
    after (.stop .idle) (holding 0 (holdA .standing) live) (fun t => decide (t.ctl.part = .halted ∧ t.hold 0 = none ∧
      (t.zone 0).reserved = 0)) = true := by decide

theorem test_init_placement_fails :
    after (.init ⟨.idle, .table⟩) State.reset (fun t => decide (t.ctl.failure = .placement) && t.flagSet .setupFailed) = true := by decide

theorem test_run_needs_a_valid_setup :
    after .run State.reset (fun t => decide (t.ctl.part = .halted)) = true ∧
      after .run (live.setCtl { live.ctl with part := .standby }) (fun t => decide (t.ctl.part = .running)) = true := by decide

theorem test_prompt_examines_the_gate_ring :
    after .prompt ((live.writeBytes 0x1000 [1, 1, 0, 2, 0, 0, 3]).setGate ⟨0, some 10, none⟩)
      (fun t => decide (t.gate.poll = none ∧ t.gate.work.isSome = true)) = true := by decide

theorem test_notice_write_clears_written_flags :
    after (.noticeWrite 1 1) (live.setCtl { live.ctl with notice := 3 }) (fun t => decide (t.ctl.notice = 2)) = true := by decide

theorem test_notice_en_write :
    after (.noticeEnWrite 15 0x80000001) (live.setCtl { live.ctl with notice := 1 }) State.noticeActive = true := by decide

theorem test_clock_write :
    after (.clockWrite 15 7) live (fun t => decide (t.clk = ⟨7, true, 0⟩)) = true := by decide

theorem test_clock_second_holds_at_the_top :
    after .clockSecond (live.setClk ⟨7, true, 500⟩) (fun t => decide (t.clk.value = 8)) = true ∧
      after .clockSecond (live.setClk ⟨0x7FFFFFFF, true, 0⟩) (fun t => decide (t.clk.value = 0x7FFFFFFF)) = true := by decide

theorem test_register_write_reaches_the_exchange_memory :
    after (.registerWrite 16 6 0x44332211) live (fun t => decide ((t.read 0x40, t.read 0x41, t.read 0x42, t.read 0x43) =
      (0, 0x22, 0x33, 0))) = true := by decide

theorem test_release_timer_lapses_a_manual_hold :
    after (.releaseTimerExpiry 0) (holding 0 { holdA .standing with kind := .manual } live)
      (fun t => decide (t.hold 0 = none ∧ (t.zone 0).reserved = 0 ∧ t.jrn.queue.length = 1)) = true := by decide

theorem test_escort_token_expires :
    after (.escortTokenExpiry 2) (live.setLane 2 { openLane with token := some ⟨3, 0⟩ })
      (fun t => decide ((t.lane 2).token = none)) = true := by decide

theorem test_ring_poll_takes_a_descriptor :
    after (.ringPollExpiry .gate) ((live.writeBytes 0x1000 [1, 0, 0, 1, 0, 0, 2]).setGate ⟨0, some 1, none⟩)
      (fun t => decide (t.gate.work = some ⟨⟨false, 0, 1, 2, padTo 40 []⟩, .taken⟩)) = true := by decide

theorem test_ring_poll_returns_a_wrong_ring :
    after (.ringPollExpiry .gate) ((live.writeBytes 0x1000 [1, 0, 0, 16]).setGate ⟨0, some 1, none⟩)
      (fun t => decide (t.read 0x1000 = 0 ∧ t.read 0x1007 = 8 ∧ t.gate.take = 1)) = true := by decide

theorem test_chain_wait_breaks_the_chain :
    after .chainWaitExpiry ((live.writeBytes 0x2000 [1]).setList ⟨1, some 3, none, true, some ⟨0, true, Counts.zero⟩, Counts.zero,
        some ⟨0, 0⟩⟩)
      (fun t => decide (t.read 0x2000 = 0 ∧ t.read 0x2007 = 10 ∧ t.list.chainOpen = false)) = true := by decide

theorem test_journal_poll_writes_the_head :
    after .journalPollExpiry ((live.writeBytes 0x3000 [1]).setJrn ⟨0, [live.recordNow .tally (some 3) (some 0) {} 50 zeroKey], 7, some 1⟩)
      (fun t => decide (t.read 0x3000 = 0 ∧ t.read 0x3001 = 7 ∧ t.read 0x3002 = 3 ∧ t.read 0x3006 = 7 ∧ t.read 0x300C = 50 ∧
        t.jrn.put = 1 ∧ t.jrn.gap = 0)) = true := by decide

theorem test_present_asks_the_table_port :
    after .present (took (desc 1 3 [2, 4, 0xDE, 0xAD, 0xBE, 0xEF])) (fun t => decide (t.tab.port = [.lookup])) = true := by decide

theorem test_present_refuses_a_closed_lane :
    after .present ((took (desc 1 3 [2, 4, 1, 2, 3, 4])).setLane 3 { openLane with mode := .base .closed })
      (fun t => decide (t.read 0x1007 = 1 ∧ t.read 0x1030 = 2 ∧ t.read 0x1031 = 2)) = true := by decide

theorem test_lookup_admits :
    after (.admissionLookup []) (atLookup keyA (storing entryA live))
      (fun t => decide ((t.hold 0).bind Hold.key = some keyA ∧ (t.zone 0).reserved = 1)) = true := by decide

theorem test_lookup_refuses_used :
    after (.admissionLookup []) (atLookup keyA ((storing { entryA with count := 1 } live).writeBytes 0x1000 [1]))
      (fun t => decide (t.hold 0 = none ∧ t.read 0x1030 = 2 ∧ t.read 0x1031 = Reason.code (some .used))) = true := by decide

theorem test_closing_commits_an_entry_hold :
    after (.closingOperation []) (atClosing 0 (holding 0 (holdA (.closing .commit)) (storing entryA live)))
      (fun t => decide (t.tab.memory.entryAt locA =
        some { entryA with state := .inside, count := 1, lastLane := some 0, lastTime := some 0 } ∧ t.hold 0 = none ∧
        t.zone 0 = ⟨0, 1, 0⟩)) = true := by decide

theorem test_manual_release :
    after .manualRelease (took (desc 2 3 [0])) (fun t => decide ((t.hold 3).isSome = true ∧ (t.zone 0).reserved = 1)) = true := by
  decide

theorem test_manual_escort :
    after .manualEscort (took (desc 2 3 [1])) (fun t => decide ((t.lane 3).token = some ⟨1, 0⟩)) = true := by decide

theorem test_lane_request_clamps :
    after .lane (took (desc 3 3 [0, 1, 0, 0, 0xFF, 0xFF, 0, 0, 0, 0, 0, 0, 0, 0, 1]))
      (fun t => decide ((t.lane 3).holdTime = 600 ∧ (t.lane 3).escortTime = 1 ∧ (t.lane 3).tier = 1 ∧ t.read 0x1007 = 1)) = true := by
  decide

theorem test_alert_take :
    after .alertTake ((took (desc 4 1 [0])).setLane 1 { openLane with alert := .pending })
      (fun t => decide ((t.lane 1).alert = .inService)) = true := by decide

theorem test_alert_clear :
    after .alertClear ((took (desc 4 1 [1])).setLane 1 { openLane with alert := .inService, overrun := true })
      (fun t => decide ((t.lane 1).alert = .idle ∧ (t.lane 1).overrun = false)) = true := by decide

theorem test_alert_enable_and_disable :
    after .alertEnable (took (desc 4 1 [2])) (fun t => (t.lane 1).alertOn) = true ∧
      after .alertDisable ((took (desc 4 1 [3])).setLane 1 { openLane with alertOn := true }) (fun t => !(t.lane 1).alertOn) = true := by
  decide

theorem test_alert_raise :
    after .alertRaise ((took (desc 4 1 [4])).setLane 1 { openLane with alertOn := true })
      (fun t => decide ((t.lane 1).alert = .pending ∧ t.jrn.queue.length = 1)) = true := by decide

/-- A LOAD of one record at 0x4000, ALONE, and that record: a PUT of the key. -/
def load1 : Desc := desc 16 0 [0, 0x40, 0, 0, 1, 0]
def put1 : List Byte := [1, 0, 1, 0, 0, 0, 0, 0, 1, 0, 0, 0, 0, 0, 0, 0] ++ keyABytes

theorem test_load_waits_for_the_port :
    after .load ((tookList load1).writeBytes 0x4000 put1)
      (fun t => decide (t.list.work = some ⟨load1, .loading 0 Counts.zero⟩)) = true := by decide

theorem test_batch_record_puts :
    after (.batchRecord []) (atList load1 (.loading 0 Counts.zero)
        (((storing entryA live).setTab { (storing entryA live).tab with memory := ⟨some ⟨12, 1, 0⟩, [], [], [], []⟩ }).writeBytes
          0x4000 put1))
      (fun t => decide ((t.tab.memory.entryAt locA).map Entry.key = some keyA)) = true := by decide

theorem test_revoke_asks_the_port :
    after .revoke (tookList (desc 17 0 (keyABytes ++ [1]))) (fun t => decide (t.list.work.map ListWork.phase = some .request)) = true := by
  decide

theorem test_restore_asks_the_port :
    after .restore (tookList (desc 17 0 (keyABytes ++ [2]))) (fun t => decide (t.list.work.map ListWork.phase = some .request)) = true := by
  decide

theorem test_mark_and_query_ask_the_port :
    after .mark (tookList (desc 18 0 keyABytes)) (fun t => decide (t.list.work.map ListWork.phase = some .request)) = true ∧
      after .query (tookList (desc 19 0 keyABytes)) (fun t => decide (t.list.work.map ListWork.phase = some .request)) = true := by
  decide

/-- 3.6, step 3: a REVOKE of the held key is stored in the hold, and the entry is not written. -/
theorem test_list_request_of_a_held_key :
    after (.listRequest []) (atList (desc 17 0 (keyABytes ++ [1])) .request (holding 2 (holdA .standing) (storing entryA live)))
      (fun t => decide ((t.hold 2).bind Hold.revoke = some .revoke ∧ t.tab.memory.entryAt locA = some entryA)) = true := by decide

/-- 3.6, steps 1 and 2: a later MARK replaces the pending mark. -/
theorem test_list_request_replaces_a_pending_mark :
    after (.listRequest []) (atList (desc 18 0 (keyABytes ++ [0, 9, 0, 0, 0x2A, 0x15, 0, 0])) .request
        (holding 2 { holdA .standing with mark := some ⟨true, 7, 5410⟩ } (storing entryA live)))
      (fun t => decide ((t.hold 2).bind Hold.mark = some ⟨false, 9, 5418⟩)) = true := by decide

theorem test_rebuild_starts_a_walk :
    after .rebuild ((storing entryA (tookList (desc 20 0 [])))) (fun t => decide (t.tab.filter = .rebuilding ∧ t.tab.walk = 0 ∧
      t.read 0x2007 = 4)) = true := by decide

theorem test_rebuild_walk_ends :
    after (.rebuildWalkBucket []) (live.setTab ⟨12, 1, tableWith entryA, [], [5], .rebuilding, 4095, []⟩)
      (fun t => decide (t.tab.filter = .valid ∧ t.tab.presence = [5])) = true := by decide

theorem test_zone_set_occupancy :
    after .zoneSetOccupancy (tookList (desc 21 0 [15, 0, 0, 0, 0xFF, 0xFF]))
      (fun t => decide ((t.zone 15).occupancy = 65535 ∧ t.read 0x2007 = 1)) = true := by decide

theorem test_zone_adjust_clamps :
    after .zoneAdjust (tookList (desc 21 0 [0, 1, 0, 0, 0xFF, 0xFF, 0xFF, 0xFF]))
      (fun t => decide ((t.zone 0).occupancy = 0 ∧ t.read 0x203D = 1)) = true := by decide

theorem test_zone_set_capacity :
    after .zoneSetCapacity (tookList (desc 21 0 [4, 2, 0, 0, 7])) (fun t => decide ((t.zone 4).capacity = 7)) = true := by decide

theorem test_monitor_request :
    after .monitor ((tookList (desc 22 0 [7, 1, 4, 0, 2, 7, 1, 3])).setZone 4 ⟨0, 1, 0⟩)
      (fun t => decide ((t.monitor 7).output = true ∧ (t.monitor 7).steadiness = 7)) = true := by decide

theorem test_profile_request :
    after .profile (tookList (desc 23 0 [31, 2, 0, 0, 1, 2, 3, 4, 5]))
      (fun t => decide (t.adm.profiles.get 31 = ⟨0x04030201, 5, false, true⟩)) = true := by decide

/-! ## The walks of chapters 6, 7 and 8 -/

def arms (a b : Bool) : Levels := ⟨a, b, false, false⟩

/-- 6.3, events 1, 6 and 8: the arm moves to P1; from P3 with turn +3 it completes; from P1 it jumps to P3. -/
theorem test_tracker_worked :
    after (.laneEvent 0 (arms true false) false) live (fun t => decide ((t.lane 0).tracker = ⟨.turning, 1, 1⟩)) = true ∧
      after (.laneEvent 0 (arms false false) false)
        ((holding 0 (holdA .standing) live).setLane 0 { openLane with tracker := ⟨.turning, 3, 3⟩, level := arms false true })
        (fun t => decide ((t.lane 0).tracker = ⟨.rest, 0, 0⟩ ∧ (t.hold 0).map Hold.phase = some (.closing .commit))) = true ∧
      after (.laneEvent 0 (arms false true) false)
        (live.setLane 0 { openLane with tracker := ⟨.turning, 1, 1⟩, level := arms true false })
        (fun t => decide ((t.lane 0).tracker = ⟨.fault, 3, 0⟩ ∧ t.jrn.queue.map Record.detail = [0x01010301])) = true := by decide

/-- 6.2: a third sample in a row changes the level. -/
theorem test_conditioning :
    after (.laneEvent 0 ⟨false, false, true, false⟩ true)
      (live.setLane 0 { openLane with period := .ms4, agree := ⟨0, 0, 2, 0⟩ }) (fun t => (t.lane 0).level.beam) = true ∧
      after (.laneEvent 0 ⟨false, false, true, false⟩ true)
        (live.setLane 0 { openLane with period := .ms4, agree := ⟨0, 0, 1, 0⟩ })
        (fun t => decide ((t.lane 0).level.beam = false ∧ (t.lane 0).agree.beam = 2)) = true := by decide

/-- 6.2: a forward turn with a BEAM rise and a FIRE rise in one event. A MANUAL hold is committed with its beam seen and is gone when
FIRE acts; a CREDENTIAL hold is CLOSING with outcome COMMIT, and FIRE leaves it so. -/
def turnDone (h : Hold) : State :=
  (holding 0 h live).setLane 0 { openLane with tracker := ⟨.turning, 3, 3⟩, level := arms false true }

theorem test_event_order_worked :
    after (.laneEvent 0 ⟨false, false, true, true⟩ false) (turnDone { holdA .standing with kind := .manual })
      (fun t => decide (t.jrn.queue.map (fun r => (r.kind, r.flags.beamUnseen)) = [(.manualPassage, false), (.mode, false)] ∧
        t.hold 0 = none ∧ (t.lane 0).mode = .emergency ∧ (t.lane 0).afterEmergency = some .opened)) = true ∧
      after (.laneEvent 0 ⟨false, false, true, true⟩ false) (turnDone (holdA .standing))
        (fun t => decide (t.jrn.queue.map Record.kind = [.mode] ∧ t.tab.port = [.closing 0] ∧
          t.hold 0 = some { holdA (.closing .commit) with beamSeen := true } ∧ (t.lane 0).mode = .emergency)) = true := by decide

/-- 6.2, 6.4: a turn completed as FIRE falls is a free passage, counted before the tally is reported; and a jump with a FIRE rise
cancels the hold for FAULT. -/
theorem test_event_order_of_fire :
    after (.laneEvent 0 ⟨false, false, false, false⟩ false)
      (live.setLane 0 { openLane with
        tracker := ⟨.turning, 3, 3⟩, level := ⟨false, true, false, true⟩, mode := .emergency, afterEmergency := some .closed, tally := 3 })
      (fun t => decide (t.jrn.queue.map Record.detail = [0x00000104, 0xFF010103] ∧ (t.lane 0).mode = .base .closed)) = true ∧
      after (.laneEvent 0 ⟨true, true, true, true⟩ false) (holding 0 { holdA .standing with kind := .manual } live)
        (fun t => decide (t.jrn.queue.map (fun r => (r.kind, r.detail)) =
          [(.fault, 0x00000200), (.cancelled, 0x00000002), (.mode, 0xFF000300)])) = true := by decide

/-- 6.6, step 2: FIRE with a pending mode FREE cancels the hold and keeps FREE for after the emergency. -/
theorem test_fire_worked :
    after (.laneEvent 0 ⟨false, false, false, true⟩ false)
      ((holding 0 { holdA .standing with kind := .manual } live).setLane 0 { openLane with pendingMode := some .free })
      (fun t => decide ((t.lane 0).mode = .emergency ∧ (t.lane 0).pendingMode = none ∧ (t.lane 0).afterEmergency = some .free ∧
        t.hold 0 = none ∧ t.jrn.queue.map Record.kind = [.mode, .cancelled]) && !t.release 0 && t.freewheel 0) = true := by decide

/-- 6.6, step 5: FIRE falls with a tally of 3 and CLOSED kept. -/
theorem test_fire_clear_worked :
    after (.laneEvent 0 ⟨false, false, false, false⟩ false)
      (live.setLane 0 { openLane with mode := .emergency, afterEmergency := some .closed, tally := 3, level := ⟨false, false, false, true⟩ })
      (fun t => decide ((t.lane 0).mode = .base .closed ∧ (t.lane 0).tally = 0 ∧ t.jrn.queue.map Record.kind = [.tally, .mode] ∧
        t.jrn.queue.map Record.detail = [0x00000103, 0xFF010103])) = true := by decide

/-- 5.6, 6.4: a removal takes the lane from FREE with a tally of 2 to CLOSED; and a STOP, which makes no MODE record, does the same. -/
def leavingFree : State :=
  (holding 0 { holdA (.closing .commit) with kind := .manual } live).setLane 0
    { openLane with mode := .base .free, tally := 2, pendingMode := some .closed }

theorem test_removal_reports_the_tally :
    ((removeHold 0 true leavingFree).jrn.queue.map Record.detail = [0x00000102, 0xFF040102]) ∧
      after (.stop .idle) leavingFree
        (fun t => decide (t.jrn.queue.map Record.detail = [0x00000102] ∧ (t.lane 0).mode = .base .closed ∧ (t.lane 0).tally = 0)) =
        true := by decide

/-- 7.3, the walk: ARM_A HIGH and ARM_B HIGH in mode ALL match at events 2 and 5 alone. -/
def bothHigh : WatchSpec := ⟨#v[.high, .high, .ignore, .ignore, .ignore, .ignore], .all, false⟩
def armTerms (a b beam : Bool) : Terms := ⟨a, b, beam, false, false, false⟩

theorem test_watch_worked :
    bothHigh.matched (armTerms false false false) (armTerms true false false) = false ∧
      bothHigh.matched (armTerms true false false) (armTerms true true false) = true ∧
      bothHigh.newly (armTerms true false false) (armTerms true true false) = [1] ∧
      bothHigh.matched (armTerms true true false) (armTerms true true true) = false ∧
      bothHigh.matched (armTerms true true true) (armTerms false true true) = false ∧
      bothHigh.matched (armTerms false true true) (armTerms true true true) = true ∧
      bothHigh.newly (armTerms false true true) (armTerms true true true) = [0] := by decide

/-- 8.3, a filling stand: the outputs and counts of its two monitors at steps 1 to 9. -/
def stand0 : Monitor := ⟨true, 4, .level, 11990, 0, 0, .rise, 2, true, .closeEntry, false, 0⟩
def stand1 : Monitor := ⟨true, 4, .level, 11900, 0, 0, .fall, 0, false, .openEntry, true, 0⟩
def standSteps : List Nat := [11990, 11991, 11990, 11991, 11992, 11993, 11893, 11894, 11895]

theorem test_monitor_0_worked :
    (standSteps.take 3).foldl Monitor.evaluate stand0 = stand0 ∧
      (standSteps.take 5).foldl Monitor.evaluate stand0 = { stand0 with count := 2 } ∧
      (standSteps.take 6).foldl Monitor.evaluate stand0 = { stand0 with output := true } ∧
      (standSteps.take 8).foldl Monitor.evaluate stand0 = { stand0 with output := true, count := 2 } ∧
      standSteps.foldl Monitor.evaluate stand0 = stand0 := by
  decide

theorem test_monitor_1_worked :
    (standSteps.take 6).foldl Monitor.evaluate stand1 = stand1 ∧
      standSteps.foldl Monitor.evaluate stand1 = { stand1 with output := false } := by decide

/-- 8.3, step 6: the records of the commit at lane 1 that closes the stand, in their order. -/
def standHold : Hold := ⟨.manual, .entry, 4, .standing, 50, 0, 50, 0, 0, true, none, none⟩
def stand : State :=
  (((live.setZone 4 ⟨0, 11992, 1⟩).setMonitor 0 { stand0 with count := 2 }).setMonitor 1 stand1).setLane 2
    { openLane with zone := 4 }
def standAtLane1 : State :=
  (stand.setLane 1 { openLane with zone := 4, tracker := ⟨.turning, 3, 3⟩, level := arms false true }).setHold 1 (some standHold)

theorem test_stand_closes_worked :
    after (.laneEvent 1 (arms false false) false) standAtLane1
      (fun t => decide (t.jrn.queue.map (fun r => (r.kind, r.lane)) =
          [(.monitor, none), (.mode, some 2), (.manualPassage, some 1), (.mode, some 1)] ∧
        (t.lane 1).mode = .base .closed ∧ (t.lane 2).mode = .base .closed ∧ t.hold 1 = none)) = true := by decide +kernel

/-! ## Witnesses: states that meet the hypotheses of the statements -/

/-- IdleStepIsOneMillisecond: an empty queue, in reset and out of it, before and at the thousandth, and at the last second. -/
theorem witness_idle_step :
    live.pending = [] ∧ live.ctl.resetActive = false ∧ live.clk.valid = false ∧
      (live.setClk ⟨7, true, 998⟩).clk.ms + 1 < 1000 ∧ ¬(live.setClk ⟨7, true, 999⟩).clk.ms + 1 < 1000 ∧
      (live.setClk ⟨0x7FFFFFFF, true, 999⟩).clk.value = 0x7FFFFFFF ∧
      (live.setCtl { live.ctl with resetActive := true }).pending = [] ∧
      (live.setCtl { live.ctl with resetActive := true }).ctl.resetActive = true := by decide

/-- CommandsKeepTheQueue: a command that answers a next state beside a queue. -/
theorem witness_commands_keep_the_queue :
    ∃ t, exec (.clockWrite 15 1) (live.setPending [.run]) = .next t ∧ t.pending = [.run] := ⟨_, rfl, rfl⟩

/-- A running part: a held entry whose lane has a pending mode, a zone at its limits, an arm at P3, a lane in EMERGENCY, a
disabled lane, a monitor one evaluation short of its steadiness, a full holding queue and a gap count at its limit. -/
def turningLane : Lane := { openLane with tracker := ⟨.turning, 3, 3⟩, level := arms false true }
def fireLane : Lane := { openLane with mode := .emergency, afterEmergency := some .opened, level := ⟨false, false, false, true⟩ }
def richLanes : Vector Lane 8 :=
  #v[{ openLane with pendingMode := some .free }, turningLane, fireLane, Lane.powerOn, openLane, openLane, openLane, openLane]
def rich : State :=
  { storing entryA live with
    xmem := [(0x1000, 1), (0x3FFFF, 255)]
    holds := #v[some (holdA .standing), none, none, none, none, none, none, none]
    lanes := richLanes
    zones := Vector.ofFn (fun z : Fin 16 => if z = 0 then ⟨65535, 65535, 1⟩ else ⟨0, 0, 0⟩)
    monitors := Vector.replicate 8 ⟨true, 0, .window, 65535, 0, 65535, .both, 7, true, .none, false, 7⟩
    jrn := ⟨7, List.replicate 32 (live.recordNow .tally none none {} 0 zeroKey), 65535, some 1⟩ }

theorem rich_steps : ∃ t, step rich = .next t := ⟨_, rfl⟩

theorem rich_memory_wf : Memory.wf rich.xmem := by decide

theorem rich_journal_bounded : rich.jrn.Bounded := by unfold Journal.Bounded; decide

theorem rich_zones_bounded : rich.ZonesBounded := by unfold State.ZonesBounded; decide

theorem rich_monitors_sound : rich.MonitorsSound := by unfold State.MonitorsSound Monitor.Sound; decide

theorem rich_trackers_sound : rich.TrackersSound := by
  intro i
  refine ⟨?_, by revert i; decide⟩
  revert i
  show ∀ i : Fin 8, _
  intro i
  fin_cases i <;> simp [Tracker.Sound, rich, State.lane, richLanes, turningLane, fireLane, openLane, Lane.powerOn, Tracker.atRest]

theorem rich_modes_sound : rich.ModesSound := by unfold State.ModesSound; decide

theorem rich_hold {i : LaneId} {h : Hold} (hh : rich.hold i = some h) : i = 0 ∧ h = holdA .standing := by
  fin_cases i <;> simp [rich, State.hold] at hh ⊢
  exact hh.symm

theorem rich_holds_placed : rich.HoldsPlaced := by
  intro i h hh
  obtain ⟨rfl, rfl⟩ := rich_hold hh
  decide

theorem rich_holds_distinct : rich.HoldsDistinct := by
  have key : ∀ i k, (rich.hold i).bind Hold.key = some k → i = 0 := by
    intro i k h
    cases hh : rich.hold i with
    | none => simp [hh] at h
    | some x => exact (rich_hold hh).1
  intro i j k hi hj
  rw [key i k hi, key j k hj]

theorem rich_reserved_counts : rich.ReservedCounts := by unfold State.ReservedCounts; decide

/-- Every entry of the table is the one stored. -/
theorem stores_iff (e e' : Entry) (b : Nat) : (tableWith e).Stores b e' ↔ b = bucketA ∧ e' = e := by
  have hb : ∀ b, (tableWith e).bucket b = if b = bucketA then ⟨#v[some e, none, none, none], []⟩ else Bucket.empty := by
    intro b
    by_cases h : b = bucketA
    · subst h; simp [tableWith, TableMemory.bucket, sparseGet]
    · have h' : bucketA ≠ b := fun x => h x.symm
      by_cases hlt : b < bucketA <;> simp [tableWith, TableMemory.bucket, sparseGet, h, h']
  unfold TableMemory.Stores
  rw [hb]
  by_cases h : b = bucketA <;> simp [h, Bucket.entries, Bucket.empty]

theorem storing_table_sound (e : Entry) : (tableWith e).Sound := by
  refine ⟨?_, ?_⟩
  · constructor <;> simp [tableWith, Bucket.empty]
    intro h
    simpa [List.replicate] using congrArg Array.toList h
  · intro m hm
    simp only [tableWith, Option.some.injEq] at hm
    subst hm
    refine ⟨?_, ?_, rfl⟩
    · simp only [tableWith, List.mem_singleton, forall_eq]; decide
    · simp [tableWith, TableMemory.chainPlaces]

theorem rich_table_sound : rich.TableSound :=
  ⟨storing_table_sound entryA, fun _ => rfl, fun _ => ⟨⟨12, 1, 0⟩, rfl, rfl, rfl⟩⟩

theorem rich_keys_placed : rich.KeysPlaced := by
  intro m hm b
  have hm' : m = ⟨12, 1, 0⟩ := (Option.some.inj hm).symm
  subst hm'
  refine ⟨fun e he => ?_, ?_⟩
  · obtain ⟨rfl, rfl⟩ := (stores_iff entryA e b).1 he
    rfl
  · have hs := stores_iff entryA
    unfold TableMemory.Stores at hs
    have : (rich.tab.memory.bucket b).entries = if b = bucketA then [entryA] else [] := by
      by_cases h : b = bucketA
      · subst h; rw [if_pos rfl]; decide
      · rw [if_neg h, List.eq_nil_iff_forall_not_mem]
        intro x hx
        exact h ((hs x b).1 hx).1
    rw [this]
    by_cases h : b = bucketA <;> simp [h]

theorem rich_held_entries : rich.HeldEntries := by
  intro i h key loc tier hh hk
  obtain ⟨rfl, rfl⟩ := rich_hold hh
  simp only [holdA, HoldKind.credential.injEq] at hk
  obtain ⟨rfl, rfl, -⟩ := hk
  exact ⟨entryA, by decide, rfl⟩

theorem rich_filter_sound : rich.FilterSound := by
  refine ⟨fun _ b e he => ?_, fun h => by simp [rich, storing, State.setTab] at h⟩
  obtain ⟨-, rfl⟩ := (stores_iff entryA e b).1 he
  decide

/-- SafeStatesNeverStop: a safe state with a held entry. -/
theorem witness_safe : rich.Safe :=
  ⟨rich_table_sound, rich_keys_placed, rich_holds_placed, rich_holds_distinct, rich_held_entries⟩

/-- FilterNeverMissesAStoredKey, while REBUILDING: a walk that has passed the bucket of the stored key. -/
theorem witness_rebuilding_filter_sound :
    (live.setTab ⟨12, 1, tableWith entryA, [], [filterIndex keyA], .rebuilding, bucketA + 1, []⟩).FilterSound := by
  refine ⟨fun h => by simp [State.setTab] at h, fun _ => ⟨rfl, fun b e he _ => ?_⟩⟩
  obtain ⟨-, rfl⟩ := (stores_iff entryA e b).1 he
  exact List.mem_singleton.2 rfl

/-- The packing statements: digit counts 6 and 28, and each UID length, with their boundary digits and bytes. -/
theorem witness_packing :
    (6 ≤ [0, 1, 2, 3, 4, 9].length ∧ ∀ d ∈ [0, 1, 2, 3, 4, 9], d ≤ 9) ∧
      ((List.replicate 28 9).length ≤ 28 ∧ ∀ d ∈ List.replicate 28 9, d ≤ 9) ∧
      ([0, 0, 0, 255] : List Byte).length = 4 ∧ uid7.length = 7 ∧ (List.replicate 10 (255 : Byte)).length = 10 := by decide

/-- KeysKeepCredentialsApart: digits that differ in count, UIDs that differ in length, and an undamaged table with its key. -/
theorem witness_apart :
    [0, 0, 0, 0, 0, 0].length ≠ [0, 0, 0, 0, 0, 0, 0].length ∧ ([0, 0, 0, 0] : List Byte).length ≠ uid7.length ∧
      (tableWith entryA).damaged = [] ∧ (tableWith entryA).lookup bucketA keyA ≠ .absent := by decide

/-- TermSatisfaction: a term that does not change, and one newly satisfied. -/
theorem witness_terms :
    (armTerms true false false).val 1 = (armTerms false false false).val 1 ∧
      (0 : Fin 6) ∈ bothHigh.newly (armTerms false false false) (armTerms true false false) := by decide

/-- WatchMatch: a match in ALL and in ANY mode, and a specification of IGNORE terms alone. -/
theorem witness_watch :
    bothHigh.mode = .all ∧ bothHigh.matched (armTerms true false false) (armTerms true true false) = true ∧
      { bothHigh with mode := .any }.matched (armTerms false false false) (armTerms true false false) = true ∧
      { bothHigh with mode := .any }.mode ≠ .all ∧ ∀ t, WatchSpec.powerOn.terms.get t = .ignore := by decide

/-- MonitorRawResult: each mode at the boundary settings, with its occupancies up to 65,535. -/
theorem witness_monitor_raw :
    ({ Monitor.powerOn with level := 65535 }.mode = .level ∧ ({ Monitor.powerOn with level := 65535 }.level = 65535)) ∧
      ({ Monitor.powerOn with level := 65534 }).raw 65535 = true ∧
      (({ Monitor.powerOn with mode := .window, low := 4, high := 5 }).high ≤ 4 + 1) ∧
      ({ Monitor.powerOn with mode := .window, high := 65535 }).raw 1 = true ∧
      ({ Monitor.powerOn with mode := .window, high := 65535 }).raw 65535 = false ∧
      ({ Monitor.powerOn with mode := .window, low := 4, high := 5 }).output = false := by decide

/-- MonitorSteadiness: two and three occupancies that disagree with the output of the stand's monitor, and one that agrees. -/
theorem witness_steadiness :
    stand0.count = 0 ∧ (∀ n ∈ [11991, 12000, 65535], stand0.raw n = !stand0.output) ∧ [11991, 12000].length ≤ stand0.steadiness ∧
      [11991, 12000, 65535].length = stand0.steadiness + 1 ∧ stand0.raw 11990 = stand0.output := by decide

/-- OccupancyChangeEvaluatesMonitors: an occupancy as it stands, and one that changes, with a monitor of the zone and one of not. -/
theorem witness_occupancy_change :
    (stand.zone 4).occupancy = 11992 ∧ (stand.zone 4).occupancy ≠ 11993 ∧ (stand.monitor 0).enable = true ∧
      (stand.monitor 0).zone = 4 ∧ (stand.monitor 2).enable = false := by decide

/-- OccupancyChangeEvaluatesMonitors, an event: a change of output that the edge selects, at a monitor with a record and a link, and a
lane that the link names beside lanes that it does not. -/
theorem witness_monitor_event :
    (stand.monitor 0).evaluate 11993 = { stand0 with output := true } ∧ (stand.monitor 0).output = false ∧
      (stand.monitor 0).edge = .rise ∧ (stand.monitor 0).recordOn = true ∧ (stand.monitor 0).link = .closeEntry ∧
      ((stand.lane 2).zone = 4 ∧ (stand.lane 2).direction = .entry) ∧ (stand.lane 0).zone ≠ 4 ∧
      (setOccupancy 4 11993 stand).lane 0 = stand.lane 0 ∧ ((setOccupancy 4 11993 stand).lane 2).mode = .base .closed := by
  decide +kernel

/-- ReturnOfADescriptor: a reply that fills the result area and the payload's end, at a descriptor of the part and at one taken back. -/
def fullReply : Reply := ⟨.done, List.replicate 16 7, [(0, [1, 2, 3]), (3, [4]), (36, [5, 6, 7, 8])]⟩

theorem witness_return :
    Memory.wf (live.writeBytes 0x1000 [1]).xmem ∧ (live.writeBytes 0x1000 [1]).read 0x1000 = 1 ∧ live.read 0x1000 ≠ 1 ∧
      fullReply.result.length ≤ 16 ∧ (∀ w ∈ fullReply.overlay, w.1 + w.2.length ≤ 40) ∧
      fullReply.overlay.Pairwise (fun v w => v.1 + v.2.length ≤ w.1) := by decide

/-- The gate ring polled at its last position, with the first bytes of the descriptor there. -/
def polled (bs : List Byte) : State := (live.writeBytes 0x11C0 bs).setGate ⟨7, some 0, none⟩
def polledList (bs : List Byte) (kept : Option Kept) : State :=
  (live.writeBytes 0x21C0 bs).setList ⟨7, some 0, none, kept.isSome, kept, Counts.zero, none⟩

/-- RequestRingExaminations, at the gate ring: the part RUNNING with no descriptor in progress, and the descriptors of its five
clauses, the kinds at the ends of their ranges. -/
theorem witness_gate_examination :
    (∀ bs ∈ [[0, 0, 0, 1], [1, 0, 0, 1], [1, 1, 0, 4], [1, 0, 3, 1], [1, 0, 0, 16], [1, 0, 255, 23], [1, 0, 0, 0], [1, 0, 0, 15],
        [1, 0, 0, 24]], (polled bs).ctl.part = .running ∧ (polled bs).ctl.resetActive = false ∧ (polled bs).cfg.gate = some ring ∧
      (polled bs).gate.work = none ∧ (polled bs).gate.poll.isSome = true ∧ (polled bs).gate.take < 2 ^ ring.exp ∧
      Memory.wf (polled bs).xmem) ∧
      (polled [0, 0, 0, 1]).read 0x11C0 ≠ 1 ∧
      ((polled [1, 1, 0, 4]).read 0x11C0 = 1 ∧ (polled [1, 1, 0, 4]).read 0x11C2 = 0 ∧ (polled [1, 1, 0, 4]).read 0x11C3 = 4) ∧
      ((polled [1, 0, 3, 1]).read 0x11C2 ≠ 0 ∧ (polled [1, 0, 3, 1]).read 0x11C3 = 1) ∧
      (polled [1, 0, 0, 16]).read 0x11C3 = 16 ∧ (polled [1, 0, 255, 23]).read 0x11C3 = 23 ∧ (polled [1, 0, 0, 15]).read 0x11C3 = 15 ∧
      (polled [1, 0, 0, 24]).read 0x11C3 = 24 := by decide

/-- RequestRingExaminations: the same at the list ring, beside a kept descriptor and with none. -/
theorem witness_list_examination :
    (∀ bs ∈ [[0, 0, 0, 16], [1, 0, 3, 16], [1, 0, 0, 23], [1, 0, 1, 17], [1, 0, 0, 4], [1, 0, 0, 0], [1, 0, 0, 24]],
      ∀ k ∈ [none, some ⟨6, true, Counts.zero⟩],
        (polledList bs k).ctl.part = .running ∧ (polledList bs k).ctl.resetActive = false ∧
          (polledList bs k).cfg.list = some listRing ∧ (polledList bs k).list.work = none ∧
          (polledList bs k).list.poll.isSome = true ∧ (polledList bs k).list.take < 2 ^ listRing.exp ∧
          Memory.wf (polledList bs k).xmem) ∧
      (polledList [0, 0, 0, 16] none).read 0x21C0 ≠ 1 ∧
      ((polledList [1, 0, 3, 16] none).read 0x21C0 = 1 ∧ (polledList [1, 0, 3, 16] none).read 0x21C3 = 16) ∧
      ((polledList [1, 0, 0, 23] none).read 0x21C3 = 23 ∧ (polledList [1, 0, 0, 23] none).read 0x21C2 = 0) ∧
      ((polledList [1, 0, 1, 17] none).read 0x21C3 = 17 ∧ (polledList [1, 0, 1, 17] none).read 0x21C2 ≠ 0) ∧
      (polledList [1, 0, 0, 4] none).read 0x21C3 = 4 ∧ (polledList [1, 0, 0, 24] none).read 0x21C3 = 24 := by decide

/-- RecordsAreQueuedWrittenOrCounted: the queue at 32 and 31 records, empty beside a slot lent and one not, and the part HALTED; the
gap count at its limit. -/
def oneRecord : Record := live.recordNow .tally none none {} 0 zeroKey
def queued (n gap : Nat) : State := live.setJrn ⟨0, List.replicate n oneRecord, gap, none⟩

theorem witness_records :
    Memory.wf (queued 32 65535).xmem ∧ 32 ≤ (queued 32 65535).jrn.queue.length ∧ (queued 32 65534).jrn.gap < 65535 ∧
      ¬(queued 32 65535).jrn.gap < 65535 ∧ (queued 31 0).jrn.queue.length < 32 ∧ (queued 31 0).jrn.queue ≠ [] ∧
      State.reset.ctl.part ≠ .running ∧ State.reset.cfg.journal = none ∧ (queued 0 65535).jrn.queue = [] ∧
      (queued 0 65535).ctl.part = .running ∧ (queued 0 65535).cfg.journal = some journalRing ∧ (queued 0 0).read 0x3000 ≠ 1 ∧
      ((queued 0 65535).writeBytes 0x3000 [1]).read 0x3000 = 1 ∧ Memory.wf ((queued 0 65535).writeBytes 0x3000 [1]).xmem := by
  decide

/-- JournalExamination: a slot not lent, and a lent one, with one record and with two. -/
def starved (n : Nat) : State := live.setJrn ⟨7, List.replicate n oneRecord, 3, some 0⟩

theorem witness_journal_examination :
    (starved 1).jrn.queue = oneRecord :: [] ∧ (starved 2).jrn.queue = oneRecord :: [oneRecord] ∧ (starved 1).ctl.part = .running ∧
      (starved 1).ctl.resetActive = false ∧ (starved 1).cfg.journal = some journalRing ∧ (starved 1).jrn.poll.isSome = true ∧
      (starved 1).read 0x30E0 ≠ 1 ∧ ((starved 1).writeBytes 0x30E0 [1]).read 0x30E0 = 1 ∧ Memory.wf (starved 1).xmem ∧
      Memory.wf ((starved 1).writeBytes 0x30E0 [1]).xmem := by decide

/-- BatchRecordsAndCounts: a DROP, a PUT with every field at the end of its range, and records malformed in one field alone; and counts
at and past the ends of their fields. -/
def recordBytes (action flags tier profile returns : Byte) (key : List Byte) : List Byte :=
  [action, flags, tier, profile, returns, 0, 0x34, 0x12, 0xFF, 0, 0, 0x80, 0, 0, 0, 0] ++ key

theorem witness_batch_record_fields :
    parseRecord (recordBytes 2 0 9 99 99 keyABytes) = some (.drop keyA) ∧
      parseRecord (recordBytes 1 1 3 31 15 keyABytes) = some (.put keyA ⟨true, 3, 31, 15, 0x1234, 0x800000FF⟩) ∧
      (∀ bs ∈ [recordBytes 0 0 0 0 0 keyABytes, recordBytes 3 0 0 0 0 keyABytes, recordBytes 1 0 4 0 0 keyABytes,
        recordBytes 1 0 0 32 0 keyABytes, recordBytes 1 0 0 0 16 keyABytes, recordBytes 1 0 0 0 0 (keyABytes.set 1 5),
        recordBytes 2 0 0 0 0 (keyABytes.set 0 3)], parseRecord bs = none) := by decide

theorem witness_counts :
    (⟨65535, 65536, 1, 2, 3, 4, 5⟩ : Counts).resultBytes = [0xFF, 0xFF, 0, 0, 1, 0, 2, 0, 3, 0, 4, 0, 5, 0] ∧
      ((⟨1, 0, 0, 0, 0, 0, 1024⟩ : Counts).addTo ⟨4294967295, 7, 0, 0, 0, 0, 4294966272⟩) =
        ⟨4294967295, 7, 0, 0, 0, 0, 4294967295⟩ := by decide

/-- IdleStepIsOneMillisecond, the countdowns: a release timer and an escort token at their last milliseconds, a sample instant, one
millisecond before one, poll timers at 1 and at 2, a chain wait at its last millisecond, and a record waiting. -/
def idling (gatePoll listPoll : Nat) (wait : Option Countdown) : State :=
  ((((((holding 7 { holdA .standing with remaining := 1, ms := 99 } live).setLane 6
      { openLane with token := some ⟨1, 999⟩, period := .ms4, sampleMs := 3 }).setLane 5
      { openLane with token := some ⟨2, 999⟩, period := .ms4, sampleMs := 2 }).setGate ⟨7, some gatePoll, none⟩).setList
      { live.list with poll := some listPoll, wait := wait }).setJrn ⟨7, [oneRecord], 0, some gatePoll⟩)

def afterStep (s : State) (p : State → Bool) : Bool :=
  match step s with
  | .next t => p t
  | _ => false

theorem witness_idle_countdowns :
    afterStep (idling 1 2 (some ⟨1, 99⟩)) (fun t => decide (t.hold 7 = none ∧ (t.lane 6).token = none ∧ (t.lane 6).sampleMs = 0 ∧
        (t.lane 5).token = some ⟨1, 0⟩ ∧ (t.lane 5).sampleMs = 3 ∧ t.gate = ⟨7, some 10, none⟩ ∧ t.list.poll = some 10 ∧
        t.list.wait = none ∧ t.jrn.poll = some 10)) = true ∧
      afterStep (idling 2 1 none) (fun t => decide (t.gate = ⟨7, some 1, none⟩ ∧ t.list.poll = some 10 ∧ t.jrn.poll = some 1)) = true ∧
      afterStep (idling 2 1 (some ⟨2, 3⟩)) (fun t => decide (t.list.poll = some 10 ∧ t.list.wait = some ⟨2, 4⟩)) = true ∧
      afterStep (idling 2 1 (some ⟨1, 99⟩)) (fun t => decide (t.list.wait = none)) = true ∧
      (idling 2 2 none).list.wait = none ∧ (idling 1 1 none).jrn.queue ≠ [] ∧ live.jrn.poll = none ∧
      (idling 1 1 none).ctl.resetActive = false ∧ (idling 1 1 none).pending = [] := by decide +kernel

/-- IdleStepIsOneMillisecond, the timers that start in the millisecond keep their full time: the poll timer that a record made in it
loads, the chain wait that an examination in it starts, and a release timer that a sample in it reloads. -/
def starting : State :=
  ((((holding 7 { holdA .standing with kind := .manual, remaining := 1, ms := 99 } live).setHold 6
    (some { holdA .standing with remaining := 3, ms := 50 })).setLane 6
    { openLane with
      period := .ms1, agree := ⟨0, 0, 2, 0⟩, pins := ⟨false, false, true, false⟩, retrigger := true })).setList
    { live.list with poll := some 1, chainOpen := true, kept := some ⟨7, true, Counts.zero⟩ }

theorem test_timers_start_whole :
    afterStep starting (fun t => decide (t.hold 7 = none ∧ t.jrn.poll = some 10 ∧ t.list.wait = some ⟨5, 0⟩ ∧
      t.hold 6 = some { holdA .standing with beamSeen := true, reloads := 1 })) = true := by decide +kernel

/-- LookupFindsTheStoredEntry: a table with the key in a main slot, one with the key in a chain, and an absent key. -/
def chained : TableMemory :=
  ⟨some ⟨12, 1, 0⟩, [(bucketA, ⟨Vector.replicate 4 (some { entryA with key := zeroKey }), [(1023, entryA)]⟩)], List.range 1023, [], []⟩

def hurt (w : TableWord) (t : TableMemory) : TableMemory := { t with damaged := [w] }

theorem witness_lookup :
    (tableWith entryA).lookup bucketA keyA = .found locA entryA ∧
      chained.lookup bucketA keyA = .found (.overflow bucketA 1023) entryA ∧
      ((chained.bucket bucketA).chain.map Prod.fst).Nodup ∧ (tableWith entryA).lookup 0 keyA = .absent := by decide

/-- LookupFindsTheStoredEntry, the reads that fail: a walk comes to a damaged first slot, a damaged chain head and the damaged place of
its key; and a word behind the key fails no lookup of it. -/
theorem witness_lookup_fails :
    chained.Reaches bucketA keyA (.slot bucketA 0) (some { entryA with key := zeroKey }) ∧
      chained.Reaches bucketA keyA (.head bucketA) none ∧ chained.Reaches bucketA keyA (.place 1023) (some entryA) ∧
      (∀ w ∈ [TableWord.slot bucketA 0, .head bucketA, .place 1023], (hurt w chained).lookup bucketA keyA = .failed) ∧
      (hurt (.slot bucketA 1) (tableWith entryA)).lookup bucketA keyA = .found locA entryA := by
  have other : zeroKey ≠ keyA := by decide
  refine ⟨⟨[], _, rfl, by simp⟩, ⟨(chained.reads bucketA).take 4, (chained.reads bucketA).drop 5, by decide, ?_⟩,
    ⟨(chained.reads bucketA).take 5, [], by decide, ?_⟩, by decide, by decide⟩ <;>
  · have reads : chained.reads bucketA =
        [(.slot bucketA 0, some { entryA with key := zeroKey }), (.slot bucketA 1, some { entryA with key := zeroKey }),
          (.slot bucketA 2, some { entryA with key := zeroKey }), (.slot bucketA 3, some { entryA with key := zeroKey }),
          (.head bucketA, none), (.place 1023, some entryA)] := by decide
    rw [reads]
    simpa using fun h => other h

/-- InsertAndDropMoveOnePlace: a bucket whose first, second and last slot is the first that is empty, and a full one beside an empty
and a non-empty free list. -/
def slots (n : Nat) : TableMemory :=
  ⟨none, [(5, ⟨Vector.ofFn (fun i : Fin 4 => if i.val < n then some entryA else none), [(3, entryA)]⟩)], [9, 8], [], []⟩

theorem witness_insert_and_drop :
    (∀ n ∈ [0, 1, 3, 4], sparseWf Bucket.empty (slots n).buckets) ∧
      (∀ n : Fin 4, ((slots n.val).bucket 5).slots.get n = none ∧ ∀ j, j < n → ((slots n.val).bucket 5).slots.get j ≠ none) ∧
      (∀ i, ((slots 4).bucket 5).slots.get i ≠ none) ∧ (slots 4).free = 9 :: [8] ∧ { slots 4 with free := [] }.free = [] ∧
      (slots 1).entryAt (.main 5 0) ≠ none ∧ (slots 1).entryAt (.overflow 5 3) ≠ none ∧
      TableWord.freeHead ∉ (slots 4).damaged ∧ TableWord.place 9 ∉ (slots 4).damaged := by
  decide

/-- InsertAndDropMoveOnePlace, the reads that fail: a damaged free list head, with places and with none, and a damaged first place. -/
theorem witness_insert_and_drop_fail :
    (hurt .freeHead (slots 4)).insert 5 entryA = .failed ∧ { hurt .freeHead (slots 4) with free := [] }.insert 5 entryA = .failed ∧
      (hurt (.place 9) (slots 4)).insert 5 entryA = .failed ∧ (hurt (.place 8) (slots 4)).insert 5 entryA ≠ .failed ∧
      (hurt .freeHead (slots 3)).insert 5 entryA ≠ .failed ∧ (hurt .freeHead (slots 4)).drop (.overflow 5 3) = .failed ∧
      (hurt (.place 3) (slots 4)).drop (.overflow 5 3) ≠ .failed := by decide

/-- StopHaltsThePart: the four part states, a setup with its block and without it, and holds with a pending mode in EMERGENCY, with
one in another mode, and with none. -/
def inPart (p : PartState) (r : Option SetupRun) : State := live.setCtl { live.ctl with part := p, setupRun := r }
def stopping : State :=
  ((holding 0 (holdA .standing) live).setLane 0 { openLane with pendingMode := some .closed }).setHold 1 (some (holdA .standing))
def stoppingEmergency : State :=
  (holding 0 (holdA .standing) live).setLane 0
    { openLane with pendingMode := some .closed, mode := .emergency, afterEmergency := some .opened }

theorem witness_stop :
    live.ctl.resetActive = false ∧ (inPart .halted none).ctl.part = .halted ∧ (inPart .standby none).ctl.part = .standby ∧
      ((inPart .settingUp (some ⟨0x4000, [], .checking⟩)).ctl.setupRun = some ⟨0x4000, [], .checking⟩ ∧
        Memory.wf (inPart .settingUp (some ⟨0x4000, [], .checking⟩)).xmem) ∧
      (inPart .settingUp none).ctl.setupRun = none ∧ stopping.ctl.part = .running ∧ stopping.hold 2 = none ∧
      stopping.hold 0 ≠ none ∧ (stopping.lane 0).pendingMode = some .closed ∧ (stopping.lane 0).mode ≠ .emergency ∧
      stopping.hold 1 ≠ none ∧ (stopping.lane 1).pendingMode = none ∧ (stoppingEmergency.lane 0).mode = .emergency ∧
      (stoppingEmergency.lane 0).pendingMode = some .closed ∧ stoppingEmergency.hold 0 ≠ none := by decide

/-- StopHaltsThePart, the TALLY records: one joins the queue, and beside a full queue it is counted; none is made in EMERGENCY or
where no pending mode leaves FREE. -/
theorem test_stop_makes_tally_records_alone :
    leavingFree.stopTallies.map Record.detail = [0x00000102] ∧ stopping.stopTallies = [] ∧ stoppingEmergency.stopTallies = [] ∧
      after (.stop .idle) (leavingFree.setJrn ⟨0, List.replicate 32 oneRecord, 7, none⟩)
        (fun t => decide (t.jrn = ⟨0, List.replicate 32 oneRecord, 8, none⟩ ∧ t.lane 0 = (leavingFree.lane 0).stopped)) = true := by
  decide

/-- StopHaltsThePart, what a STOP meets half done: a PROFILE taken for profiles 31 and 32, a batch record and a list request at the port
while a gate request waits, and a setup at its first stage. -/
def atPort (s : State) : State := s.setTab { s.tab with port := [.closing 0] }

theorem witness_stop_flights :
    (∀ p : Byte, (tookList (desc 23 0 [p, 3])).ListTook listRing .profile (desc 23 0 [p, 3]) ∧ (desc 23 0 [p, 3]).byte 0 = p) ∧
      (31 : Byte) = BitVec.ofNat 8 (31 : ProfileId).val ∧ 32 ≤ (32 : Byte).toNat ∧
      (atPort (atList load1 (.loading 0 Counts.zero) live)).list.work = some ⟨load1, .loading 0 Counts.zero⟩ ∧
      (atPort (atList (desc 19 0 []) .request live)).list.work = some ⟨desc 19 0 [], .request⟩ ∧
      (atPort live).tab.port.head? = some (.closing 0) ∧ (atLookup keyA live).tab.port.head? = some .lookup ∧
      (inPart .settingUp (some ⟨0x4000, [], .entered⟩)).ctl.setupRun = some ⟨0x4000, [], .entered⟩ :=
  ⟨fun _ => ⟨⟨rfl, rfl, rfl, rfl, rfl⟩, rfl⟩, by decide⟩

/-- 4.11, 2.5 and 11.3: a PROFILE carried out stays PART; a batch record whose writes began is completed behind a gate request; and a
STOP before check 1 has passed writes no result. -/
theorem test_stop_completes_what_has_begun :
    after (.stop .profile) (tookList (desc 23 0 [31, 1])) (fun t => decide (t.adm.profiles.get 31 = ⟨0, 0, true, false⟩ ∧
        t.read 0x2000 = 1 ∧ t.read 0x2007 = 0 ∧ t.list.take = 0)) = true ∧
      after (.stop .list) (atPort (atList load1 (.loading 0 Counts.zero) ((live.setTab { live.tab with k := 12 }).writeBytes 0x4000 put1)))
        (fun t => decide (t.tab.memory.entryAt locA = some { entryA with batch := 0 })) = true ∧
      after (.stop .idle) (inPart .settingUp (some ⟨0x4000, [], .entered⟩))
        (fun t => decide (t.ctl.failure = .abandoned ∧ t.xmem = [])) = true := by decide

/-- A setup block at an offset, HALTED and STANDBY: version, format, scheme, k, u, poll, chain wait, and the three rings. -/
def blockBytes (version format k u : Byte) (gate list journal : Nat) : List Byte :=
  [version, 0, format, 1, k, u, 10, 5] ++ wordBytes (BitVec.ofNat 32 gate) ++ [8, 0, 0, 0] ++ wordBytes (BitVec.ofNat 32 list) ++
    [3, 0, 0, 0] ++ wordBytes (BitVec.ofNat 32 journal) ++ [9, 0, 0, 0]
def prepared (p : PartState) (at_ : Nat) (bs : List Byte) : State :=
  ((State.reset.writeBytes at_ bs).setCtl { State.reset.ctl with part := p, setupAt := BitVec.ofNat 32 at_ })

/-- The block ends at the end of the window; its gate ring starts at the window's first byte. -/
def lastBlock : Nat := 0x40000 - 1088
def good (version format k u : Byte) : State :=
  prepared .halted lastBlock (blockBytes version format k u 0x40 0x8000 0xC000)
def badRings : State := prepared .standby lastBlock (blockBytes 1 1 12 1 0x50 0x8000 0xC000)
def badRegions : State := prepared .standby lastBlock (blockBytes 1 1 12 1 0x40 0x4000 0xC000)

theorem witness_init_places :
    (good 1 1 12 1).ctl.resetActive = false ∧ (good 1 1 12 1).ctl.part = .halted ∧ badRings.ctl.part = .standby ∧
      Memory.wf (good 1 1 12 1).xmem ∧ Memory.wf badRings.xmem ∧ Memory.wf badRegions.xmem ∧ ¬blockOk 0 ∧ ¬blockOk (lastBlock + 64) ∧
      blockOk 0x40 ∧ blockOk (good 1 1 12 1).ctl.setupAt.toNat := by
  unfold blockOk; decide

theorem witness_init_parts :
    live.ctl.part = .running ∧ (inPart .settingUp (some ⟨0x4000, [], .checking⟩)).ctl.part = .settingUp ∧
      SetupStage.checking ≠ .entered ∧ SetupStage.table ≠ .entered ∧
      after (.init ⟨.idle, .entered⟩) (good 2 1 12 1) (fun t => decide (t.ctl.part = .settingUp)) = true ∧
      after (.init ⟨.idle, .checking⟩) (good 2 1 12 1) (fun t => decide (t.ctl.part = .settingUp)) = true ∧
      after (.init ⟨.idle, .table⟩) (good 2 1 12 1) (fun t => decide (t.ctl.failure = .version ∧ t.read (lastBlock + 32) = 2)) = true := by
  decide

theorem witness_init_version : ¬(good 2 1 12 1).versionOk lastBlock ∧ badRings.versionOk lastBlock ∧
    badRegions.versionOk lastBlock ∧ (good 1 1 11 1).versionOk lastBlock ∧ (good 1 1 17 64).versionOk lastBlock := by
  unfold State.versionOk; decide

theorem witness_init_rings : ¬badRings.ringsOk lastBlock ∧ badRegions.ringsOk lastBlock := by
  unfold State.ringsOk requestRingOk journalRingOk; decide

theorem witness_init_rings_of_the_good : (good 1 1 11 1).ringsOk lastBlock ∧ (good 1 1 17 64).ringsOk lastBlock := by
  unfold State.ringsOk requestRingOk journalRingOk; decide

theorem witness_init_regions :
    ¬badRegions.regionsOk lastBlock ∧ (good 1 1 11 1).regionsOk lastBlock ∧ (good 1 1 17 64).regionsOk lastBlock := by
  unfold State.regionsOk Apart; dsimp only; decide

theorem witness_init_geometry :
    ¬(good 1 1 11 1).geometryOk lastBlock ∧ ¬(good 1 1 18 1).geometryOk lastBlock ∧ ¬(good 1 1 12 0).geometryOk lastBlock ∧
      ¬(good 1 1 12 65).geometryOk lastBlock ∧ (good 1 1 17 64).geometryOk lastBlock ∧ (good 1 1 17 64).read (lastBlock + 2) = 1 ∧
      (good 1 2 12 1).geometryOk lastBlock ∧ (good 1 2 12 1).read (lastBlock + 2) ≠ 1 := by
  unfold State.geometryOk; decide

/-- RunAndPromptExamineTheRings: every part state, with and without a valid setup, and descriptors in progress on both rings. -/
theorem witness_run :
    (inPart .standby none).ctl.part = .standby ∧
      ((inPart .halted none).ctl.part = .halted ∧ (inPart .halted none).ctl.setupComplete = true) ∧
      (State.reset.ctl.part = .halted ∧ State.reset.ctl.setupComplete = false ∧ State.reset.ctl.resetActive = false) ∧
      (inPart .settingUp none).ctl.part = .settingUp ∧
      let busy := (took (desc 1 0 [])).setList (tookList (desc 19 0 [])).list
      busy.ctl.part = .running ∧ busy.gate.work ≠ none ∧ busy.list.work ≠ none ∧ busy.jrn.queue = [] := by decide

def reading : State :=
  { (live.setClk ⟨7, true, 998⟩).writeBytes 0x3FFFC [1, 2, 3, 4] with
    ctl := ⟨.running, true, .abandoned, none, false, 0x41, 0x03, true, 0x1234⟩
    tab := { live.tab with filter := .rebuilding } }

/-- NoticeRegistersAndLine, the read view: the registers, and the last word of the window. -/
theorem test_registers_read :
    reading.readWindow 0 = 0x00067700 ∧ reading.readWindow 1 = 0x41 ∧ reading.readWindow 2 = 0x80000003 ∧
      reading.readWindow 3 = 0x1234 ∧ reading.readWindow 4 = 7 ∧ reading.readWindow 5 = 0 ∧ reading.readWindow 15 = 0 ∧
      reading.readWindow 0xFFFF = 0x04030201 := by decide

/-- NoticeRegistersAndLine, ClockIsWrittenAndAdvances, WindowWrites: RESET_N inactive, the words at the ends of their ranges, a clock
not VALID, one VALID, and one at its last second. -/
theorem witness_window :
    live.ctl.resetActive = false ∧ live.clk.valid = false ∧ (live.setClk ⟨0x7FFFFFFF, true, 0⟩).clk.value.toInt = 2147483647 ∧
      (live.setClk ⟨0x80000000, true, 0⟩).clk.valid = true ∧ (5 ≤ (5 : BitVec 16).toNat ∧ (5 : BitVec 16).toNat < 16) ∧
      (15 : BitVec 16).toNat < 16 ∧ 16 ≤ (16 : BitVec 16).toNat ∧ 16 ≤ (0xFFFF : BitVec 16).toNat ∧ Memory.wf live.xmem ∧
      (1 : BitVec 4).getLsbD 0 = true ∧ (14 : BitVec 4).getLsbD 0 = false := by decide

/-- ResetHoldsThePart: a record waiting beside a slot lent, cut after its kind byte, and a part in reset. -/
theorem witness_reset_cut :
    after (.resetNAsserted .idle 2) ((starved 1).writeBytes 0x30E0 [1])
      (fun t => decide (t.read 0x30E1 = 7 ∧ t.read 0x30E0 = 1 ∧ t.ctl.resetActive = true)) = true ∧
      Memory.wf ((starved 1).writeBytes 0x30E0 [1]).xmem ∧ (live.setCtl { live.ctl with resetActive := true }).ctl.resetActive = true ∧
      (Instr.present ≠ .powerOn ∧ Instr.present ≠ .resetN ∧ (∀ i p x, Instr.present ≠ .laneEvent i p x) ∧
        ∀ w e v, Instr.present ≠ .registerWrite w e v) := by
  refine ⟨by decide, by decide, by decide, by decide, by decide, ?_, ?_⟩ <;> simp

/-- TableStepEndsSetup: a setup in progress at a block, over a sound table, for a format and for a reuse. -/
def setupOf (s : State) : SetupRun := ⟨lastBlock, s.xmem, .table⟩
def settingUp (format : Byte) : State :=
  (storing entryA (good 1 format 12 1)).setCtl
    { (good 1 format 12 1).ctl with part := .settingUp, setupRun := some (setupOf (good 1 format 12 1)) }

theorem witness_table_step :
    (settingUp 1).ctl.resetActive = false ∧ (settingUp 1).ctl.part = .settingUp ∧
      (settingUp 1).ctl.setupRun = some (setupOf (good 1 1 12 1)) ∧ Memory.wf (settingUp 1).xmem ∧
      Memory.read (setupOf (good 1 1 12 1)).block (lastBlock + 2) = 1 ∧ Memory.read (setupOf (good 1 2 12 1)).block (lastBlock + 2) ≠ 1 ∧
      Memory.read (setupOf (good 1 1 12 1)).block (lastBlock + 4) = 12 ∧
      ((.head 4095 : TableWord) ∈ [TableWord.head 4095] ∧ 4095 < 2 ^ 12) ∧
      (settingUp 2).tab.memory.marker = some ⟨12, 1, 0⟩ ∧ TableWord.marker ∉ (settingUp 2).tab.memory.damaged ∧
      TableWord.marker ∉ [TableWord.place 1023] ∧ TableWord.marker ∈ [TableWord.marker] := by decide

/-- TableStepEndsSetup, checks still to be made: a block that passes them all, one that fails the last, and one out of place; and a RAW
lane whose pins have moved. -/
theorem witness_table_step_checks :
    ((good 1 1 17 64).ofBlock (setupOf (good 1 1 17 64))).setupChecks lastBlock none ∧
      ((good 1 1 11 1).ofBlock (setupOf (good 1 1 11 1))).setupChecks lastBlock (some .geometry) ∧
      ∀ s : State, s.setupChecks 0 (some .placement) :=
  have h := witness_init_places.2.2.2.2.2.2.2.2.2
  ⟨.inr (.inr (.inr (.inr (.inr ⟨h, witness_init_version.2.2.2.2, witness_init_rings_of_the_good.2, witness_init_regions.2.2,
      witness_init_geometry.2.2.2.2.1, rfl⟩)))),
    .inr (.inr (.inr (.inr (.inl ⟨h, witness_init_version.2.2.2.1, witness_init_rings_of_the_good.1, witness_init_regions.2.1,
      witness_init_geometry.1, rfl⟩)))),
    fun _ => .inl ⟨witness_init_places.2.2.2.2.2.2.1, rfl⟩⟩

def staged (g : SetupStage) (s : State) : State :=
  s.setCtl { s.ctl with setupRun := s.ctl.setupRun.map (fun r => { r with stage := g }) }

theorem witness_table_step_stages :
    (∀ g, ∃ r, (staged g (settingUp 1)).ctl.setupRun = some r ∧ r.stage = g) ∧
      Memory.read (setupOf (good 1 1 12 1)).block (lastBlock + 0x46) = 0 ∧
      ((settingUp 1).setLane 0 { Lane.powerOn with pins := arms true false }).lane 0 ≠ (settingUp 1).lane 0 :=
  ⟨fun _ => ⟨_, rfl, rfl⟩, by decide⟩

/-- 11.3: a TABLE_STEP that finds the checks still to be made makes them first. -/
theorem test_table_step_makes_the_checks :
    after (.tableStep []) (staged .entered (settingUp 2)) (fun t => decide (t.ctl.part = .standby)) = true ∧
      after (.tableStep [])
        ((settingUp 2).setCtl { (settingUp 2).ctl with setupRun := some ⟨lastBlock, (good 2 2 12 1).xmem, .checking⟩ })
        (fun t => decide (t.ctl.failure = .version ∧ t.read (lastBlock + 33) = 1)) = true := by decide

theorem witness_table_step_sound : (settingUp 1).tab.memory.Sound ∧ (settingUp 2).tab.memory.Sound :=
  ⟨storing_table_sound entryA, storing_table_sound entryA⟩

theorem test_table_step_reuses_and_tests :
    after (.tableStep []) (settingUp 2) (fun t => decide (t.ctl.part = .standby ∧ t.tab.memory.entryAt locA = some entryA)) = true ∧
      after (.tableStep [.head 4095]) (settingUp 1) (fun t => decide (t.ctl.failure = .tableTest)) = true ∧
      after (.tableStep [.marker]) (settingUp 2) (fun t => decide (t.ctl.failure = .unformatted)) = true := by decide

/-! ### The lanes -/

/-- A lane in a running part, and the RAW lanes of the statements. -/
def withLane (l : Lane) : State := live.setLane 7 l

/-- Levels arrive at a RAW lane at once. -/
theorem raw_arrives (l : Lane) (p : Levels) (x : Bool) (h : l.period = .raw) :
    (withLane l).Arrives 7 p x { l with pins := p, level := p } := ⟨rfl, .inl ⟨h, rfl⟩⟩

/-- A third sample in a row arrives at a lane with a sample period; an input that agrees with its level counts none. -/
def thirdSample (q : Period) (l : Lane) : Lane := { l with period := q, agree := ⟨2, 2, 2, 2⟩ }

theorem third_conditions (level pin : Bool) : Conditioned level 2 pin pin 0 := by
  unfold Conditioned; revert level pin; decide

theorem sampled_arrives (l : Lane) (q : Period) (p : Levels) (h : q ≠ .raw) :
    (withLane (thirdSample q l)).Arrives 7 p true
      { thirdSample q l with pins := p, level := p, agree := Agreement.zero, sampleMs := 0 }  :=
  ⟨rfl, .inr ⟨h, rfl, rfl, third_conditions _ _, third_conditions _ _, third_conditions _ _, third_conditions _ _⟩⟩

/-- InputConditioning: RAW, a sampled and an unsampled event, agreement counts 0 to 2, levels that agree and levels that do not. -/
theorem witness_conditioning :
    (withLane openLane).ctl.resetActive = false ∧ openLane.period = .raw ∧ { openLane with period := .ms1 }.period ≠ .raw ∧
      (∀ c ∈ [0, 1, 2],
        after (.laneEvent 7 (arms true false) true) (withLane { openLane with period := .ms1, agree := ⟨c, 0, 0, 0⟩ })
          (fun t => decide ((t.lane 7).level.armA = decide (c = 2) ∧ (t.lane 7).sampleMs = 0)) = true) ∧
      after (.laneEvent 7 (arms false false) true) (withLane openLane) (fun t => decide ((t.lane 7).level = openLane.level)) = true := by
  decide

/-- TrackerFollowsTheArms: an arm that does not move, one that stands at the tracker's position, and each move of the tracker; levels
that agree, a BEAM and a FIRE change beside the arms, and a STANDING hold as the tracker leaves REST. -/
def trackedLane (p : Fin 4) (turn : Int) (l : Levels) (st : TrackerState := .turning) : Lane :=
  { openLane with tracker := ⟨st, p, turn⟩, level := l }

theorem witness_tracker :
    (∀ l : Levels, ∀ x, (withLane (trackedLane 1 1 (arms true false))).Arrives 7 l x
        { trackedLane 1 1 (arms true false) with pins := l, level := l }) ∧
      (∀ l : Levels, (withLane (thirdSample .ms1 (trackedLane 1 1 (arms true false)))).Arrives 7 l true
        { thirdSample .ms1 (trackedLane 1 1 (arms true false)) with pins := l, level := l, agree := Agreement.zero, sampleMs := 0 }) ∧
      (trackedLane 1 1 (arms true false)).enabled = true ∧
      armPosition (arms true false) = 1 ∧ armPosition (arms false true) = (1 : Fin 4) + 2 ∧ armPosition (arms false false) = 0 ∧
      armPosition (arms true true) = (1 : Fin 4) + 1 ∧ armPosition (arms true false) = (2 : Fin 4) - 1 ∧
      armPosition (arms true true) = (0 : Fin 4) + 2 ∧ armPosition (arms false true) = (0 : Fin 4) - 1 ∧
      (trackedLane 3 0 (arms false true) .fault).tracker.state = .fault ∧ (arms false true).armA ≠ (arms true false).armA ∧
      (trackedLane 1 1 (arms true false)).tracker.state = .turning ∧ openLane.tracker.state = .rest ∧
      (trackedLane 3 (-1) (arms false true)).tracker.turn = -1 ∧ (⟨false, true, true, true⟩ : Levels) ≠ arms true false ∧
      (∃ h, ((holding 7 (holdA .standing) live).beamArrives 7 false true).hold 7 = some h ∧ h.phase = .standing) ∧
      live.hold 7 = none :=
  ⟨fun _ _ => raw_arrives _ _ _ rfl, fun _ => sampled_arrives _ _ _ (by decide), by decide⟩

/-- CompletedTurns: both turns, with BEAM and FIRE as they may, with a STANDING hold, in SETTING_UP, in FREE at tallies 48 and 49, in
OPEN, and at both limits. -/
def turned (forward : Bool) (l : Lane) : State :=
  withLane { l with
    tracker := if forward then ⟨.turning, 3, 3⟩ else ⟨.turning, 1, -3⟩, level := if forward then arms false true else arms true false }

theorem witness_completed_turns :
    (∀ f b r, (turned f openLane).Arrives 7 ⟨false, false, b, r⟩ false
        { (turned f openLane).lane 7 with pins := ⟨false, false, b, r⟩, level := ⟨false, false, b, r⟩ }) ∧
      ∀ f, (turned f openLane).ZonesBounded ∧ ((turned f openLane).lane 7).enabled = true ∧
        ((turned f openLane).lane 7).tracker = (if f then ⟨.turning, 3, 3⟩ else ⟨.turning, 1, -3⟩) ∧
        armPosition ((turned f openLane).lane 7).level ≠ 0 := by
  refine ⟨fun f b r => raw_arrives _ _ _ rfl, fun f => ⟨?_, ?_⟩⟩
  · unfold State.ZonesBounded; revert f; decide
  · revert f; decide

theorem witness_completed_turns_cases :
    (∃ h, (holding 7 (holdA .standing) (turned true openLane)).hold 7 = some h ∧ h.phase = .standing) ∧
      (turned true openLane).hold 7 = none ∧ (turned true openLane).ctl.part ≠ .settingUp ∧
      ((turned true openLane).setCtl { live.ctl with part := .settingUp }).ctl.part = .settingUp ∧
      (∀ n ∈ [0, 48, 49], after (.laneEvent 7 (arms false false) false) (turned true { openLane with mode := .base .free, tally := n })
        (fun t => decide ((t.lane 7).tally = if n = 49 then 0 else n + 1)) = true) ∧
      after (.laneEvent 7 (arms false false) false) (turned true openLane)
        (fun t => decide (t.jrn.queue.map Record.kind = [.forced] ∧ (t.zone 0).occupancy = 1)) = true ∧
      after (.laneEvent 7 (arms false false) false) (turned false openLane)
        (fun t => decide (t.jrn.queue.map Record.kind = [.reverse] ∧ (t.zone 0).occupancy = 0 ∧
          t.jrn.queue.map (fun r => r.flags.clamped) = [true])) = true := by
  refine ⟨⟨_, rfl, rfl⟩, by decide, by decide, by decide, by decide, by decide, by decide⟩

/-- FireLine: a rise from OPEN; a fall to FREE, to CLOSED with a tally of 1 and with none. -/
theorem witness_fire :
    (withLane openLane).Arrives 7 ⟨false, false, false, true⟩ false
        { openLane with pins := ⟨false, false, false, true⟩, level := ⟨false, false, false, true⟩ } ∧
      (withLane (thirdSample .ms16 fireLane)).Arrives 7 (arms false false) true
        { thirdSample .ms16 fireLane with pins := arms false false, level := arms false false, agree := Agreement.zero, sampleMs := 0 } ∧
      openLane.level.fire = false ∧ openLane.mode = .base .opened ∧
      { arms false false with fire := true } = { openLane.level with fire := true } ∧ fireLane.level.fire = true ∧
      fireLane.mode = .emergency ∧ fireLane.afterEmergency = some .opened ∧ { fireLane with tally := 1 }.tally = 1 ∧
      { fireLane with afterEmergency := some .free }.afterEmergency = some .free :=
  ⟨raw_arrives _ _ _ rfl, sampled_arrives _ _ _ (by decide), by decide⟩

/-- ModeChanges: EMERGENCY; a hold in force; the same mode; another mode; and FREE with a tally of 1 and of 0; each also with a
pending mode, FREE with a tally among them. -/
theorem witness_mode_changes :
    ((withLane fireLane).lane 7).mode = .emergency ∧ (holding 7 (holdA .standing) live).hold 7 ≠ none ∧ live.hold 7 = none ∧
      (live.lane 7).mode = .base .opened ∧ BaseMode.opened ≠ .closed ∧
      ¬(BaseMode.opened = .free ∧ BaseMode.closed ≠ .free ∧ 0 < (live.lane 7).tally) ∧
      (({ openLane with mode := .base .free, tally := 1 } : Lane).mode = .base .free ∧ BaseMode.free ≠ .closed ∧
        0 < ({ openLane with mode := .base .free, tally := 1 } : Lane).tally) ∧
      (live.lane 7).pendingMode = none ∧ ((withLane { openLane with pendingMode := some .closed }).lane 7).pendingMode = some .closed ∧
      ((withLane { fireLane with pendingMode := some .closed }).lane 7).mode = .emergency ∧
      ((withLane { openLane with pendingMode := some .opened }).lane 7).mode = .base .opened ∧
      (leavingFree.lane 0).pendingMode = some .closed ∧ (leavingFree.lane 0).mode = .base .free ∧ 0 < (leavingFree.lane 0).tally := by
  decide

/-- WatchEvents: no match, a disabled alert, SETTING_UP, and a match at a PENDING and at an IDLE alert, in FIRST mode and in ALL. -/
def watching (mode : WatchMode) (alert : AlertState) (on : Bool) : State :=
  withLane { openLane with
    watch := { bothHigh with mode := mode }, prev := armTerms true false false, level := arms true true, alert := alert, alertOn := on }

theorem witness_watch_events :
    (∀ m, ((watching m .idle true).lane 7).watch.matched ((watching m .idle true).lane 7).prev ((watching m .idle true).terms 7) =
      true ∧ ((watching m .idle true).lane 7).watch.mode = m) ∧
      (live.lane 7).watch.matched (live.lane 7).prev (live.terms 7) = false ∧
      ((watching .all .idle false).lane 7).alertOn = false ∧ live.ctl.part ≠ .settingUp ∧
      ((watching .all .pending true).lane 7).alert ≠ .idle ∧ ((watching .all .idle true).lane 7).alert = .idle ∧
      ((watching .all .idle true).lane 7).alertOn = true := by
  refine ⟨fun m => ?_, by decide⟩
  cases m <;> decide

/-! ### The requests of the gate ring -/

theorem gate_took (d : Desc) (k : ReqKind) (h : d.reqKind = some k) : (took d).GateTook ring k d := ⟨rfl, rfl, rfl, rfl, h⟩

theorem list_took (d : Desc) (k : ReqKind) (h : d.reqKind = some k) : (tookList d).ListTook listRing k d := ⟨rfl, rfl, rfl, rfl, h⟩

/-- AlertRequests: the five actions at lanes 0 and 7, the unnamed action 5 and lane 8. -/
theorem witness_alerts :
    (∀ a : Fin 6, (took (desc 4 7 [BitVec.ofNat 8 a.val])).GateTook ring .alert (desc 4 7 [BitVec.ofNat 8 a.val]) ∧
      ((desc 4 7 [BitVec.ofNat 8 a.val]).byte 0).toNat = a.val ∧
      (desc 4 7 [BitVec.ofNat 8 a.val]).lane = BitVec.ofNat 8 (7 : LaneId).val) ∧
      (took (desc 4 8 [])).GateTook ring .alert (desc 4 8 []) ∧ 8 ≤ (desc 4 8 []).lane.toNat ∧
      { openLane with alert := .pending }.alert = .pending ∧ openLane.alert ≠ .pending ∧ openLane.alertOn = false ∧
      { openLane with alertOn := true }.alertOn = true := by
  refine ⟨fun a => ⟨gate_took _ _ rfl, ?_⟩, gate_took _ _ rfl, by decide⟩
  revert a; decide

/-- LaneRequests: a request with every field at the end of its range, and one malformed in each field. -/
def fullLane : List Byte := [2, 3, 3, 1, 0xFF, 0xFF, 0, 0, 0, 1, 2, 3, 4, 5, 2, 9]
def fullWatch : WatchSpec := ⟨#v[.ignore, .low, .high, .fall, .rise, .either], .first, true⟩

theorem witness_lane_requests :
    (took (desc 3 7 fullLane)).GateTook ring .lane (desc 3 7 fullLane) ∧ (desc 3 7 fullLane).lane = BitVec.ofNat 8 (7 : LaneId).val ∧
      (desc 3 7 fullLane).byte 0 = BaseMode.free.code ∧ ((desc 3 7 fullLane).byte 1).toNat ≤ 3 ∧ (desc 3 7 fullLane).byte 2 = 3 ∧
      (∀ t : Fin 6, (desc 3 7 fullLane).byte (8 + t.val) =
        (match fullWatch.terms.get t with | .ignore => 0 | .low => 1 | .high => 2 | .fall => 3 | .rise => 4 | .either => 5)) ∧
      (desc 3 7 fullLane).byte 14 = fullWatch.mode.code ∧ (fullWatch.lock = true ↔ (desc 3 7 fullLane).byte 15 ≠ 0) :=
  ⟨gate_took _ _ rfl, by decide⟩

theorem witness_lane_requests_malformed :
    (∀ d ∈ [desc 3 8 fullLane, desc 3 7 (fullLane.set 0 3), desc 3 7 (fullLane.set 1 4), desc 3 7 (fullLane.set 2 4),
        desc 3 7 (fullLane.set 13 6), desc 3 7 (fullLane.set 14 3)],
      d.reqKind = some .lane ∧
        ¬(d.lane.toNat < 8 ∧ (d.byte 0).toNat ≤ 2 ∧ (d.byte 1).toNat ≤ 3 ∧ (d.byte 2).toNat ≤ 3 ∧
          (∀ t : Fin 6, (d.byte (8 + t.val)).toNat ≤ 5) ∧ (d.byte 14).toNat ≤ 2)) := by decide

/-- HoldEndings: a STANDING hold that asks for the port and one that does not, a CLOSING one, both kinds and directions with each
outcome, an arm at REST and one off it, and a BEAM rise with reloads at 2 and at 3. -/
theorem witness_hold_endings :
    live.ZonesBounded ∧ (holding 7 (holdA .standing) live).hold 7 = some (holdA .standing) ∧ (holdA .standing).phase = .standing ∧
      (holdA (.closing .lapsed)).phase ≠ .standing ∧ { holdA .standing with kind := .manual }.kind = .manual ∧
      (holding 7 (holdA .standing) live).ctl.part = .running ∧ ((holding 7 (holdA .standing) live).lane 7).tracker.state = .rest ∧
      turningLane.tracker.state ≠ .rest ∧ live.hold 7 = none ∧ (live.lane 7).level.beam = false ∧
      ({ openLane with retrigger := true }.retrigger = true ∧ { holdA .standing with reloads := 2 }.reloads < 3 ∧
        ¬{ holdA .standing with reloads := 3 }.reloads < 3) := by
  refine ⟨?_, by decide⟩
  unfold State.ZonesBounded; decide

theorem witness_hold_endings_beam :
    (holding 7 (holdA .standing) live).Arrives 7 ⟨false, false, true, false⟩ true
      { openLane with pins := ⟨false, false, true, false⟩, level := ⟨false, false, true, false⟩ } := ⟨rfl, .inl ⟨rfl, rfl⟩⟩

/-- ManualRequests: both actions at lanes that pass and at lanes that refuse, the unnamed action 2 and lane 8, and a token held. -/
theorem witness_manual :
    (∀ a : Fin 3, (took (desc 2 7 [BitVec.ofNat 8 a.val])).GateTook ring .manual (desc 2 7 [BitVec.ofNat 8 a.val]) ∧
      ((desc 2 7 [BitVec.ofNat 8 a.val]).byte 0).toNat = a.val) ∧
      (took (desc 2 8 [])).GateTook ring .manual (desc 2 8 []) ∧ 8 ≤ (desc 2 8 []).lane.toNat ∧
      live.laneReason 7 true = none ∧ live.laneReason 7 false = none ∧
      (holding 7 (holdA .standing) live).laneReason 7 true = some .laneBusy ∧
      (holding 7 (holdA .standing) live).laneReason 7 false = none ∧
      (withLane Lane.powerOn).laneReason 7 false = some .laneDisabled ∧
      (withLane { openLane with token := some ⟨1, 0⟩ }).laneReason 7 false = none ∧ live.ctl.resetActive = false := by
  refine ⟨fun a => ⟨gate_took _ _ rfl, ?_⟩, gate_took _ _ rfl, by decide⟩
  revert a; decide

/-- PresentTakesTheFirstLook: the five lane reasons; kinds 0 and 3 and length 33; barcodes of 5, 6, 28 and 29 digits, one with a
space, and one that fails its check digit; cards of 4, 7, 10 and 11 bytes. -/
def present (bs : List Byte) : Desc := desc 1 7 bs

theorem witness_present_took (bs : List Byte) :
    (took (present bs)).GateTook ring .present (present bs) ∧ (present bs).payload.length = 40 ∧
      (present bs).lane = BitVec.ofNat 8 (7 : LaneId).val ∧ (took (desc 1 8 bs)).GateTook ring .present (desc 1 8 bs) ∧
      8 ≤ (desc 1 8 bs).lane.toNat := by
  refine ⟨gate_took _ _ rfl, ?_, rfl, gate_took _ _ rfl, Nat.le_refl 8⟩
  simp [present, desc, padTo]

theorem witness_present_lanes :
    (took (present [])).laneReason 7 true = none ∧
      (∀ x ∈ [(Lane.powerOn, Reason.laneDisabled), ({ openLane with mode := .base .closed }, .laneClosed),
          ({ openLane with mode := .base .free }, .laneFree), (fireLane, .laneFree),
          (trackedLane 1 0 (arms true false) .fault, .trackerFault),
          ({ openLane with watch := { WatchSpec.powerOn with lock := true }, alert := .pending }, .alertActive)],
        ((took (present [])).setLane 7 x.1).laneReason 7 true = some x.2) ∧
      (holding 7 (holdA .standing) (took (present []))).laneReason 7 true = some .laneBusy := by decide

theorem witness_present_credentials :
    ((present [0]).byte 0 ≠ 1 ∧ (present [0]).byte 0 ≠ 2) ∧ ((present [3]).byte 0 ≠ 1 ∧ (present [3]).byte 0 ≠ 2) ∧
      32 < ((present [1, 33]).byte 1).toNat ∧ ((present [2, 32]).byte 1).toNat ≤ 32 ∧
      (∀ n ∈ [6, 28], barcodeAccepted (List.replicate n 0x39) = true) ∧ (∀ n ∈ [5, 29], barcodeAccepted (List.replicate n 0x30) = false) ∧
      barcodeAccepted [0x30, 0x31, 0x32, 0x20, 0x34, 0x35, 0x36] = false ∧ mod10Passes [1, 2, 3, 4, 5, 6] = false ∧
      mod10Passes [1, 2, 3, 4, 5, 5] = true ∧ live.adm.scheme = .none ∧
      (live.setAdm { live.adm with scheme := .mod10 }).adm.scheme = .mod10 ∧
      (∀ n ∈ [4, 7, 10], n = 4 ∨ n = 7 ∨ n = 10) ∧ ¬((11 : Nat) = 4 ∨ (11 : Nat) = 7 ∨ (11 : Nat) = 10) := by decide

/-! ### The table port -/

/-- A lookup of the key next at the port, in a state that stores an entry. -/
def lookingUp (e : Entry) (l : Lane) (z : Zone) (c : Clock) : State :=
  (atLookup keyA (((storing e live).setLane 0 l).setZone 0 z)).setClk c

theorem looking_up (e : Entry) (l : Lane) (z : Zone) (c : Clock) :
    (lookingUp e l z c).LookupAtPort ring (desc 1 0 []) 0 keyA := ⟨rfl, rfl, rfl, rfl, rfl, rfl⟩

/-- LookupAdmits: tier 0 with a grant NEVER; tier 3 at the last second of its window with one place left; an ESCORT with its token;
and a lookup that goes round a SUSPECT filter. -/
def tier0 : State := lookingUp { entryA with tier := 0, grants := 0, state := .inside } openLane ⟨0, 0, 0⟩ ⟨0, false, 0⟩
def windowAt (p : Profile) (s : State) : State := s.setAdm { s.adm with profiles := Vector.replicate 32 p }
def entry3 : Entry := { entryA with tier := 3, grants := 2, count := 255 }
def tier3 : State := windowAt ⟨10, 20, false, false⟩ (lookingUp entry3 openLane ⟨5, 2, 2⟩ ⟨19, true, 0⟩)
def entryE : Entry := { entryA with grants := 3 }
def escorted : State := lookingUp entryE { openLane with token := some ⟨1, 0⟩ } ⟨0, 0, 0⟩ ⟨0, false, 0⟩

theorem witness_lookup_admits :
    (∀ s ∈ [tier0, tier3, escorted], s.laneReason 0 true = none ∧ filterIndex keyA ∈ s.tab.presence ∧
      ∀ j, ¬((s.hold j).bind Hold.key = some keyA)) ∧
      (popPort (damage [] tier3)).lookup keyA = .found locA entry3 ∧ entry3.state ≠ .revoked ∧
      tier0.effectiveTier 0 { entryA with tier := 0, grants := 0, state := .inside } = 0 ∧ tier3.effectiveTier 0 entry3 = 3 ∧
      (tier3.setTab { tier3.tab with filter := .suspect }).tab.filter ≠ .valid ∧ entryE.grant 0 = .escort := by decide

theorem witness_lookup_admits_at_port :
    tier0.LookupAtPort ring (desc 1 0 []) 0 keyA ∧ tier3.LookupAtPort ring (desc 1 0 []) 0 keyA ∧
      escorted.LookupAtPort ring (desc 1 0 []) 0 keyA :=
  ⟨looking_up _ _ _ _, ⟨rfl, rfl, rfl, rfl, rfl, rfl⟩, looking_up _ _ _ _⟩

/-- StopHaltsThePart, an admission lookup under way: one that makes a hold, and one that refuses. -/
theorem witness_stop_lookup :
    escorted.tab.port.head? = some .lookup ∧ escorted.ctl.part = .running ∧ escorted.ctl.resetActive = false ∧
      after (.admissionLookup []) escorted (fun v => decide (v.holds ≠ escorted.holds)) = true ∧
      (atLookup keyA live).tab.port.head? = some .lookup ∧
      after (.admissionLookup []) (atLookup keyA live) (fun v => decide (v.holds = live.holds)) = true := by decide

theorem tier3_window : ¬tier3.beforeOpen entry3 ∧ ¬tier3.afterClose entry3 := by
  unfold State.beforeOpen State.afterClose; decide

theorem witness_no_check_refuses : (∀ r, ¬Refuses tier3 0 entry3 r) ∧ ∀ r, ¬Refuses escorted 0 entryE r := by
  refine ⟨fun r h => ?_, fun r h => ?_⟩
  · cases h with
    | tooEarly _ _ _ _ hb => exact tier3_window.1 hb
    | tooLate _ _ _ _ _ hc => exact tier3_window.2 hc
    | _ => simp_all (decide := true)
  · cases h <;> simp_all (decide := true)

/-- LookupRefuses: a lane that refuses again, a clear filter bit, an absent key, a damaged slot, a REVOKED entry, and a held key. -/
def unfiltered (s : State) : State := s.setTab { s.tab with presence := [] }

theorem witness_lookup_refuses :
    (lookingUp entryA Lane.powerOn ⟨0, 0, 0⟩ ⟨0, false, 0⟩).laneReason 0 true = some .laneDisabled ∧
      ((unfiltered tier3).laneReason 0 true = none ∧ (unfiltered tier3).tab.filter = .valid ∧
        filterIndex keyA ∉ (unfiltered tier3).tab.presence) ∧
      (popPort (damage [] (tier3.setMemory TableMemory.powerOn))).lookup keyA = .absent ∧
      (popPort (damage [.slot bucketA 0] tier3)).lookup keyA = .failed ∧ { entryA with state := .revoked }.state = .revoked ∧
      ((holding 7 (holdA .standing) tier3).hold 7).bind Hold.key = some keyA ∧
      (holding 7 (holdA .standing) tier3).laneReason 0 true = none := by decide

/-- The eleven refusals of checks 12 to 15, each at a boundary: the window's edges, a full zone, a spent count. -/
theorem witness_refusals_entry :
    Refuses (lookingUp { entryA with state := .inside } openLane ⟨0, 0, 0⟩ ⟨0, false, 0⟩) 0 { entryA with state := .inside } .alreadyIn ∧
      Refuses (lookingUp { entryA with grants := 0xFFFFFFFC } openLane ⟨0, 0, 0⟩ ⟨0, false, 0⟩) 0 { entryA with grants := 0xFFFFFFFC }
        .wrongZone ∧
      Refuses (lookingUp { entryA with count := 1 } openLane ⟨0, 0, 0⟩ ⟨0, false, 0⟩) 0 { entryA with count := 1 } .used ∧
      Refuses (lookingUp entryE openLane ⟨0, 0, 0⟩ ⟨0, false, 0⟩) 0 entryE .needEscort :=
  ⟨.alreadyIn (by decide) (by decide), .entryNever (by decide) (by decide) (by decide),
    .used (by decide) (by decide) (by decide) (by decide), .needEscort (by decide) (by decide) (by decide) (by decide)⟩

def windowed (now : Word) (z : Zone) : State := windowAt ⟨10, 20, false, false⟩ (lookingUp entry3 openLane z ⟨now, true, 0⟩)

theorem windowed_grant (now : Word) (z : Zone) : (windowed now z).EntryGrantPasses 0 entry3 := Or.inr (Or.inl rfl)

theorem witness_refusals_window :
    Refuses (windowed 9 ⟨0, 0, 0⟩) 0 entry3 .tooEarly ∧ Refuses (windowed 20 ⟨0, 0, 0⟩) 0 entry3 .tooLate ∧
      Refuses (windowed 10 ⟨5, 3, 2⟩) 0 entry3 .zoneFull := by
  refine ⟨.tooEarly rfl (by decide) (windowed_grant _ _) (by decide) ?_, .tooLate rfl (by decide) (windowed_grant _ _) (by decide) ?_ ?_,
    .zoneFull rfl (by decide) (windowed_grant _ _) (by decide) ?_ ?_ (by decide) (by decide)⟩ <;>
    first | (unfold State.beforeOpen; decide) | (unfold State.afterClose; decide)

def exitLane : Lane := { openLane with direction := .exit }
def insideE (grants : Word) (returns : Fin 16) : Entry := { entryA with state := .inside, grants := grants, returns := returns }

theorem witness_refusals_exit :
    Refuses (lookingUp entryA exitLane ⟨0, 0, 0⟩ ⟨0, false, 0⟩) 0 entryA .notInside ∧
      Refuses (lookingUp (insideE 0 15) exitLane ⟨0, 0, 0⟩ ⟨0, false, 0⟩) 0 (insideE 0 15) .wrongZone ∧
      Refuses (lookingUp (insideE 1 15) exitLane ⟨0, 0, 0⟩ ⟨0, false, 0⟩) 0 (insideE 1 15) .noReturns ∧
      Refuses (lookingUp (insideE 3 15) exitLane ⟨0, 0, 0⟩ ⟨0, false, 0⟩) 0 (insideE 3 15) .noReturns ∧
      Refuses (lookingUp (insideE 2 0) exitLane ⟨0, 0, 0⟩ ⟨0, false, 0⟩) 0 (insideE 2 0) .noReturns :=
  ⟨.notInside rfl (by decide), .exitNever rfl rfl (by decide), .exitKind rfl rfl (by decide), .exitKind rfl rfl (by decide),
    .exitSpent rfl rfl (by decide) rfl⟩

theorem witness_effective_tiers :
    (lookingUp entryA openLane ⟨0, 0, 0⟩ ⟨0, false, 0⟩).effectiveTier 0 entryA ≠ 0 ∧
      (lookingUp entryA exitLane ⟨0, 0, 0⟩ ⟨0, false, 0⟩).effectiveTier 0 entryA ≠ 0 := by decide

/-- ClosingWritesTheHeldEntry: a commit with a CONTESTED mark and a pending revoke over a count of 255, a damaged word, and a location
without the key. -/
def contestedHold : Hold := { holdA (.closing .commit) with mark := some ⟨true, 255, 7⟩, revoke := some .restore }
def closing (e : Entry) : State := atClosing 7 (holding 7 contestedHold (storing e live))

theorem closing_at_port (e : Entry) : (closing e).ClosingAtPort 7 contestedHold .commit keyA locA 1 :=
  ⟨rfl, rfl, rfl, rfl, rfl, rfl⟩

theorem witness_closing :
    (closing { entryA with count := 255 }).tab.memory.entryAt locA = some { entryA with count := 255 } ∧
      locA.word ∉ (popPort (damage [] (closing entryA))).tab.memory.damaged ∧
      locA.word ∈ (popPort (damage [locA.word] (closing entryA))).tab.memory.damaged ∧ { entryA with key := zeroKey }.key ≠ keyA := by
  decide

/-! ### The requests of the list ring -/

/-- LoadsAndChains: records at both ends of the counts and the window; a count of 0 and of 1,025, an odd offset, one past the end and
the chain mark 4; and chains not open, open, and open with a kept descriptor. -/
def loadOf (chain : Byte) (offset count : Nat) : Desc :=
  ⟨true, chain, 16, 0, padTo 40 (wordBytes (BitVec.ofNat 32 offset) ++ halfBytes count)⟩

theorem witness_loads_took (chain : Byte) (offset count : Nat) :
    (tookList (loadOf chain offset count)).ListTook listRing .load (loadOf chain offset count) := list_took _ _ rfl

theorem witness_load_fields :
    (∀ d ∈ [loadOf 0 64 1024, loadOf 1 0x3FFE0 1, loadOf 2 0x4000 2, loadOf 3 0x38000 1024], d.loadMark.isSome = true) ∧
      (∀ d ∈ [loadOf 0 64 0, loadOf 0 64 1025, loadOf 0 80 1, loadOf 0 32 1, loadOf 0 0x3FFE0 2, loadOf 4 64 1],
        d.loadMark = none) := by decide

def chain (kept : Option Kept) : State :=
  (tookList (loadOf 2 0x4000 2)).setList
    { (tookList (loadOf 2 0x4000 2)).list with chainOpen := true, kept := kept, wait := some ⟨0, 0⟩ }

def waiting : State := (chain none).setList { (chain none).list with work := none }

theorem witness_chains :
    live.list.chainOpen = false ∧ (chain none).list.chainOpen = true ∧ (chain none).list.kept = none ∧
      (chain (some ⟨7, false, Counts.zero⟩)).list.kept = some ⟨7, false, Counts.zero⟩ ∧
      ((chain none).writeBytes 0x4000 put1).batchRecord (loadOf 2 0x4000 2) 0 ≠ none ∧
      ((chain none).writeBytes 0x4020 put1).batchRecord (loadOf 2 0x4000 2) 0 = none ∧
      ((chain none).writeBytes 0x4020 put1).batchRecord (loadOf 2 0x4000 2) 1 ≠ none ∧
      (loadOf 2 0x4000 2).recordCount = 2 ∧
      (waiting.list.wait = some ⟨0, 0⟩ ∧ waiting.list.work = none ∧ waiting.read 0x2000 = 1 ∧ live.read 0x2000 ≠ 1) := by decide

/-- BatchRecordOperation: each form of record at the port, for a key absent, found, held and behind a damaged slot, beside a bucket
with room, one full with an empty free list, and one whose free list cannot be read. -/
def putReset : List Byte := [1, 1] ++ put1.drop 2
def drop1 : List Byte := [2, 0] ++ put1.drop 2
def batchState (bs : List Byte) (t : TableMemory) : State :=
  atList load1 (.loading 0 Counts.zero) ((storing entryA live).setMemory t |>.writeBytes 0x4000 bs)

theorem batch_at_port (bs : List Byte) (t : TableMemory) :
    (batchState bs t).ListAtPort listRing load1 (.loading 0 Counts.zero) := ⟨rfl, rfl, rfl, rfl, rfl⟩

def full (free : List Nat) (damaged : List TableWord) : TableMemory :=
  ⟨some ⟨12, 1, 0⟩, [(bucketA, ⟨Vector.replicate 4 (some { entryA with key := zeroKey }), []⟩)], free, [], damaged⟩

theorem witness_batch_records :
    (batchState [] (tableWith entryA)).batchRecord load1 0 = none ∧
      (batchState put1 (tableWith entryA)).batchRecord load1 0 = some (.put keyA ⟨false, 1, 0, 0, 0, 1⟩) ∧
      (batchState putReset (tableWith entryA)).batchRecord load1 0 = some (.put keyA ⟨true, 1, 0, 0, 0, 1⟩) ∧
      (batchState drop1 (tableWith entryA)).batchRecord load1 0 = some (.drop keyA) ∧
      (batchState put1 (tableWith entryA)).lookup keyA = .found locA entryA ∧
      (batchState put1 (full [] [])).lookup keyA = .absent ∧ (full [] []).insert bucketA entryA = .full ∧
      (full [1] [.freeHead]).insert bucketA entryA = .failed ∧ (full [1] [.freeHead]).lookup bucketA keyA = .absent ∧
      (damage [.slot bucketA 0] (batchState put1 (tableWith entryA))).lookup keyA = .failed ∧
      ((holding 7 (holdA .standing) (batchState drop1 (tableWith entryA))).hold 7).bind Hold.key = some keyA := by decide

theorem witness_batch_changes :
    (∃ m, (full [1023] []).insert bucketA entryA = .written m) ∧ (∃ m, (tableWith entryA).drop locA = .written m) ∧
      { chained with damaged := [.freeHead] }.drop (.overflow bucketA 1023) = .failed :=
  ⟨⟨_, rfl⟩, ⟨_, rfl⟩, by decide⟩

/-- ListRequests: the four requests with their actions and states at the ends of their ranges and past them, a key that fails its
check, and the operation for a key absent, damaged, found and held at two lanes. -/
theorem witness_list_requests_took :
    (∀ bs : List Byte, (tookList (desc 17 0 bs)).ListTook listRing .revoke (desc 17 0 bs) ∧
      (tookList (desc 18 0 bs)).ListTook listRing .mark (desc 18 0 bs) ∧ (tookList (desc 19 0 bs)).ListTook listRing .query (desc 19 0 bs)) :=
  fun _ => ⟨list_took _ _ rfl, list_took _ _ rfl, list_took _ _ rfl⟩

theorem witness_list_request_fields :
    (desc 17 0 (keyABytes ++ [1])).byte 16 = 1 ∧ (desc 17 0 (keyABytes ++ [2])).byte 16 = 2 ∧
      ((desc 17 0 (keyABytes ++ [3])).byte 16 ≠ 1 ∧ (desc 17 0 (keyABytes ++ [3])).byte 16 ≠ 2) ∧
      ((desc 18 0 (keyABytes ++ [1])).byte 16).toNat ≤ 1 ∧ ¬((desc 18 0 (keyABytes ++ [2])).byte 16).toNat ≤ 1 ∧
      keyPasses (keyAt (desc 19 0 keyABytes).payload 0) = true ∧ keyPasses (keyAt (desc 19 0 []).payload 0) = false := by decide

def requesting (kind : Byte) (bs : List Byte) (t : TableMemory) : State :=
  atList (desc kind 0 (keyABytes ++ bs)) .request ((storing entryA live).setMemory t)

theorem requesting_at_port (kind : Byte) (bs : List Byte) (t : TableMemory) :
    (requesting kind bs t).ListAtPort listRing (desc kind 0 (keyABytes ++ bs)) .request := ⟨rfl, rfl, rfl, rfl, rfl⟩

def twiceHeld : State := holding 3 (holdA .standing) (holding 7 (holdA .standing) (requesting 18 [0] (tableWith entryA)))

theorem witness_list_request_lookups :
    keyAt (desc 17 0 (keyABytes ++ [1])).payload 0 = keyA ∧ (requesting 17 [1] (full [] [])).lookup keyA = .absent ∧
      (damage [.slot bucketA 0] (requesting 18 [1] (tableWith entryA))).lookup keyA = .failed ∧
      (requesting 19 [] (tableWith entryA)).lookup keyA = .found locA entryA ∧
      (∀ j, ¬(((requesting 19 [] (tableWith entryA)).hold j).bind Hold.key = some keyA)) ∧
      ((twiceHeld.hold 3).bind Hold.key = some keyA ∧ ∀ j, (twiceHeld.hold j).bind Hold.key = some keyA → 3 ≤ j) := by decide

/-- RebuildAndItsWalk: a REBUILD in each filter state, and a walk at bucket 0, at the stored entry's bucket and at the last, with and
without a word that fails. -/
def walking (b : Nat) : State := live.setTab ⟨12, 1, tableWith entryA, [], [], .rebuilding, b, []⟩

theorem witness_rebuild :
    (tookList (desc 20 0 [])).ListTook listRing .rebuild (desc 20 0 []) ∧ (tookList (desc 20 0 [])).tab.filter ≠ .rebuilding ∧
      ((tookList (desc 20 0 [])).setTab (walking 0).tab).tab.filter = .rebuilding ∧ (walking 0).tab.filter = .rebuilding ∧
      (walking 0).ctl.part = .running ∧ (walking 0).ctl.resetActive = false ∧ (walking 0).tab.port = [] ∧
      (walking 0).list.work = none ∧ 4094 + 1 < 2 ^ (walking 4094).tab.k ∧ 2 ^ (walking 4095).tab.k ≤ 4095 + 1 ∧
      TableWord.head 4095 ∈ (damage [.head 4095] (walking 4095)).tab.memory.damaged ∧
      (damage [] (walking 4095)).tab.memory.damaged = [] :=
  ⟨list_took _ _ rfl, by decide⟩

/-- 2.8, the walk-through: a bucket of the walk between two records of one LOAD. -/
theorem test_walk_between_two_records :
    (∀ d, (atList load1 (.loading 0 Counts.zero) (walking bucketA)).list.work ≠ some ⟨d, .request⟩) ∧
      after (.rebuildWalkBucket []) (atList load1 (.loading 0 Counts.zero) (walking bucketA))
        (fun t => decide (t.tab.walk = bucketA + 1 ∧ t.tab.shadow = [filterIndex keyA])) = true :=
  ⟨fun _ => by simp [atList, State.setList], by decide⟩

/-- SettingsRequests: the ZONE values at the ends of their ranges and one past them, a MONITOR request with every field at the end of its
range, one malformed in a field, and profiles 31 and 32. -/
theorem witness_settings_took (bs : List Byte) :
    (tookList (desc 21 0 bs)).ListTook listRing .zone (desc 21 0 bs) ∧
      (tookList (desc 22 0 bs)).ListTook listRing .monitor (desc 22 0 bs) ∧
      (tookList (desc 23 0 bs)).ListTook listRing .profile (desc 23 0 bs) :=
  ⟨list_took _ _ rfl, list_took _ _ rfl, list_took _ _ rfl⟩

def zoneDescOf (z a : Byte) (v : Word) : Desc := desc 21 0 ([z, a, 0, 0] ++ wordBytes v)

theorem witness_zone_fields :
    (∀ d ∈ [zoneDescOf 15 0 65535, zoneDescOf 0 2 0, zoneDescOf 15 1 65535, zoneDescOf 15 1 0xFFFF0001],
      ((d.byte 0).toNat < 16 ∧ (d.byte 1).toNat < 3) ∧ (parseZone d).isSome = true) ∧
      (∀ d ∈ [zoneDescOf 16 0 0, zoneDescOf 0 3 0, zoneDescOf 0 0 65536, zoneDescOf 0 2 65536, zoneDescOf 0 1 65536,
        zoneDescOf 0 1 0xFFFF0000], parseZone d = none) := by decide

def monitorOfEnds : List Byte :=
  [7, 1, 15, 1, 2, 7, 1, 3, 0xFF, 0xFF, 0, 0, 0xFF, 0xFF, 0, 0, 0xFF, 0xFF, 0, 0]

theorem witness_monitor_fields :
    ((desc 22 0 monitorOfEnds).byte 0 = BitVec.ofNat 8 (7 : MonitorId).val ∧ ((desc 22 0 monitorOfEnds).byte 0).toNat < 8 ∧
      (parseMonitorDesc (desc 22 0 monitorOfEnds)).isSome = true) ∧
      (∀ bs ∈ [monitorOfEnds.set 0 8, monitorOfEnds.set 2 16, monitorOfEnds.set 3 2, monitorOfEnds.set 4 3, monitorOfEnds.set 5 8,
        monitorOfEnds.set 7 4, monitorOfEnds.set 10 1, monitorOfEnds.set 14 1, monitorOfEnds.set 18 1],
        parseMonitorDesc (desc 22 0 bs) = none) := by decide

theorem witness_profile_fields :
    (desc 23 0 [31]).byte 0 = BitVec.ofNat 8 (31 : ProfileId).val ∧ 32 ≤ ((desc 23 0 [32]).byte 0).toNat := by decide

end Sys2Proof.Tests
end

section
/-! PROOFS. The packings of a barcode and of a card key byte by byte, the lookup that compares whole keys, and from them O15, O16
and O17 (R7, R8, R9, R22). -/

namespace Sys2Proof.Proofs.Credentials

open Sys2Proof Sys2Proof.Machine

/-! ## The bytes and the nibbles of a key -/

/-- A byte of a key given by a function. -/
theorem keyByte_ofFn (f : Fin 16 → Byte) {i : Nat} (h : i < 16) : keyByte (Vector.ofFn f) i = f ⟨i, h⟩ := by
  simp [keyByte, h]

theorem keyByte_eq_getElem (key : Key) {i : Nat} (h : i < 16) : keyByte key i = key[i] := by
  simp [keyByte, h]

theorem key_eq_iff_keyBytes (k1 k2 : Key) : k1 = k2 ↔ ∀ i, i < 16 → keyByte k1 i = keyByte k2 i := by
  refine ⟨fun h _ _ => by rw [h], fun h => Vector.ext fun i hi => ?_⟩
  rw [← keyByte_eq_getElem k1 hi, ← keyByte_eq_getElem k2 hi]
  exact h i hi

/-- An even nibble is the high half of its byte. -/
theorem keyNibble_even (key : Key) (i : Nat) : keyNibble key (2 * i) = (keyByte key (2 + i)).toNat / 16 := by
  simp [keyNibble]

/-- An odd nibble is the low half of its byte. -/
theorem keyNibble_odd (key : Key) (i : Nat) : keyNibble key (2 * i + 1) = (keyByte key (2 + i)).toNat % 16 := by
  have half : (2 * i + 1) / 2 = i := by omega
  simp [keyNibble, half]

theorem keyByte_eq_two_nibbles (key : Key) (i : Nat) :
    (keyByte key (2 + i)).toNat = 16 * keyNibble key (2 * i) + keyNibble key (2 * i + 1) := by
  rw [keyNibble_even, keyNibble_odd, Nat.div_add_mod]

/-! ## The key of a barcode (R7) -/

section Barcode

variable {ds : List Nat}

theorem keyByte_packBarcode_kind (ds : List Nat) : keyByte (packBarcode ds) 0 = 0x01 := keyByte_ofFn _ (by decide)

theorem keyByte_packBarcode_count (hc : ds.length ≤ 28) : (keyByte (packBarcode ds) 1).toNat = ds.length := by
  have count : keyByte (packBarcode ds) 1 = BitVec.ofNat 8 ds.length := keyByte_ofFn _ (by decide)
  rw [count, BitVec.toNat_ofNat]
  omega

theorem barcodeNibble_padding {j : Nat} (h : j < 28 - ds.length) : barcodeNibble ds j = 0 := if_pos h

theorem barcodeNibble_digit {n : Nat} (h : n < ds.length) : barcodeNibble ds (28 - ds.length + n) = ds[n] := by
  rw [barcodeNibble, if_neg (by omega), Nat.add_sub_cancel_left, List.getD_eq_getElem _ _ h]

/-- No nibble of decimal digits exceeds 9, so that two of them fit a byte. -/
theorem barcodeNibble_le_nine (hd : ∀ d ∈ ds, d ≤ 9) (j : Nat) : barcodeNibble ds j ≤ 9 := by
  unfold barcodeNibble
  split
  · omega
  · rw [List.getD_eq_getElem?_getD]
    cases h : ds[j - (28 - ds.length)]? with
    | none => exact Nat.zero_le 9
    | some d => exact hd d (List.mem_of_getElem? h)

/-- Bytes K2 to K15 before their halves are read apart. -/
theorem keyByte_packBarcode_pair (hd : ∀ d ∈ ds, d ≤ 9) {i : Nat} (hi : i < 14) :
    (keyByte (packBarcode ds) (2 + i)).toNat = 16 * barcodeNibble ds (2 * i) + barcodeNibble ds (2 * i + 1) := by
  have high := barcodeNibble_le_nine hd (2 * i)
  have low := barcodeNibble_le_nine hd (2 * i + 1)
  have fits : 16 * barcodeNibble ds (2 * i) + barcodeNibble ds (2 * i + 1) < 2 ^ 8 := by omega
  rw [packBarcode, keyByte_ofFn _ (show 2 + i < 16 by omega), if_neg (by simp), if_neg (by simp; omega), BitVec.toNat_ofNat]
  simpa using Nat.mod_eq_of_lt fits

theorem keyNibble_packBarcode (hd : ∀ d ∈ ds, d ≤ 9) {j : Nat} (hj : j < 28) :
    keyNibble (packBarcode ds) j = barcodeNibble ds j := by
  obtain ⟨i, rfl | rfl⟩ := j.even_or_odd'
  · have low := barcodeNibble_le_nine hd (2 * i + 1)
    rw [keyNibble_even, keyByte_packBarcode_pair hd (by omega)]
    omega
  · have low := barcodeNibble_le_nine hd (2 * i + 1)
    rw [keyNibble_odd, keyByte_packBarcode_pair hd (by omega)]
    omega

theorem keyNibble_packBarcode_digit (hc : ds.length ≤ 28) (hd : ∀ d ∈ ds, d ≤ 9) {n : Nat} (hn : n < ds.length) :
    keyNibble (packBarcode ds) (28 - ds.length + n) = ds[n] := by
  rw [keyNibble_packBarcode hd (by omega), barcodeNibble_digit hn]

end Barcode

/-- Settles O15: the nibbles read back as they were packed, two to a byte. -/
theorem barcodeKeyPacking : Obligations.BarcodeKeyPacking := by
  intro ds _ hc hd
  refine ⟨keyByte_packBarcode_kind ds, keyByte_packBarcode_count hc, fun j hj => ?_, fun n hn => ?_,
    fun i _ => keyByte_eq_two_nibbles _ i⟩
  · rw [keyNibble_packBarcode hd (by omega), barcodeNibble_padding hj]
  · rw [keyNibble_packBarcode_digit hc hd hn, List.getD_eq_getElem _ _ hn]

/-- Byte K1 tells digit counts apart. -/
theorem length_eq_of_packBarcode_count {ds1 ds2 : List Nat} (hc1 : ds1.length ≤ 28) (hc2 : ds2.length ≤ 28)
    (h : keyByte (packBarcode ds1) 1 = keyByte (packBarcode ds2) 1) : ds1.length = ds2.length := by
  rw [← keyByte_packBarcode_count hc1, ← keyByte_packBarcode_count hc2, h]

/-- Equal keys have equal counts, and then equal digits nibble by nibble. -/
theorem packBarcode_inj {ds1 ds2 : List Nat} (hc1 : ds1.length ≤ 28) (hc2 : ds2.length ≤ 28) (hd1 : ∀ d ∈ ds1, d ≤ 9)
    (hd2 : ∀ d ∈ ds2, d ≤ 9) (h : packBarcode ds1 = packBarcode ds2) : ds1 = ds2 := by
  have counts := length_eq_of_packBarcode_count hc1 hc2 (by rw [h])
  refine List.ext_getElem counts fun n h1 h2 => ?_
  rw [← keyNibble_packBarcode_digit hc1 hd1 h1, ← keyNibble_packBarcode_digit hc2 hd2 h2, h, counts]

/-! ## The key of a card (R8) -/

section Card

variable {uid : List Byte}

theorem keyByte_packCard_kind (uid : List Byte) : keyByte (packCard uid) 0 = 0x02 := keyByte_ofFn _ (by decide)

theorem keyByte_packCard_count (hc : uid.length ≤ 14) : (keyByte (packCard uid) 1).toNat = uid.length := by
  have count : keyByte (packCard uid) 1 = BitVec.ofNat 8 uid.length := keyByte_ofFn _ (by decide)
  rw [count, BitVec.toNat_ofNat]
  omega

theorem keyByte_packCard_padding {i : Nat} (h2 : 2 ≤ i) (h : i < 16 - uid.length) : keyByte (packCard uid) i = 0x00 := by
  rw [packCard, keyByte_ofFn _ (show i < 16 by omega)]
  rw [if_neg (by simp; omega), if_neg (by simp; omega), if_pos h]

theorem keyByte_packCard_uid (hc : uid.length ≤ 14) {n : Nat} (hn : n < uid.length) :
    keyByte (packCard uid) (16 - uid.length + n) = uid[n] := by
  rw [packCard, keyByte_ofFn _ (show 16 - uid.length + n < 16 by omega)]
  rw [if_neg (by simp; omega), if_neg (by simp; omega), if_neg (by simp), Nat.add_sub_cancel_left, List.getD_eq_getElem _ _ hn]

end Card

/-- The lengths of an accepted UID leave K0 and K1 free (R3). -/
theorem accepted_uid_length_le {uid : List Byte} (h : uid.length = 4 ∨ uid.length = 7 ∨ uid.length = 10) : uid.length ≤ 14 := by
  omega

/-- Settles O16: each byte of the key by its place against the padding. -/
theorem cardKeyPacking : Obligations.CardKeyPacking := by
  intro uid hu
  have hc := accepted_uid_length_le hu
  refine ⟨keyByte_packCard_kind uid, keyByte_packCard_count hc, fun n hn => ?_, fun _ => keyByte_packCard_padding⟩
  rw [keyByte_packCard_uid hc hn, List.getD_eq_getElem _ _ hn]

/-- Byte K1 tells UID lengths apart. -/
theorem length_eq_of_packCard_count {uid1 uid2 : List Byte} (hc1 : uid1.length ≤ 14) (hc2 : uid2.length ≤ 14)
    (h : keyByte (packCard uid1) 1 = keyByte (packCard uid2) 1) : uid1.length = uid2.length := by
  rw [← keyByte_packCard_count hc1, ← keyByte_packCard_count hc2, h]

/-- Equal keys have equal counts, and then equal UIDs byte by byte. -/
theorem packCard_inj {uid1 uid2 : List Byte} (hc1 : uid1.length ≤ 14) (hc2 : uid2.length ≤ 14)
    (h : packCard uid1 = packCard uid2) : uid1 = uid2 := by
  have counts := length_eq_of_packCard_count hc1 hc2 (by rw [h])
  refine List.ext_getElem counts fun n h1 h2 => ?_
  rw [← keyByte_packCard_uid hc1 h1, ← keyByte_packCard_uid hc2 h2, h, counts]

/-! ## The lookup compares whole keys (R9, R22) -/

section Lookup

variable {t : TableMemory} {b : Nat} {key : Key}

theorem mem_slotOrder (i : Fin 4) : i ∈ slotOrder := by
  revert i; decide

/-- A scan of main slots that ends at all ends in a find or in a failure. -/
theorem scanSlots_ne_absent (is : List (Fin 4)) : scanSlots t b key is ≠ some .absent := by
  induction is with
  | nil => simp [scanSlots]
  | cons i is ih =>
    simp only [scanSlots]
    split
    · simp
    · split
      · split
        · simp
        · exact ih
      · exact ih

/-- A scan of main slots passes them all where no word of them fails and none holds the key. -/
theorem scanSlots_eq_none_iff (is : List (Fin 4)) :
    scanSlots t b key is = none ↔
      ∀ i ∈ is, TableWord.slot b i ∉ t.damaged ∧ ∀ e, (t.bucket b).slots.get i = some e → e.key ≠ key := by
  induction is with
  | nil => simp [scanSlots]
  | cons i is ih =>
    rw [List.forall_mem_cons, ← ih]
    by_cases hw : TableWord.slot b i ∈ t.damaged
    · simp [scanSlots, TableMemory.fails, hw]
    · cases hs : (t.bucket b).slots.get i with
      | none => simp [scanSlots, TableMemory.fails, hw, hs]
      | some e => by_cases hk : e.key = key <;> simp [scanSlots, TableMemory.fails, hw, hs, hk]

/-- A chain is read to its end where no place of it fails and none holds the key. -/
theorem scanChain_eq_absent_iff (c : List (Nat × Entry)) :
    scanChain t b key c = .absent ↔ ∀ x ∈ c, TableWord.place x.1 ∉ t.damaged ∧ x.2.key ≠ key := by
  induction c with
  | nil => simp [scanChain]
  | cons x c ih =>
    rw [List.forall_mem_cons, ← ih]
    by_cases hw : TableWord.place x.1 ∈ t.damaged
    · simp [scanChain, TableMemory.fails, hw]
    · by_cases hk : x.2.key = key <;> simp [scanChain, TableMemory.fails, hw, hk]

/-- A bucket stores the entries of its main slots and of its chain. -/
theorem stores_iff_slot_or_chain (e : Entry) :
    t.Stores b e ↔ (∃ i, (t.bucket b).slots.get i = some e) ∨ ∃ x ∈ (t.bucket b).chain, x.2 = e := by
  have slots : some e ∈ (t.bucket b).slots.toList ↔ ∃ i, (t.bucket b).slots.get i = some e := by
    rw [Vector.mem_toList_iff, Vector.mem_iff_getElem]
    exact ⟨fun ⟨i, hi, h⟩ => ⟨⟨i, hi⟩, h⟩, fun ⟨i, h⟩ => ⟨i.val, i.isLt, h⟩⟩
  simp [TableMemory.Stores, Bucket.entries, slots]

/-- A lookup is absent exactly where no stored entry has the key and no word of the bucket's walk fails. -/
theorem lookup_eq_absent_iff :
    t.lookup b key = .absent ↔ (∀ e, t.Stores b e → e.key ≠ key) ∧ ∀ w ∈ t.walkWords b, w ∉ t.damaged := by
  have reads : t.lookup b key = .absent ↔
      scanSlots t b key slotOrder = none ∧ TableWord.head b ∉ t.damaged ∧ scanChain t b key (t.bucket b).chain = .absent := by
    unfold TableMemory.lookup
    cases hs : scanSlots t b key slotOrder with
    | none => by_cases hh : TableWord.head b ∈ t.damaged <;> simp [TableMemory.fails, hh]
    | some r =>
      have : r ≠ .absent := fun h => scanSlots_ne_absent slotOrder (h ▸ hs)
      simp [this]
  rw [reads, scanSlots_eq_none_iff, scanChain_eq_absent_iff]
  simp only [stores_iff_slot_or_chain, TableMemory.walkWords, List.mem_append, List.mem_map, List.mem_singleton]
  constructor
  · rintro ⟨slots, head, chain⟩
    refine ⟨?_, ?_⟩
    · rintro e (⟨i, hi⟩ | ⟨x, hx, rfl⟩)
      · exact (slots i (mem_slotOrder i)).2 e hi
      · exact (chain x hx).2
    · rintro w ((⟨i, hi, rfl⟩ | rfl) | ⟨x, hx, rfl⟩)
      · exact (slots i hi).1
      · exact head
      · exact (chain x hx).1
  · rintro ⟨keys, words⟩
    exact ⟨fun i hi => ⟨words _ (.inl (.inl ⟨i, hi, rfl⟩)), fun e he => keys e (.inl ⟨i, he⟩)⟩, words _ (.inl (.inr rfl)),
      fun x hx => ⟨words _ (.inr ⟨x, hx, rfl⟩), keys x.2 (.inr ⟨x, hx, rfl⟩)⟩⟩

theorem lookup_ne_absent_iff_of_undamaged (hd : t.damaged = []) :
    t.lookup b key ≠ .absent ↔ ∃ e, t.Stores b e ∧ e.key = key := by
  simp [lookup_eq_absent_iff, hd]

end Lookup

/-- Settles O17: bytes K0 and K1 tell kinds and counts apart, the packings are injective, and a lookup compares whole keys. -/
theorem keysKeepCredentialsApart : Obligations.KeysKeepCredentialsApart := by
  unfold Obligations.KeysKeepCredentialsApart
  intro digits card
  refine ⟨key_eq_iff_keyBytes, fun t b key hd => ?_, fun ds uid => ?_, ?_, ?_, ?_, ?_⟩
  · simp only [lookup_ne_absent_iff_of_undamaged hd, key_eq_iff_keyBytes]
  · have kinds : keyByte (packBarcode ds) 0 ≠ keyByte (packCard uid) 0 := by
      rw [keyByte_packBarcode_kind, keyByte_packCard_kind]
      decide
    exact ⟨kinds, fun h => kinds (by rw [h])⟩
  · rintro ds1 ds2 ⟨-, hc1, -⟩ ⟨-, hc2, -⟩ counts h
    exact counts (length_eq_of_packBarcode_count hc1 hc2 h)
  · intro uid1 uid2 h1 h2 counts h
    exact counts (length_eq_of_packCard_count (accepted_uid_length_le h1) (accepted_uid_length_le h2) h)
  · rintro ds1 ds2 ⟨-, hc1, hd1⟩ ⟨-, hc2, hd2⟩
    exact ⟨packBarcode_inj hc1 hc2 hd1 hd2, congrArg packBarcode⟩
  · intro uid1 uid2 h1 h2
    exact ⟨packCard_inj (accepted_uid_length_le h1) (accepted_uid_length_le h2), congrArg packCard⟩

end Sys2Proof.Proofs.Credentials
end

section
/-! PROOFS. What each term specification asks of the values of its term, the terms a watch specification watches, and from them
O21 (R137). -/

namespace Sys2Proof.Proofs.Watch

open Sys2Proof Sys2Proof.Machine

/-! ## A term specification -/

section Specification

variable (spec : TermSpec) (p n : Bool)

/-- Only the level specifications are satisfied before an event. -/
theorem before_eq_true_iff : spec.before p = true ↔ (spec = .low ∧ p = false) ∨ (spec = .high ∧ p = true) := by
  cases spec with
  | low | high => simp [TermSpec.before]
  | ignore | fall | rise | either => simp [TermSpec.before]

/-- The level specifications read the new value alone, the edge specifications both. -/
theorem after_eq_true_iff :
    spec.after p n = true ↔
      (spec = .low ∧ n = false) ∨ (spec = .high ∧ n = true) ∨ (spec = .rise ∧ p = false ∧ n = true) ∨
        (spec = .fall ∧ p = true ∧ n = false) ∨ (spec = .either ∧ p ≠ n) := by
  cases spec with
  | ignore => simp [TermSpec.after]
  | low | high => simp [TermSpec.after]
  | fall | rise | either => simp [TermSpec.after]

/-- At a term that keeps its value no edge is satisfied, and a level is satisfied after only where it was before. -/
theorem before_of_after_self (h : spec.after p p = true) : spec.before p = true := by
  rw [before_eq_true_iff]
  obtain low | high | ⟨-, hp, hn⟩ | ⟨-, hp, hn⟩ | ⟨-, changed⟩ := (after_eq_true_iff spec p p).1 h
  · exact .inl low
  · exact .inr high
  · exact absurd (hp.symm.trans hn) Bool.false_ne_true
  · exact absurd (hn.symm.trans hp) Bool.false_ne_true
  · exact absurd rfl changed

end Specification

/-! ## The watched and the newly satisfied terms -/

section Terms

variable {w : WatchSpec} {p n : Terms} {t : Fin 6}

theorem mem_termOrder (t : Fin 6) : t ∈ termOrder := by
  revert t
  decide

theorem mem_watched_iff : t ∈ w.watched ↔ w.terms.get t ≠ .ignore := by
  simp [WatchSpec.watched, mem_termOrder]

theorem mem_newly_iff :
    t ∈ w.newly p n ↔
      w.terms.get t ≠ .ignore ∧ (w.terms.get t).after (p.val t) (n.val t) = true ∧
        (w.terms.get t).before (p.val t) = false := by
  simp [WatchSpec.newly, mem_watched_iff]

theorem not_mem_newly_of_val_eq (h : p.val t = n.val t) : t ∉ w.newly p n := by
  rw [mem_newly_iff, ← h]
  rintro ⟨-, after, before⟩
  exact Bool.false_ne_true (before.symm.trans (before_of_after_self _ _ after))

end Terms

/-- Settles O21: a level is satisfied on the one value it reads, an edge on a change, and a term that keeps its value is never newly
satisfied. -/
theorem termSatisfaction : Obligations.TermSatisfaction := by
  unfold Obligations.TermSatisfaction
  intro w p n t
  exact ⟨before_eq_true_iff _ _, after_eq_true_iff _ _ _, mem_newly_iff, not_mem_newly_of_val_eq⟩

end Sys2Proof.Proofs.Watch
end

section
/-! PROOFS. The raw result of a monitor in each of its modes, the settings at which it is never true, what an evaluation and a
recomputation make of the output there, and from them O23 (R154, R155, R159). -/

namespace Sys2Proof.Proofs.Monitors

open Sys2Proof Sys2Proof.Machine

section Rules

variable {m : Monitor} {n : Nat}

/-! ## The raw result (R154) -/

theorem raw_level_iff (hmode : m.mode = .level) : m.raw n = true ↔ m.level < n := by
  simp [Monitor.raw, hmode]

theorem raw_window_iff (hmode : m.mode = .window) : m.raw n = true ↔ m.low < n ∧ n < m.high := by
  simp [Monitor.raw, hmode]

theorem raw_level_eq_false (hmode : m.mode = .level) (h : n ≤ m.level) : m.raw n = false := by
  rw [← Bool.not_eq_true, raw_level_iff hmode]
  exact Nat.not_lt.2 h

/-- No whole number lies strictly between the bounds of an empty window. -/
theorem raw_window_eq_false (hmode : m.mode = .window) (empty : m.high ≤ m.low + 1) : m.raw n = false := by
  rw [← Bool.not_eq_true, raw_window_iff hmode]
  rintro ⟨above, below⟩
  exact Nat.not_lt.2 empty (Nat.lt_of_le_of_lt above below)

/-! ## The output (R155, R159) -/

/-- An evaluation that agrees with the output clears the count and changes nothing else. -/
theorem evaluate_of_raw_eq_output (h : m.raw n = m.output) : m.evaluate n = { m with count := 0 } := by
  rw [Monitor.evaluate, if_pos h]

@[simp] theorem recompute_output : (m.recompute n).output = (m.enable && m.raw n) := rfl

end Rules

/-- Settles O23: the two comparisons are strict, and where no occupancy meets them the output neither rises nor is computed true. -/
theorem monitorRawResult : Obligations.MonitorRawResult := by
  unfold Obligations.MonitorRawResult
  intro m n hn
  refine ⟨raw_level_iff, raw_window_iff, ?levelTop, ?emptyWindow, ?wholeWindow⟩
  case levelTop =>
    intro hmode hlevel
    exact raw_level_eq_false hmode (hlevel ▸ hn)
  case emptyWindow =>
    intro hmode hempty
    have never : m.raw n = false := raw_window_eq_false hmode hempty
    refine ⟨never, fun low => ?_, ?_⟩
    · rw [evaluate_of_raw_eq_output (never.trans low.symm)]
      exact low
    · rw [recompute_output, never, Bool.and_false]
  case wholeWindow =>
    intro hmode hlow hhigh
    rw [raw_window_iff hmode, hlow, hhigh]
    omega

end Sys2Proof.Proofs.Monitors
end

section
/-! PROOFS. The step at the front of the queue, and the conditions at reset: O1 and O4. -/

namespace Sys2Proof.Proofs.Reset

open Sys2Proof Sys2Proof.Machine

/-- Settles O1: the front command leaves the queue, and what is left of the state is the state with the queue's rest. -/
theorem stepRunsFrontCommand : Obligations.StepRunsFrontCommand := by
  unfold Obligations.StepRunsFrontCommand
  intro c q s
  exact rfl

/-! ## The conditions at reset -/

@[simp] theorem reset_hold (i : LaneId) : State.reset.hold i = none := by
  simp [State.hold, State.reset, Vector.get]

@[simp] theorem reset_lane (i : LaneId) : State.reset.lane i = Lane.powerOn := by
  simp [State.lane, State.reset, Vector.get]

@[simp] theorem reset_zone (z : ZoneId) : State.reset.zone z = ⟨0, 0, 0⟩ := by
  simp [State.zone, State.reset, Vector.get]

@[simp] theorem reset_monitor (m : MonitorId) : State.reset.monitor m = Monitor.powerOn := by
  simp [State.monitor, State.reset, Vector.get]

theorem powerOn_monitor_sound : Monitor.powerOn.Sound := by
  simp [Monitor.Sound, Monitor.powerOn]

theorem reset_memory_stores_nothing (b : Nat) (e : Entry) : ¬State.reset.tab.memory.Stores b e := by
  simp [TableMemory.Stores, TableMemory.bucket, State.reset, TableMemory.powerOn, sparseGet, Bucket.empty, Bucket.entries]

theorem powerOn_memory_sound : TableMemory.powerOn.Sound :=
  ⟨⟨List.Pairwise.nil, fun _ h => by cases h⟩, fun _ h => by cases h⟩

theorem reset_trackersSound : State.reset.TrackersSound := fun i => by
  rw [reset_lane]
  exact ⟨⟨rfl, rfl⟩, fun _ => rfl⟩

theorem reset_modesSound : State.reset.ModesSound := fun i => by
  rw [reset_lane]
  simp [Lane.powerOn, Levels.low]

theorem reset_reservedCounts : State.reset.ReservedCounts := fun z => by
  simp [State.entryHolds, reserves]

theorem reset_tableSound : State.reset.TableSound := by
  refine ⟨powerOn_memory_sound, ?_, fun h => by cases h⟩
  rintro (h | h) <;> cases h

/-- Settles O4: at reset nothing is stored, held, queued or programmed. -/
theorem resetMeetsEveryCondition : Obligations.ResetMeetsEveryCondition := by
  unfold Obligations.ResetMeetsEveryCondition
  refine ⟨Memory.reset_wf, ⟨Nat.zero_le _, Nat.zero_le _⟩, ?zones, ?monitors, reset_trackersSound, reset_modesSound, ?placed,
    ?distinct, reset_reservedCounts, reset_tableSound, ?keys, ?filter, ?held⟩
  case zones => exact fun z => by rw [reset_zone]; exact ⟨Nat.zero_le _, Nat.zero_le _⟩
  case monitors => exact fun m => by rw [reset_monitor]; exact powerOn_monitor_sound
  case placed => exact fun i h hi => by simp at hi
  case distinct => exact fun i j k hi => by simp at hi
  case keys => exact fun m hm => by cases hm
  case filter => exact ⟨fun _ b e h => absurd h (reset_memory_stores_nothing b e), fun h => by cases h⟩
  case held => exact fun i h key loc tier hi => by simp at hi

end Sys2Proof.Proofs.Reset
end

section
/-! PROOFS. Which watch events are matches, and when a monitor's output changes: O22 and O24. -/

namespace Sys2Proof.Proofs.Watch

open Sys2Proof Sys2Proof.Machine

section Matches

variable {w : WatchSpec} {p n : Terms}

theorem edge_eq_true_iff (spec : TermSpec) : spec.edge = true ↔ spec = .fall ∨ spec = .rise ∨ spec = .either := by
  cases spec <;> simp [TermSpec.edge]

theorem before_of_edge {spec : TermSpec} (h : spec.edge = true) (v : Bool) : spec.before v = false := by
  cases spec <;> simp_all [TermSpec.edge, TermSpec.before]

theorem watched_ne_nil_iff : w.watched ≠ [] ↔ ∃ t, w.terms.get t ≠ .ignore := by
  rw [List.ne_nil_iff_length_pos, List.length_pos_iff_exists_mem]
  simp [mem_watched_iff]

/-- The condition of an ALL match, as R138 gives it. -/
theorem matched_all_iff (hm : w.mode = .all) :
    w.matched p n = true ↔
      (∃ t, w.terms.get t ≠ .ignore) ∧
        (∀ t, w.terms.get t ≠ .ignore → (w.terms.get t).after (p.val t) (n.val t) = true) ∧
        ((∃ t, w.terms.get t = .fall ∨ w.terms.get t = .rise ∨ w.terms.get t = .either) ∨
          ∃ t, w.terms.get t ≠ .ignore ∧ (w.terms.get t).before (p.val t) = false) := by
  have edges : (∃ t, w.terms.get t ≠ .ignore ∧ (w.terms.get t).edge = true) ↔
      ∃ t, w.terms.get t = .fall ∨ w.terms.get t = .rise ∨ w.terms.get t = .either := by
    refine exists_congr fun t => ?_
    rw [edge_eq_true_iff, and_iff_right_of_imp]
    rintro (h | h | h) <;> rw [h] <;> decide
  simp only [WatchSpec.matched, hm, Bool.and_eq_true, Bool.or_eq_true, Bool.not_eq_true', List.isEmpty_eq_false_iff,
    List.all_eq_true, List.any_eq_true, watched_ne_nil_iff, mem_watched_iff, and_assoc, edges]

theorem matched_other_iff (hm : w.mode ≠ .all) : w.matched p n = true ↔ ∃ t, t ∈ w.newly p n := by
  have nonempty : (!(w.newly p n).isEmpty) = true ↔ ∃ t, t ∈ w.newly p n := by
    rw [Bool.not_eq_true', List.isEmpty_eq_false_iff, List.ne_nil_iff_length_pos, List.length_pos_iff_exists_mem]
  cases h : w.mode with
  | all => exact absurd h hm
  | any => simpa only [WatchSpec.matched, h] using nonempty
  | first => simpa only [WatchSpec.matched, h] using nonempty

/-- A match in ALL mode has a newly satisfied term: an edge term, or the term that was not satisfied before. -/
theorem newly_of_matched (h : w.matched p n = true) : ∃ t, t ∈ w.newly p n := by
  by_cases hm : w.mode = .all
  · obtain ⟨-, after, edge | ⟨t, watched, before⟩⟩ := (matched_all_iff hm).1 h
    · obtain ⟨t, ht⟩ := edge
      have watched : w.terms.get t ≠ .ignore := by rcases ht with e | e | e <;> rw [e] <;> decide
      exact ⟨t, mem_newly_iff.2 ⟨watched, after t watched, before_of_edge ((edge_eq_true_iff _).2 ht) _⟩⟩
    · exact ⟨t, mem_newly_iff.2 ⟨watched, after t watched, before⟩⟩
  · exact (matched_other_iff hm).1 h

theorem matched_of_ignored (h : ∀ t, w.terms.get t = .ignore) : w.matched p n = false := by
  refine Bool.eq_false_iff.2 fun hm => ?_
  obtain ⟨t, ht⟩ := newly_of_matched hm
  exact (mem_newly_iff.1 ht).1 (h t)

end Matches

/-- Settles O22: in each mode a match is what R138 says, and it always has a newly satisfied term. -/
theorem watchMatch : Obligations.WatchMatch := by
  unfold Obligations.WatchMatch
  intro w p n
  refine ⟨?_, matched_of_ignored, newly_of_matched⟩
  split
  · next hm => exact matched_all_iff hm
  · next hm => exact matched_other_iff hm

end Sys2Proof.Proofs.Watch

namespace Sys2Proof.Proofs.Monitors

open Sys2Proof Sys2Proof.Machine

section Steadiness

variable {m : Monitor}

theorem evaluate_of_raw_ne_output {n : Nat} (h : m.raw n = !m.output) (hc : m.count < m.steadiness) :
    m.evaluate n = { m with count := m.count + 1 } := by
  rw [Monitor.evaluate, if_neg (by rw [h]; exact Bool.not_ne_self m.output), if_pos hc]

theorem evaluate_of_raw_ne_output_last {n : Nat} (h : m.raw n = !m.output) (hc : m.steadiness ≤ m.count) :
    m.evaluate n = { m with output := !m.output, count := 0 } := by
  rw [Monitor.evaluate, if_neg (by rw [h]; exact Bool.not_ne_self m.output), if_neg (Nat.not_lt.2 hc), h]

/-- A run of evaluations against the output that stays within the steadiness only counts. -/
theorem foldl_evaluate_within (ns : List Nat) (hraw : ∀ n ∈ ns, m.raw n = !m.output) (hc : m.count + ns.length ≤ m.steadiness) :
    ns.foldl Monitor.evaluate m = { m with count := m.count + ns.length } := by
  induction ns generalizing m with
  | nil => rfl
  | cons n ns ih =>
    rw [List.length_cons] at hc
    rw [List.foldl_cons, evaluate_of_raw_ne_output (hraw n List.mem_cons_self) (by omega),
      ih (m := { m with count := m.count + 1 }) (fun k hk => hraw k (List.mem_cons_of_mem _ hk)) (by show m.count + 1 + _ ≤ m.steadiness; omega)]
    simp only [List.length_cons, Nat.add_assoc, Nat.add_comm 1]

end Steadiness

/-- Settles O24: a run no longer than the steadiness counts up, the next evaluation changes the output, and one that agrees starts
the count again. -/
theorem monitorSteadiness : Obligations.MonitorSteadiness := by
  unfold Obligations.MonitorSteadiness
  intro m ns hzero hraw
  have within : ∀ ks : List Nat, (∀ n ∈ ks, m.raw n = !m.output) → ks.length ≤ m.steadiness →
      ks.foldl Monitor.evaluate m = { m with count := ks.length } := fun ks hk hl => by
    rw [foldl_evaluate_within ks hk (by omega), hzero, Nat.zero_add]
  refine ⟨within ns hraw, fun hl => ?_, fun n hn hl => ?_⟩
  · obtain ⟨ks, k, rfl⟩ : ∃ ks k, ns = ks ++ [k] :=
      ⟨ns.dropLast, _, (List.dropLast_append_getLast (List.ne_nil_of_length_eq_add_one hl)).symm⟩
    rw [List.length_append, List.length_singleton] at hl
    have hlen : ks.length = m.steadiness := by omega
    rw [List.foldl_append, within ks (fun n hn => hraw n (List.mem_append_left _ hn)) hlen.le, List.foldl_cons, List.foldl_nil,
      evaluate_of_raw_ne_output_last (m := { m with count := ks.length }) (hraw k (by simp)) hlen.ge]
    rw [← hzero]
  · show (ns.foldl Monitor.evaluate m).evaluate n = m
    rw [within ns hraw hl, evaluate_of_raw_eq_output (m := { m with count := ns.length }) hn, ← hzero]

end Sys2Proof.Proofs.Monitors
end

section
/-! PROOFS. The check of a packed key, the MOD10 test and the placement arithmetic: O18, O19 and O20. -/

namespace Sys2Proof.Proofs.Credentials

open Sys2Proof Sys2Proof.Machine

/-! ## The check of a packed key (R14) -/

section Presentable

variable {k : Key}

/-- The digits that a barcode's key shows after its padding. -/
def digitsShown (k : Key) : List Nat :=
  (List.range (keyByte k 1).toNat).map (fun n => keyNibble k (28 - (keyByte k 1).toNat + n))

/-- The UID bytes that a card's key shows after its padding. -/
def uidShown (k : Key) : List Byte :=
  (List.range (keyByte k 1).toNat).map (fun n => keyByte k (16 - (keyByte k 1).toNat + n))

theorem keyPasses_barcode_iff (hk : keyByte k 0 = 0x01) :
    keyPasses k = true ↔ (6 ≤ (keyByte k 1).toNat ∧ (keyByte k 1).toNat ≤ 28) ∧
      ∀ j, j < 28 → if j < 28 - (keyByte k 1).toNat then keyNibble k j = 0 else keyNibble k j ≤ 9 := by
  simp only [keyPasses, hk, if_true, Bool.and_eq_true, decide_eq_true_eq, List.all_eq_true, List.mem_range]
  refine and_congr_right fun _ => forall_congr' fun j => forall_congr' fun _ => ?_
  split <;> simp

theorem keyPasses_card_iff (hk : keyByte k 0 = 0x02) :
    keyPasses k = true ↔ ((keyByte k 1).toNat = 4 ∨ (keyByte k 1).toNat = 7 ∨ (keyByte k 1).toNat = 10) ∧
      ∀ i, 2 ≤ i → i < 16 - (keyByte k 1).toNat → keyByte k i = 0 := by
  have hne : ¬((0x02 : Byte) = 0x01) := by decide
  simp only [keyPasses, hk, if_neg hne, if_true, Bool.and_eq_true, decide_eq_true_eq, List.all_eq_true, List.mem_range,
    Bool.or_eq_true, Bool.not_eq_true', decide_eq_false_iff_not]
  refine and_congr_right fun _ => ⟨fun h i h2 hi => ?_, fun h i _ => ?_⟩
  · exact (h i (by omega)).resolve_left (fun n => n ⟨h2, hi⟩)
  · by_cases hi : 2 ≤ i ∧ i < 16 - (keyByte k 1).toNat
    · exact .inr (h i hi.1 hi.2)
    · exact .inl hi

theorem keyPasses_kind (h : keyPasses k = true) : keyByte k 0 = 0x01 ∨ keyByte k 0 = 0x02 := by
  by_contra hn
  rw [not_or] at hn
  rw [keyPasses, if_neg hn.1, if_neg hn.2] at h
  exact Bool.false_ne_true h

/-- A barcode's packing passes the check. -/
theorem keyPasses_packBarcode {ds : List Nat} (h6 : 6 ≤ ds.length) (h28 : ds.length ≤ 28) (hd : ∀ d ∈ ds, d ≤ 9) :
    keyPasses (packBarcode ds) = true := by
  rw [keyPasses_barcode_iff (keyByte_packBarcode_kind ds), keyByte_packBarcode_count h28]
  refine ⟨⟨h6, h28⟩, fun j hj => ?_⟩
  rw [keyNibble_packBarcode hd hj]
  split
  · next h => exact barcodeNibble_padding h
  · exact barcodeNibble_le_nine hd j

/-- A card's packing passes the check. -/
theorem keyPasses_packCard {uid : List Byte} (h : uid.length = 4 ∨ uid.length = 7 ∨ uid.length = 10) :
    keyPasses (packCard uid) = true := by
  rw [keyPasses_card_iff (keyByte_packCard_kind uid), keyByte_packCard_count (accepted_uid_length_le h)]
  exact ⟨h, fun i h2 hi => keyByte_packCard_padding h2 hi⟩

theorem digitsShown_length (k : Key) : (digitsShown k).length = (keyByte k 1).toNat := by simp [digitsShown]

theorem uidShown_length (k : Key) : (uidShown k).length = (keyByte k 1).toNat := by simp [uidShown]

/-- A nibble of a barcode's key that passes is the one the packing of its digits gives. -/
theorem barcodeNibble_digitsShown (h28 : (keyByte k 1).toNat ≤ 28)
    (pad : ∀ j, j < 28 - (keyByte k 1).toNat → keyNibble k j = 0) {j : Nat} (hj : j < 28) :
    barcodeNibble (digitsShown k) j = keyNibble k j := by
  by_cases h : j < 28 - (keyByte k 1).toNat
  · rw [barcodeNibble_padding (by rwa [digitsShown_length]), pad j h]
  · obtain ⟨n, rfl⟩ : ∃ n, j = 28 - (keyByte k 1).toNat + n := ⟨_, (Nat.add_sub_cancel' (Nat.not_lt.1 h)).symm⟩
    have hn : n < (digitsShown k).length := by rw [digitsShown_length]; omega
    have := barcodeNibble_digit hn
    rw [digitsShown_length] at this
    rw [this]
    simp [digitsShown]

/-- A key of a barcode that passes the check is the packing of the digits it shows. -/
theorem packBarcode_digitsShown (hk : keyByte k 0 = 0x01) (h28 : (keyByte k 1).toNat ≤ 28)
    (pad : ∀ j, j < 28 - (keyByte k 1).toNat → keyNibble k j = 0) (small : ∀ d ∈ digitsShown k, d ≤ 9) :
    packBarcode (digitsShown k) = k := by
  refine (key_eq_iff_keyBytes _ _).2 fun i hi => BitVec.eq_of_toNat_eq ?_
  match i with
  | 0 => rw [keyByte_packBarcode_kind, hk]
  | 1 => rw [keyByte_packBarcode_count (by rw [digitsShown_length]; exact h28), digitsShown_length]
  | i + 2 =>
    rw [Nat.add_comm i 2, keyByte_eq_two_nibbles, keyByte_eq_two_nibbles k, keyNibble_packBarcode small (by omega),
      keyNibble_packBarcode small (by omega), barcodeNibble_digitsShown h28 pad (by omega),
      barcodeNibble_digitsShown h28 pad (by omega)]

/-- A key of a card that passes the check is the packing of the UID it shows. -/
theorem packCard_uidShown (hk : keyByte k 0 = 0x02) (h14 : (keyByte k 1).toNat ≤ 14)
    (pad : ∀ i, 2 ≤ i → i < 16 - (keyByte k 1).toNat → keyByte k i = 0) : packCard (uidShown k) = k := by
  have hlen := uidShown_length k
  refine (key_eq_iff_keyBytes _ _).2 fun i hi => ?_
  match i with
  | 0 => rw [keyByte_packCard_kind, hk]
  | 1 => exact BitVec.eq_of_toNat_eq (by rw [keyByte_packCard_count (by omega), hlen])
  | i + 2 =>
    by_cases h : i + 2 < 16 - (keyByte k 1).toNat
    · rw [keyByte_packCard_padding (by omega) (by omega), pad _ (by omega) h]
    · obtain ⟨n, hn⟩ : ∃ n, i + 2 = 16 - (keyByte k 1).toNat + n := ⟨_, (Nat.add_sub_cancel' (Nat.not_lt.1 h)).symm⟩
      have := keyByte_packCard_uid (uid := uidShown k) (by omega) (n := n) (by omega)
      rw [hn, ← hlen, this]
      simp [uidShown]

end Presentable

/-- Settles O18: the check is that of the digits or the UID that the key shows, and these pack to the key again. -/
theorem packedKeyCheckPassesPresentableKeys : Obligations.PackedKeyCheckPassesPresentableKeys := by
  unfold Obligations.PackedKeyCheckPassesPresentableKeys
  intro k
  constructor
  · intro h
    rcases keyPasses_kind h with hk | hk
    · obtain ⟨⟨h6, h28⟩, nibbles⟩ := (keyPasses_barcode_iff hk).1 h
      have pad : ∀ j, j < 28 - (keyByte k 1).toNat → keyNibble k j = 0 := fun j hj => by
        simpa only [if_pos hj] using nibbles j (by omega)
      have small : ∀ d ∈ digitsShown k, d ≤ 9 := by
        intro d hd
        obtain ⟨n, hn, rfl⟩ := List.mem_map.1 hd
        rw [List.mem_range] at hn
        simpa only [if_neg (show ¬28 - (keyByte k 1).toNat + n < 28 - (keyByte k 1).toNat by omega)] using
          nibbles (28 - (keyByte k 1).toNat + n) (by omega)
      exact .inl ⟨digitsShown k, by rwa [digitsShown_length], by rwa [digitsShown_length], small,
        packBarcode_digitsShown hk h28 pad small⟩
    · obtain ⟨count, pad⟩ := (keyPasses_card_iff hk).1 h
      exact .inr ⟨uidShown k, by rwa [uidShown_length], packCard_uidShown hk (by omega) pad⟩
  · rintro (⟨ds, h6, h28, hd, rfl⟩ | ⟨uid, hu, rfl⟩)
    · exact keyPasses_packBarcode h6 h28 hd
    · exact keyPasses_packCard hu

/-! ## The MOD10 test (R5) -/

/-- What the digit with number `i + 1` from the right adds to the sum, where `even` says that the first number is even. -/
def mod10Term (even : Bool) (i d : Nat) : Nat := if (i + 1) % 2 = (if even then 0 else 1) then d else doubled d

theorem mod10Sum_eq_sum (even : Bool) (l : List Nat) :
    mod10Sum even l = ((List.range l.length).map (fun i => mod10Term even i (l.getD i 0))).sum := by
  induction l generalizing even with
  | nil => cases even <;> rfl
  | cons d ds ih =>
    have shift : ((fun i => mod10Term even i ((d :: ds).getD i 0)) ∘ Nat.succ) = fun i => mod10Term (!even) i (ds.getD i 0) := by
      funext i
      have parity : (i + 1 + 1) % 2 = 1 - (i + 1) % 2 := by omega
      rcases Nat.mod_two_eq_zero_or_one (i + 1) with h | h <;> cases even <;> simp [mod10Term, parity, h]
    simp only [List.length_cons, List.range_succ_eq_map, List.map_cons, List.map_map, List.sum_cons]
    rw [shift, ← ih (!even)]
    cases even <;> simp [mod10Sum, mod10Term]

theorem mod10Sum_append_zero (even : Bool) (l : List Nat) : mod10Sum even (l ++ [0]) = mod10Sum even l := by
  induction l generalizing even with
  | nil => cases even <;> rfl
  | cons d ds ih => cases even <;> simp [mod10Sum, ih]

/-- Settles O19: the sum taken from the right end is the sum over the numbered digits, and a last 0 adds nothing to it. -/
theorem mod10Test : Obligations.Mod10Test := by
  unfold Obligations.Mod10Test
  intro ds _
  constructor
  · rw [mod10Passes, decide_eq_true_eq, ← Nat.dvd_iff_mod_eq_zero, mod10Sum_eq_sum, List.length_reverse]
    have same : ∀ i ∈ List.range ds.length, mod10Term false i (ds.reverse.getD i 0) =
        if (i + 1) % 2 = 1 then ds.getD (ds.length - 1 - i) 0 else doubled (ds.getD (ds.length - 1 - i) 0) := by
      intro i hi
      rw [List.mem_range] at hi
      have rev : ds.reverse.getD i 0 = ds.getD (ds.length - 1 - i) 0 := by
        rw [List.getD_eq_getElem _ _ (by simpa using hi), List.getD_eq_getElem _ _ (by omega), List.getElem_reverse]
      simp only [mod10Term, rev, Bool.false_eq_true, if_false]
    rw [List.map_congr_left same]
    rfl
  · simp only [mod10Passes, List.reverse_cons, mod10Sum_append_zero]

/-! ## The placement arithmetic (R10 to R13) -/

theorem wordOf_toNat (a b c d : Byte) :
    (wordOf a b c d).toNat = 16777216 * d.toNat + 65536 * c.toNat + 256 * b.toNat + a.toNat := by
  have h := wordOf_detailBytes a.toNat b.toNat c.toNat d.toNat
  simp only [BitVec.ofNat_toNat, BitVec.setWidth_eq] at h
  rw [h, detailBytes, BitVec.toNat_ofNat]
  have := a.isLt; have := b.isLt; have := c.isLt; have := d.isLt
  omega

/-- Mixing a value's upper half into its lower half keeps the upper half. -/
theorem xor_upper_half {a : Nat} (ha : a < 2 ^ 32) :
    (a ^^^ a / 65536) / 65536 = a / 65536 ∧ (a ^^^ a / 65536) % 65536 = (a % 65536) ^^^ (a / 65536) := by
  have small : a / 65536 < 2 ^ 16 := by omega
  constructor
  · rw [show 65536 = 2 ^ 16 from rfl, ← Nat.shiftRight_eq_div_pow, ← Nat.shiftRight_eq_div_pow,
      Nat.shiftRight_xor_distrib, Nat.shiftRight_eq_div_pow (a >>> 16), Nat.shiftRight_eq_div_pow a,
      Nat.div_eq_of_lt (a := a / 2 ^ 16) small, Nat.xor_zero]
  · rw [show 65536 = 2 ^ 16 from rfl, Nat.xor_mod_two_pow, Nat.mod_eq_of_lt (a := a / 2 ^ 16) small]

/-- Settles O20: the words are big-endian sums, exclusive or acts on them as numbers, and a shift is a division. -/
theorem placementOfAKey : Obligations.PlacementOfAKey := by
  unfold Obligations.PlacementOfAKey
  intro key k w a m
  have word : ∀ i, (keyWord key i).toNat = w i := fun i => wordOf_toNat _ _ _ _
  have fold : (keyFold key).toNat = a := by simp only [keyFold, BitVec.toNat_xor, word]; rfl
  have mix : (keyMix key).toNat = m := by
    simp only [keyMix, BitVec.toNat_xor, BitVec.toNat_ushiftRight, fold, Nat.shiftRight_eq_div_pow]; rfl
  have filter : filterIndex key = m / 16384 := by
    rw [filterIndex, BitVec.toNat_ushiftRight, mix, Nat.shiftRight_eq_div_pow]
  have halves := xor_upper_half (fold ▸ (keyFold key).isLt)
  refine ⟨mix, halves.1, halves.2, by rw [bucketIndex, mix], filter, ?_⟩
  have := (keyMix key).isLt
  omega

end Sys2Proof.Proofs.Credentials
end

section
/-! PROOFS. What every operation keeps, stated once as a relation between the state before and the state after an operation, with a
ledger of what a command under way has still to make good; and that relation for the updates of single fields. -/

namespace Sys2Proof.Proofs.Keeping

open Sys2Proof Sys2Proof.Machine

/-! ## The ledger -/

/-- What a command under way still owes to the conditions of Safety.lean: at which lanes the mode still follows an earlier FIRE level,
which lanes setup has not programmed yet, at which lane a hold's reservation is given back before the hold is removed, and whether a
STOP is removing the holds of a part that is already HALTED. -/
structure Ledger where
  late : LaneId → Option Bool
  unset : LaneId → Bool
  paid : Option LaneId
  halting : Bool

/-- Nothing is owed. -/
def Ledger.clear : Ledger := ⟨fun _ => none, fun _ => false, none, false⟩

/-- The ledger while the mode of lane `i` follows an earlier FIRE level, or follows the level again. -/
def Ledger.setLate (g : Ledger) (i : LaneId) (b : Option Bool) : Ledger := { g with late := Function.update g.late i b }

/-- The ledger while the reservation of a lane's hold is given back, or again none is. -/
def Ledger.setPaid (g : Ledger) (i : Option LaneId) : Ledger := { g with paid := i }

/-- What R125 says of one lane with a FIRE level and with or without a hold. -/
def ModeSound (fire hold : Bool) (l : Lane) : Prop :=
  (l.mode = .emergency ↔ fire = true) ∧ (l.afterEmergency.isSome = true ↔ l.mode = .emergency) ∧
    (l.pendingMode.isSome = true → hold = true)

/-- What R116 and R121 say of one lane. -/
def TrackerSound (l : Lane) : Prop := l.tracker.Sound ∧ (l.enabled = false → l.tracker = Tracker.atRest)

/-- The modes are sound but for what the ledger owes. -/
def Ledger.Modes (g : Ledger) (s : State) : Prop :=
  ∀ i, g.unset i = true ∨ ModeSound ((g.late i).getD (s.lane i).level.fire) (s.hold i).isSome (s.lane i)

/-- The holds are placed but for what the ledger owes. -/
def Ledger.Placed (g : Ledger) (s : State) : Prop := g.halting = true ∨ s.HoldsPlaced

/-- The ENTRY holds of a zone whose reservation is not given back. -/
def Ledger.entryHolds (g : Ledger) (s : State) (z : ZoneId) : Nat :=
  laneOrder.countP (fun i => decide (g.paid ≠ some i) && reserves z (s.hold i))

/-- The reserved counts agree but for what the ledger owes. -/
def Ledger.Reserved (g : Ledger) (s : State) : Prop := g.halting = true ∨ ∀ z, (s.zone z).reserved = g.entryHolds s z

@[simp] theorem clear_modes (s : State) : Ledger.clear.Modes s ↔ s.ModesSound := by
  simp [Ledger.Modes, Ledger.clear, State.ModesSound, ModeSound]

@[simp] theorem clear_placed (s : State) : Ledger.clear.Placed s ↔ s.HoldsPlaced := by simp [Ledger.Placed, Ledger.clear]

@[simp] theorem clear_reserved (s : State) : Ledger.clear.Reserved s ↔ s.ReservedCounts := by
  simp [Ledger.Reserved, Ledger.clear, State.ReservedCounts, Ledger.entryHolds, State.entryHolds]

/-! ## What is kept -/

/-- From `s` with ledger `g` to `t` with ledger `g'` every condition outside the ticket table is kept, and the queue of commands. -/
structure UnitsKept (g : Ledger) (s : State) (g' : Ledger) (t : State) : Prop where
  pending : t.pending = s.pending
  memory : Memory.wf s.xmem → Memory.wf t.xmem
  journal : s.jrn.Bounded → t.jrn.Bounded
  zones : s.ZonesBounded → t.ZonesBounded
  monitors : s.MonitorsSound → t.MonitorsSound
  trackers : (∀ i, TrackerSound (s.lane i)) → ∀ i, TrackerSound (t.lane i)
  modes : g.Modes s → g'.Modes t
  placed : g.Placed s → g'.Placed t
  distinct : s.HoldsDistinct → t.HoldsDistinct
  reserved : g.Placed s → g.Reserved s → g'.Reserved t

/-- From `s` with ledger `g` to `t` with ledger `g'` every condition is kept. -/
structure Kept (g : Ledger) (s : State) (g' : Ledger) (t : State) : Prop extends UnitsKept g s g' t where
  table : s.TableSound → t.TableSound
  keys : s.TableSound → s.KeysPlaced → t.KeysPlaced
  filter : s.TableSound → s.FilterSound → t.FilterSound
  held : g.Placed s → s.TableSound → s.HeldEntries → t.HeldEntries

theorem UnitsKept.trans {g g' g'' : Ledger} {s t u : State} (a : UnitsKept g s g' t) (b : UnitsKept g' t g'' u) :
    UnitsKept g s g'' u where
  pending := b.pending.trans a.pending
  memory := b.memory ∘ a.memory
  journal := b.journal ∘ a.journal
  zones := b.zones ∘ a.zones
  monitors := b.monitors ∘ a.monitors
  trackers := b.trackers ∘ a.trackers
  modes := b.modes ∘ a.modes
  placed := b.placed ∘ a.placed
  distinct := b.distinct ∘ a.distinct
  reserved hp hr := b.reserved (a.placed hp) (a.reserved hp hr)

theorem Kept.trans {g g' g'' : Ledger} {s t u : State} (a : Kept g s g' t) (b : Kept g' t g'' u) : Kept g s g'' u where
  toUnitsKept := a.toUnitsKept.trans b.toUnitsKept
  table := b.table ∘ a.table
  keys ht hk := b.keys (a.table ht) (a.keys ht hk)
  filter ht hf := b.filter (a.table ht) (a.filter ht hf)
  held hp ht hh := b.held (a.placed hp) (a.table ht) (a.held hp ht hh)

theorem Kept.refl (g : Ledger) (s : State) : Kept g s g s :=
  ⟨⟨rfl, id, id, id, id, id, id, id, id, fun _ => id⟩, id, fun _ => id, fun _ => id, fun _ _ => id⟩

theorem Kept.foldl {α : Type} {g : Ledger} (f : State → α → State) (hf : ∀ s x, Kept g s g (f s x)) (l : List α) (s : State) :
    Kept g s g (l.foldl f s) := by
  induction l generalizing s with
  | nil => exact Kept.refl g s
  | cons x l ih => exact (hf s x).trans (ih (f s x))

/-! ## Operations that leave the ticket table alone -/

/-- The table is left as it is but for its damage and its port, and every hold binds what it bound before. -/
structure TableFrame (s t : State) : Prop where
  tab : t.tab = { s.tab with memory := { s.tab.memory with damaged := t.tab.memory.damaged }, port := t.tab.port }
  part : t.ctl.part = s.ctl.part
  setupComplete : t.ctl.setupComplete = s.ctl.setupComplete
  kinds : ∀ i h, t.hold i = some h → ∃ h', s.hold i = some h' ∧ h'.kind = h.kind

section TableFrame

variable {s t : State}

theorem TableFrame.table (f : TableFrame s t) (h : s.TableSound) : t.TableSound := by
  obtain ⟨sound, complete, marker⟩ := h
  refine ⟨?_, ?_, ?_⟩
  · rw [f.tab]; exact sound
  · rw [f.part, f.setupComplete]; exact complete
  · rw [f.tab, f.setupComplete]; exact marker

theorem TableFrame.stores (f : TableFrame s t) (b : Nat) (e : Entry) : t.tab.memory.Stores b e ↔ s.tab.memory.Stores b e := by
  rw [f.tab]; exact Iff.rfl

theorem TableFrame.keys (f : TableFrame s t) (h : s.KeysPlaced) : t.KeysPlaced := by
  unfold State.KeysPlaced
  rw [f.tab]
  exact h

theorem TableFrame.filter (f : TableFrame s t) (h : s.FilterSound) : t.FilterSound := by
  unfold State.FilterSound
  rw [f.tab, f.part]
  exact h

theorem TableFrame.held (f : TableFrame s t) (h : s.HeldEntries) : t.HeldEntries := by
  intro i x key loc tier hold kind
  obtain ⟨x', hold', kind'⟩ := f.kinds i x hold
  rw [f.tab]
  exact h i x' key loc tier hold' (kind'.trans kind)

theorem UnitsKept.of_tableFrame {g g' : Ledger} (u : UnitsKept g s g' t) (f : TableFrame s t) : Kept g s g' t :=
  ⟨u, f.table, fun _ => f.keys, fun _ => f.filter, fun _ _ => f.held⟩

end TableFrame

theorem kinds_of_holds_eq {s t : State} (h : t.holds = s.holds) (i : LaneId) (x : Hold) (hx : t.hold i = some x) :
    ∃ x', s.hold i = some x' ∧ x'.kind = x.kind := by
  refine ⟨x, ?_, rfl⟩
  rw [← hx, State.hold, State.hold, h]

/-! ## Operations that no condition sees -/

/-- A lane changes in nothing that a condition speaks of. -/
structure LaneQuiet (l l' : Lane) : Prop where
  enabled : l'.enabled = l.enabled
  direction : l'.direction = l.direction
  zone : l'.zone = l.zone
  fire : l'.level.fire = l.level.fire
  tracker : l'.tracker = l.tracker
  mode : l'.mode = l.mode
  afterEmergency : l'.afterEmergency = l.afterEmergency
  pendingMode : l'.pendingMode = l.pendingMode

theorem LaneQuiet.refl (l : Lane) : LaneQuiet l l := by constructor <;> rfl

/-- An operation changes nothing that a condition speaks of but the exchange memory and the journal, and keeps these. -/
structure Quiet (s t : State) : Prop where
  pending : t.pending = s.pending
  memory : Memory.wf s.xmem → Memory.wf t.xmem
  journal : s.jrn.Bounded → t.jrn.Bounded
  zones : t.zones = s.zones
  monitors : t.monitors = s.monitors
  holds : t.holds = s.holds
  lanes : ∀ i, LaneQuiet (s.lane i) (t.lane i)
  part : t.ctl.part = s.ctl.part
  setupComplete : t.ctl.setupComplete = s.ctl.setupComplete
  tab : t.tab = { s.tab with memory := { s.tab.memory with damaged := t.tab.memory.damaged }, port := t.tab.port }

theorem TrackerSound.of_quiet {l l' : Lane} (q : LaneQuiet l l') (h : TrackerSound l) : TrackerSound l' := by
  unfold TrackerSound
  rw [q.enabled, q.tracker]
  exact h

theorem ModeSound.of_quiet {l l' : Lane} {f h : Bool} (q : LaneQuiet l l') (m : ModeSound f h l) : ModeSound f h l' := by
  unfold ModeSound
  rw [q.mode, q.afterEmergency, q.pendingMode]
  exact m

theorem Quiet.kept {s t : State} (q : Quiet s t) (g : Ledger) : Kept g s g t := by
  have hold : ∀ i, t.hold i = s.hold i := fun i => congrArg (fun v => v.get i) q.holds
  have zone : ∀ z, t.zone z = s.zone z := fun z => congrArg (fun v => v.get z) q.zones
  have monitor : ∀ m, t.monitor m = s.monitor m := fun m => congrArg (fun v => v.get m) q.monitors
  refine UnitsKept.of_tableFrame
    { pending := q.pending, memory := q.memory, journal := q.journal, zones := fun h z => ?_, monitors := fun h m => ?_,
      trackers := fun h i => (h i).of_quiet (q.lanes i), modes := fun h i => ?_, placed := fun h => ?_, distinct := fun h => ?_,
      reserved := fun _ h => ?_ }
    ⟨q.tab, q.part, q.setupComplete, kinds_of_holds_eq q.holds⟩
  · rw [zone]; exact h z
  · rw [monitor]; exact h m
  · rw [hold, (q.lanes i).fire]
    exact (h i).imp id (fun m => m.of_quiet (q.lanes i))
  · refine h.imp id fun placed i x hx => ?_
    rw [q.part, (q.lanes i).enabled, (q.lanes i).direction, (q.lanes i).zone]
    exact placed i x (by rwa [← hold])
  · intro i j k hi hj
    rw [hold] at hi hj
    exact h i j k hi hj
  · refine h.imp id fun counts z => ?_
    rw [zone, counts z]
    simp only [Ledger.entryHolds, hold]

theorem Quiet.trans {s t u : State} (a : Quiet s t) (b : Quiet t u) : Quiet s u where
  pending := b.pending.trans a.pending
  memory := b.memory ∘ a.memory
  journal := b.journal ∘ a.journal
  zones := b.zones.trans a.zones
  monitors := b.monitors.trans a.monitors
  holds := b.holds.trans a.holds
  lanes i :=
    ⟨(b.lanes i).enabled.trans (a.lanes i).enabled, (b.lanes i).direction.trans (a.lanes i).direction,
      (b.lanes i).zone.trans (a.lanes i).zone, (b.lanes i).fire.trans (a.lanes i).fire,
      (b.lanes i).tracker.trans (a.lanes i).tracker, (b.lanes i).mode.trans (a.lanes i).mode,
      (b.lanes i).afterEmergency.trans (a.lanes i).afterEmergency, (b.lanes i).pendingMode.trans (a.lanes i).pendingMode⟩
  part := b.part.trans a.part
  setupComplete := b.setupComplete.trans a.setupComplete
  tab := by rw [b.tab, a.tab]

theorem Quiet.refl (s : State) : Quiet s s :=
  ⟨rfl, id, id, rfl, rfl, rfl, fun _ => LaneQuiet.refl _, rfl, rfl, rfl⟩

/-- A frame of Laws/Frames.lean with the two conditions that it leaves open. -/
theorem Quiet.of_journalFrame {s t : State} (f : JournalFrame s t) (memory : Memory.wf s.xmem → Memory.wf t.xmem)
    (journal : s.jrn.Bounded → t.jrn.Bounded) : Quiet s t where
  pending := f.pending
  memory := memory
  journal := journal
  zones := f.zones
  monitors := f.monitors
  holds := f.holds
  lanes i := by rw [State.lane, State.lane, f.lanes]; exact LaneQuiet.refl _
  part := by rw [f.ctl]
  setupComplete := by rw [f.ctl]
  tab := by rw [f.tab]

theorem setLane_quiet (s : State) (i : LaneId) (l : Lane) (q : LaneQuiet (s.lane i) l) : Quiet s (s.setLane i l) :=
  { Quiet.refl s with
    lanes := fun j => by
      rw [State.setLane_lane]
      split
      · next h => exact h ▸ q
      · exact LaneQuiet.refl _ }

theorem setCtl_quiet (s : State) (c : Control) (part : c.part = s.ctl.part) (complete : c.setupComplete = s.ctl.setupComplete) :
    Quiet s (s.setCtl c) :=
  { Quiet.refl s with part := part, setupComplete := complete }

theorem setClk_quiet (s : State) (c : Clock) : Quiet s (s.setClk c) := { Quiet.refl s with }

theorem setGate_quiet (s : State) (x : GateUnit) : Quiet s (s.setGate x) := { Quiet.refl s with }

theorem setList_quiet (s : State) (x : ListUnit) : Quiet s (s.setList x) := { Quiet.refl s with }

theorem setAdm_quiet (s : State) (x : Admission) : Quiet s (s.setAdm x) := { Quiet.refl s with }

theorem setCfg_quiet (s : State) (x : RingConfig) : Quiet s (s.setCfg x) := { Quiet.refl s with }

theorem setPort_quiet (s : State) (p : List PortRequest) : Quiet s (s.setTab { s.tab with port := p }) := { Quiet.refl s with tab := rfl }

theorem damage_quiet (bad : List TableWord) (s : State) : Quiet s (damage bad s) := { Quiet.refl s with tab := rfl }

theorem setJrn_quiet (s : State) (j : Journal) (h : s.jrn.Bounded → j.Bounded) : Quiet s (s.setJrn j) :=
  { Quiet.refl s with journal := h }

theorem setXmem_quiet (s : State) (m : List Host.Cell) (h : Memory.wf s.xmem → Memory.wf m) : Quiet s (s.setXmem m) :=
  { Quiet.refl s with memory := h }

theorem writeBytes_quiet (s : State) (a : Nat) (bs : List Byte) : Quiet s (s.writeBytes a bs) :=
  setXmem_quiet s _ (Memory.writeBytes_wf bs s.xmem a)

theorem notify_quiet (f : NoticeFlag) (s : State) : Quiet s (notify f s) := setCtl_quiet s _ rfl rfl

theorem Quiet.foldl {α : Type} (f : State → α → State) (hf : ∀ s x, Quiet s (f s x)) (l : List α) (s : State) :
    Quiet s (l.foldl f s) := by
  induction l generalizing s with
  | nil => exact Quiet.refl s
  | cons x l ih => exact (hf s x).trans (ih (f s x))

/-! ## Lanes, zones and monitors -/

/-- The ledger owes the same but at lane `i`. -/
structure Ledger.SameBut (i : LaneId) (g g' : Ledger) : Prop where
  late : ∀ j, j ≠ i → g'.late j = g.late j
  unset : ∀ j, j ≠ i → g'.unset j = g.unset j
  paid : g'.paid = g.paid
  halting : g'.halting = g.halting

theorem Ledger.SameBut.refl (i : LaneId) (g : Ledger) : Ledger.SameBut i g g := ⟨fun _ _ => rfl, fun _ _ => rfl, rfl, rfl⟩

theorem Ledger.SameBut.setLate (i : LaneId) (b : Option Bool) (g : Ledger) : Ledger.SameBut i g (g.setLate i b) :=
  ⟨fun _ h => Function.update_of_ne h _ _, fun _ _ => rfl, rfl, rfl⟩

/-- A lane is written: it keeps its own conditions, and its settings where the part is RUNNING. -/
theorem setLane_kept {g g' : Ledger} {s : State} {i : LaneId} {l : Lane} (owed : Ledger.SameBut i g g')
    (tracker : TrackerSound (s.lane i) → TrackerSound l)
    (mode : (g.unset i = true ∨ ModeSound ((g.late i).getD (s.lane i).level.fire) (s.hold i).isSome (s.lane i)) →
      g'.unset i = true ∨ ModeSound ((g'.late i).getD l.level.fire) (s.hold i).isSome l)
    (settings : (l.enabled = (s.lane i).enabled ∧ l.direction = (s.lane i).direction ∧ l.zone = (s.lane i).zone) ∨
      s.ctl.part ≠ .running) :
    Kept g s g' (s.setLane i l) := by
  refine UnitsKept.of_tableFrame
    { pending := rfl, memory := id, journal := id, zones := id, monitors := id, trackers := fun h j => ?_, modes := fun h j => ?_,
      placed := fun h => ?_, distinct := id, reserved := fun _ h => ?_ } ⟨rfl, rfl, rfl, kinds_of_holds_eq rfl⟩
  · rw [State.setLane_lane]
    split
    · next e => exact tracker (h i)
    · exact h j
  · rw [State.setLane_lane, State.setLane_hold]
    split
    · next e => subst e; exact mode (h j)
    · next e => rw [owed.late j e, owed.unset j e]; exact h j
  · refine h.imp (owed.halting.trans) fun placed j x hx => ?_
    obtain ⟨running, enabled, direction, zone⟩ := placed j x hx
    refine ⟨running, ?_⟩
    rw [State.setLane_lane]
    split
    · next e =>
      obtain ⟨e1, e2, e3⟩ := settings.resolve_right (fun n => n running)
      subst e
      rw [e1, e2, e3]
      exact ⟨enabled, direction, zone⟩
    · exact ⟨enabled, direction, zone⟩
  · refine h.imp (owed.halting.trans) fun counts z => ?_
    rw [State.setLane_zone, counts z, Ledger.entryHolds, Ledger.entryHolds, owed.paid]
    rfl

/-- A zone is written within its bounds, with its reserved count, or with 0 while no hold can be in force. -/
theorem setZone_kept {g : Ledger} {s : State} {z : ZoneId} {x : Zone}
    (bounds : s.ZonesBounded → x.capacity ≤ Config.countLimit ∧ x.occupancy ≤ Config.countLimit)
    (count : x.reserved = (s.zone z).reserved ∨ x.reserved = 0 ∧ s.ctl.part ≠ .running) : Kept g s g (s.setZone z x) := by
  refine UnitsKept.of_tableFrame
    { pending := rfl, memory := id, journal := id, zones := fun h y => ?_, monitors := id, trackers := id, modes := id,
      placed := id, distinct := id, reserved := fun hp h => ?_ } ⟨rfl, rfl, rfl, kinds_of_holds_eq rfl⟩
  · rw [State.setZone_zone]
    split
    · exact bounds h
    · exact h y
  · rcases hp with halting | placed
    · exact .inl halting
    · refine h.imp id fun counts y => ?_
      rw [State.setZone_zone]
      split
      · next e =>
        subst e
        rcases count with same | ⟨zero, halted⟩
        · rw [same, counts y]; rfl
        · have empty : ∀ j, s.hold j = none := fun j => Option.eq_none_iff_forall_ne_some.2 fun h hj => halted (placed j h hj).1
          simp [zero, Ledger.entryHolds, empty, reserves]
      · exact counts y

/-- A monitor is written with a sound one. -/
theorem setMonitor_kept {g : Ledger} {s : State} {n : MonitorId} {m : Monitor} (sound : s.MonitorsSound → m.Sound) :
    Kept g s g (s.setMonitor n m) := by
  refine UnitsKept.of_tableFrame
    { pending := rfl, memory := id, journal := id, zones := id, monitors := fun h k => ?_, trackers := id, modes := id,
      placed := id, distinct := id, reserved := fun _ => id } ⟨rfl, rfl, rfl, kinds_of_holds_eq rfl⟩
  rw [State.setMonitor_monitor]
  split
  · exact sound h
  · exact h k

/-! ## Holds -/

/-- A hold is replaced by one that binds the same, at the same direction and zone. -/
theorem replaceHold_kept {g : Ledger} {s : State} {i : LaneId} {h h' : Hold} (hold : s.hold i = some h) (kind : h'.kind = h.kind)
    (direction : h'.direction = h.direction) (zone : h'.zone = h.zone) : Kept g s g (s.setHold i (some h')) := by
  have some_iff : ∀ j, ((s.setHold i (some h')).hold j).isSome = (s.hold j).isSome := fun j => by
    rw [State.setHold_hold]; split
    · next e => subst e; rw [hold]; rfl
    · rfl
  have key : ∀ j, ((s.setHold i (some h')).hold j).bind Hold.key = (s.hold j).bind Hold.key := fun j => by
    rw [State.setHold_hold]; split
    · next e => subst e; simp only [hold, Option.bind_some, Hold.key, kind]
    · rfl
  have counted : ∀ j z, reserves z ((s.setHold i (some h')).hold j) = reserves z (s.hold j) := fun j z => by
    rw [State.setHold_hold]; split
    · next e => subst e; simp only [hold, reserves, direction, zone]
    · rfl
  refine UnitsKept.of_tableFrame
    { pending := rfl, memory := id, journal := id, zones := id, monitors := id, trackers := id, modes := fun m j => ?_,
      placed := fun p => ?_, distinct := fun d j k x hj hk => ?_, reserved := fun _ r => ?_ } ⟨rfl, rfl, rfl, fun j x hx => ?_⟩
  · rw [some_iff]; exact m j
  · refine p.imp id fun placed j x hx => ?_
    rw [State.setHold_hold] at hx
    split at hx
    · next e => subst e; cases hx; rw [direction, zone]; exact placed j h hold
    · exact placed j x hx
  · rw [key] at hj hk; exact d j k x hj hk
  · refine r.imp id fun counts z => ?_
    simp only [Ledger.entryHolds, counted]
    exact counts z
  · rw [State.setHold_hold] at hx
    split at hx
    · next e => subst e; cases hx; exact ⟨h, hold, kind.symm⟩
    · exact ⟨x, hx, rfl⟩

theorem mem_laneOrder (i : LaneId) : i ∈ laneOrder := by revert i; decide

theorem nodup_laneOrder : laneOrder.Nodup := by decide

/-- A count without one member. -/
theorem countP_without {α : Type} [DecidableEq α] (p : α → Bool) (a : α) (l : List α) (nodup : l.Nodup) (mem : a ∈ l) :
    l.countP (fun j => decide (some a ≠ some j) && p j) + (if p a then 1 else 0) = l.countP p := by
  induction l with
  | nil => cases mem
  | cons x l ih =>
    rw [List.nodup_cons] at nodup
    rcases List.mem_cons.1 mem with rfl | mem
    · have same : l.countP (fun j => decide (some a ≠ some j) && p j) = l.countP p :=
        List.countP_congr fun j hj => by
          have : a ≠ j := fun e => nodup.1 (e ▸ hj)
          simp [this]
      rw [List.countP_cons, List.countP_cons, same]
      simp
    · have ne : a ≠ x := fun e => nodup.1 (e ▸ mem)
      rw [List.countP_cons, List.countP_cons, ← ih nodup.2 mem]
      simp only [ne_eq, Option.some.injEq, ne, not_false_eq_true, decide_true, Bool.true_and]
      omega

/-- With the reservation of a lane's hold given back, the holds that count are one fewer in its zone. -/
theorem entryHolds_setPaid {g : Ledger} (s : State) (i : LaneId) (z : ZoneId) (paid : g.paid = none) :
    (g.setPaid (some i)).entryHolds s z + (if reserves z (s.hold i) then 1 else 0) = g.entryHolds s z := by
  have h := countP_without (fun j => reserves z (s.hold j)) i laneOrder nodup_laneOrder (mem_laneOrder i)
  simp only [Ledger.entryHolds, Ledger.setPaid, paid]
  simpa using h

/-- The reserved count of each zone after a hold's reservation is taken. -/
theorem takeReserved_zone (h : Hold) (s : State) (z : ZoneId) :
    (takeReserved h s).zone z =
      { s.zone z with reserved := (s.zone z).reserved + if reserves z (some h) then 1 else 0 } := by
  unfold takeReserved reserves
  split
  · next hd =>
    rw [State.setZone_zone]
    by_cases e : z = h.zone
    · subst e; simp [hd]
    · simp [if_neg e, hd, Ne.symm e]
  · next hd => simp [hd]

/-- The reserved count of each zone after a hold's reservation is given back. -/
theorem releaseReserved_zone (h : Hold) (s : State) (z : ZoneId) :
    (releaseReserved h s).zone z =
      { s.zone z with reserved := (s.zone z).reserved - if reserves z (some h) then 1 else 0 } := by
  unfold releaseReserved reserves
  split
  · next hd =>
    rw [State.setZone_zone]
    by_cases e : z = h.zone
    · subst e; simp [hd]
    · simp [if_neg e, hd, Ne.symm e]
  · next hd => simp [hd]

/-- A reservation touches the zones alone. -/
theorem takeReserved_eq (h : Hold) (s : State) : ∃ v, takeReserved h s = { s with zones := v } := by
  unfold takeReserved
  split
  · exact ⟨_, rfl⟩
  · exact ⟨s.zones, rfl⟩

/-- A reservation given back touches the zones alone. -/
theorem releaseReserved_eq (h : Hold) (s : State) : ∃ v, releaseReserved h s = { s with zones := v } := by
  unfold releaseReserved
  split
  · exact ⟨_, rfl⟩
  · exact ⟨s.zones, rfl⟩

/-- The reservation of a lane's hold is given back before its removal. -/
theorem releaseReserved_kept {g : Ledger} {s : State} {i : LaneId} {h : Hold} (paid : g.paid = none) (hold : s.hold i = some h) :
    Kept g s (g.setPaid (some i)) (releaseReserved h s) := by
  have zone := releaseReserved_zone h s
  obtain ⟨v, hv⟩ := releaseReserved_eq h s
  rw [hv] at zone ⊢
  refine UnitsKept.of_tableFrame
    { pending := rfl, memory := id, journal := id, zones := fun b z => ?_, monitors := id, trackers := id, modes := id,
      placed := id, distinct := id, reserved := fun _ r => r.imp id fun counts z => ?_ } ⟨rfl, rfl, rfl, kinds_of_holds_eq rfl⟩
  · rw [zone]; exact b z
  · have count := entryHolds_setPaid (g := g) s i z paid
    rw [hold] at count
    rw [zone]
    show (s.zone z).reserved - _ = (g.setPaid (some i)).entryHolds s z
    rw [counts z, ← count, Nat.add_sub_cancel]

/-- A hold whose reservation is given back, or that a STOP removes, goes with the lane's pending mode. -/
theorem dropHold_kept {g : Ledger} {s : State} {i : LaneId} (due : g.paid = some i ∨ g.halting = true) :
    Kept g s (g.setPaid none) ((s.setHold i none).setLane i { s.lane i with pendingMode := none }) := by
  have lane : ∀ j, ((s.setHold i none).setLane i { s.lane i with pendingMode := none }).lane j =
      if j = i then { s.lane i with pendingMode := none } else s.lane j := fun j => by rw [State.setLane_lane]; rfl
  have hold : ∀ j, ((s.setHold i none).setLane i { s.lane i with pendingMode := none }).hold j =
      if j = i then none else s.hold j := fun j => by rw [State.setLane_hold, State.setHold_hold]
  have of_some : ∀ {j x}, ((s.setHold i none).setLane i { s.lane i with pendingMode := none }).hold j = some x →
      j ≠ i ∧ s.hold j = some x := fun {j x} hx => by
    rw [hold] at hx
    split at hx
    · cases hx
    · next e => exact ⟨e, hx⟩
  refine UnitsKept.of_tableFrame
    { pending := rfl, memory := id, journal := id, zones := id, monitors := id, trackers := fun t j => ?_, modes := fun m j => ?_,
      placed := fun p => ?_, distinct := fun d j k x hj hk => ?_, reserved := fun _ r => ?_ }
    ⟨rfl, rfl, rfl, fun j x hx => ⟨x, (of_some hx).2, rfl⟩⟩
  · rw [lane]; split
    · exact t i
    · exact t j
  · rw [lane, hold]; split
    · next e =>
      subst e
      refine (m j).imp id fun ⟨fire, after, _⟩ => ⟨fire, after, fun no => by cases no⟩
    · exact m j
  · refine p.imp id fun placed j x hx => ?_
    obtain ⟨ne, hx⟩ := of_some hx
    rw [lane, if_neg ne]
    exact placed j x hx
  · rw [hold] at hj hk
    split at hj
    · cases hj
    · split at hk
      · cases hk
      · exact d j k x hj hk
  · rcases due with paid | halting
    · refine r.imp id fun counts z => ?_
      refine (counts z).trans (List.countP_congr fun j _ => ?_)
      rw [hold]
      by_cases e : j = i
      · simp [e, paid, reserves]
      · simp [paid, e, Ledger.setPaid, Ne.symm e]
    · exact .inl halting

/-- A hold is created at an enabled lane of a RUNNING part: for a credential with no other hold of its key, and stored. -/
theorem createHold_kept {g : Ledger} {s : State} {i : LaneId} {kind : HoldKind} (paid : g.paid = none) (free : s.hold i = none)
    (running : s.ctl.part = .running) (enabled : (s.lane i).enabled = true)
    (unheld : ∀ key loc tier, kind = .credential key loc tier → ∀ j, (s.hold j).bind Hold.key ≠ some key)
    (stored : s.TableSound → ∀ key loc tier, kind = .credential key loc tier → ∃ e, s.tab.memory.entryAt loc = some e ∧ e.key = key) :
    Kept g s g (createHold i kind s) := by
  obtain ⟨v, hv⟩ := takeReserved_eq (s.newHold i kind) (s.setHold i (some (s.newHold i kind)))
  have eq : createHold i kind s = { s.setHold i (some (s.newHold i kind)) with zones := v } := hv
  have zone : ∀ z, (createHold i kind s).zone z =
      { s.zone z with reserved := (s.zone z).reserved + if reserves z (some (s.newHold i kind)) then 1 else 0 } :=
    takeReserved_zone _ _
  have hold : ∀ j, (createHold i kind s).hold j = if j = i then some (s.newHold i kind) else s.hold j := fun j => by
    rw [eq]; exact State.setHold_hold _ _ _ _
  have ctl : (createHold i kind s).ctl = s.ctl := by rw [eq]; rfl
  have tab : (createHold i kind s).tab = s.tab := by rw [eq]; rfl
  have lane : ∀ j, (createHold i kind s).lane j = s.lane j := fun j => by rw [eq]; rfl
  refine
    { pending := by rw [eq]; rfl, memory := by rw [eq]; exact id, journal := by rw [eq]; exact id, zones := fun b z => ?_,
      monitors := by rw [eq]; exact id, trackers := fun h j => (lane j).symm ▸ h j, modes := fun m j => ?_, placed := fun p => ?_,
      distinct := fun d j k x hj hk => ?_, reserved := fun _ r => ?_, table := fun h => ?_, keys := fun _ h => ?_,
      filter := fun _ h => ?_, held := fun _ ht h j x key loc tier hx hk => ?_ }
  · rw [zone]; exact b z
  · rw [lane, hold]
    refine (m j).imp id fun ⟨fire, after, wait⟩ => ⟨fire, after, fun w => ?_⟩
    split
    · rfl
    · exact wait w
  · refine p.imp id fun placed j x hx => ?_
    rw [hold] at hx
    rw [ctl, lane]
    split at hx
    · next e => subst e; cases hx; exact ⟨running, enabled, rfl, rfl⟩
    · exact placed j x hx
  · have new : ∀ {j}, ((createHold i kind s).hold j).bind Hold.key = some x → j ≠ i → ((s.hold j).bind Hold.key) = some x :=
      fun h ne => by rwa [hold, if_neg ne] at h
    have made : ∀ {j}, ((createHold i kind s).hold j).bind Hold.key = some x → j = i →
        ∀ k', (s.hold k').bind Hold.key ≠ some x := fun {j} h e => by
      rw [hold, if_pos e] at h
      cases hkind : kind with
      | manual => simp [Hold.key, State.newHold, hkind] at h
      | credential key loc tier =>
        simp only [Option.bind_some, Hold.key, State.newHold, hkind, Option.some.injEq] at h
        exact h ▸ unheld key loc tier hkind
    by_cases ej : j = i <;> by_cases ek : k = i
    · exact ej.trans ek.symm
    · exact absurd (new hk ek) (made hj ej k)
    · exact absurd (new hj ej) (made hk ek j)
    · exact d j k x (new hj ej) (new hk ek)
  · refine r.imp id fun counts z => ?_
    have without := countP_without (fun j => reserves z ((createHold i kind s).hold j)) i laneOrder nodup_laneOrder (mem_laneOrder i)
    have others : laneOrder.countP (fun j => decide (some i ≠ some j) && reserves z ((createHold i kind s).hold j)) =
        laneOrder.countP (fun j => reserves z (s.hold j)) := List.countP_congr fun j _ => by
      rw [hold]
      by_cases e : j = i
      · simp [e, free, reserves]
      · simp [e, Ne.symm e]
    have before := counts z
    simp only [Ledger.entryHolds, paid, ne_eq, reduceCtorEq, not_false_eq_true, decide_true, Bool.true_and] at before ⊢
    simp only [others] at without
    rw [zone, ← without, hold, if_pos rfl]
    show (s.zone z).reserved + _ = _
    rw [before]
  · unfold State.TableSound; rw [ctl, tab]; exact h
  · unfold State.KeysPlaced; rw [tab]; exact h
  · unfold State.FilterSound; rw [ctl, tab]; exact h
  · rw [tab]
    rw [hold] at hx
    split at hx
    · cases hx; exact stored ht key loc tier hk
    · exact h j x key loc tier hx hk

end Sys2Proof.Proofs.Keeping
end

section
/-! PROOFS. The operations that no condition of Safety.lean sees but in the exchange memory and the journal, which they keep: records,
returns, examinations, the watch, and the writes of the control window. -/

namespace Sys2Proof.Proofs.Keeping

open Sys2Proof Sys2Proof.Machine

/-! ## The journal -/

theorem saturate_le {limit n : Nat} (h : n ≤ limit) : saturate limit n ≤ limit := by
  unfold saturate
  split
  · next k => exact k
  · exact h

theorem journalWrite_xmem (ring : Ring) (r : Record) (rest : List Record) (s : State) :
    (journalWrite ring r rest s).xmem =
      Memory.writeBytes (Memory.writeBytes s.xmem (ring.slotAddr s.jrn.put + 1) (r.body s.jrn.gap)) (ring.slotAddr s.jrn.put) [0] := by
  simp only [journalWrite, notify, State.setCtl_xmem, State.setJrn_xmem, State.writeBytes_xmem]

theorem journalWrite_jrn (ring : Ring) (r : Record) (rest : List Record) (s : State) :
    (journalWrite ring r rest s).jrn = ⟨ring.next s.jrn.put, rest, 0, none⟩ := rfl

theorem journalWrite_quiet {ring : Ring} {r : Record} {rest : List Record} {s : State} (head : s.jrn.queue = r :: rest) :
    Quiet s (journalWrite ring r rest s) := by
  refine Quiet.of_journalFrame (journalWrite_frame ring r rest s) (fun h => ?_) fun ⟨queue, _⟩ => ?_
  · rw [journalWrite_xmem]
    exact Memory.writeBytes_wf _ _ _ (Memory.writeBytes_wf _ _ _ h)
  · rw [journalWrite_jrn]
    rw [head, List.length_cons] at queue
    exact ⟨Nat.le_of_succ_le queue, Nat.zero_le _⟩

theorem journalDrain_quiet (n : Nat) (s : State) : Quiet s (journalDrain n s) := by
  induction n generalizing s with
  | zero => exact Quiet.refl s
  | succ n ih =>
    unfold journalDrain
    split
    · next head =>
      split
      · exact (journalWrite_quiet head).trans (ih _)
      · exact (setJrn_quiet s { s.jrn with poll := some s.cfg.poll } id).trans (notify_quiet _ _)
    · exact Quiet.refl s

theorem journalExamine_quiet (s : State) : Quiet s (journalExamine s) := by
  unfold journalExamine
  split
  · exact journalDrain_quiet _ s
  · exact Quiet.refl s

theorem emit_quiet (r : Record) (s : State) : Quiet s (emit r s) := by
  unfold emit
  split
  · next room =>
    have joined : Quiet s (s.setJrn { s.jrn with queue := s.jrn.queue ++ [r] }) := setJrn_quiet s _ fun ⟨_, gap⟩ =>
      ⟨by rw [List.length_append]; exact room, gap⟩
    simp only
    split
    · exact joined.trans (journalExamine_quiet _)
    · exact joined
  · exact setJrn_quiet s _ fun ⟨queue, gap⟩ => ⟨queue, saturate_le gap⟩

theorem emitLane_quiet (kind : RecordKind) (i : LaneId) (flags : RecordFlags) (detail : Word) (s : State) :
    Quiet s (emitLane kind i flags detail s) := emit_quiet _ s

theorem tableFault_quiet (op : TableOp) (b : Nat) (lane : Option LaneId) (zone : Option ZoneId) (key : Key) (s : State) :
    Quiet s (tableFault op b lane zone key s) := (notify_quiet _ s).trans (emit_quiet _ _)

theorem journalCut_quiet (cut : BitVec 32) (s : State) : Quiet s (journalCut cut s) := by
  unfold journalCut
  split
  · simp only
    split
    · exact Quiet.foldl _ (fun t i => writeBytes_quiet t _ _) _ _
    · exact Quiet.refl s
  · exact Quiet.refl s

/-! ## The watch -/

theorem reachAlert_quiet (i : LaneId) (cause : Byte) (ts : List (Fin 6)) (s : State) : Quiet s (reachAlert i cause ts s) := by
  unfold reachAlert
  simp only
  split
  · exact Quiet.refl s
  · split
    · exact (setLane_quiet s i _ (by constructor <;> rfl)).trans (emitLane_quiet _ _ _ _ _)
    · exact setLane_quiet s i _ (by constructor <;> rfl)

theorem takeTerms_quiet (i : LaneId) (s : State) : Quiet s (takeTerms i s) := setLane_quiet s i _ (by constructor <;> rfl)

theorem watchEvent_quiet (i : LaneId) (s : State) : Quiet s (watchEvent i s) := by
  unfold watchEvent
  simp only
  split
  · exact (takeTerms_quiet i s).trans (reachAlert_quiet _ _ _ _)
  · exact takeTerms_quiet i s

theorem reportTally_quiet (i : LaneId) (cause : Byte) (s : State) : Quiet s (reportTally i cause s) :=
  (setLane_quiet s i _ (by constructor <;> rfl)).trans (emitLane_quiet _ _ _ _ _)

theorem reportTallyOnLeave_quiet (i : LaneId) (m : LaneMode) (s : State) : Quiet s (reportTallyOnLeave i m s) := by
  unfold reportTallyOnLeave
  split
  · exact reportTally_quiet _ _ _
  · exact Quiet.refl s

/-! ## Returns and examinations -/

theorem writeReturn_quiet (flag : NoticeFlag) (a : Nat) (on : Bool) (r : Reply) (s : State) : Quiet s (writeReturn flag a on r s) := by
  unfold writeReturn
  split
  · have written := (((writeBytes_quiet s (a + 7) [r.status.code]).trans (writeBytes_quiet _ (a + 48) (padTo 16 r.result))).trans
      (Quiet.foldl (fun t (w : Nat × List Byte) => t.writeBytes (a + 8 + w.1) w.2) (fun t w => writeBytes_quiet t _ _)
        r.overlay _)).trans (writeBytes_quiet _ a [0])
    simp only
    split
    · exact written.trans (notify_quiet _ _)
    · exact written
  · exact Quiet.refl s

theorem gateHandBack_quiet (ring : Ring) (d : Desc) (r : Reply) (s : State) : Quiet s (gateHandBack ring d r s) :=
  (writeReturn_quiet _ _ _ _ s).trans (setGate_quiet _ _)

theorem gateExamine_quiet (n : Nat) (s : State) : Quiet s (gateExamine n s) := by
  induction n generalizing s with
  | zero => exact Quiet.refl s
  | succ n ih =>
    unfold gateExamine
    split
    · exact Quiet.refl s
    · split
      · simp only
        split
        · exact setGate_quiet s _
        · exact (gateHandBack_quiet _ _ _ s).trans (ih _)
      · exact setGate_quiet s _

theorem examineGate_quiet (s : State) : Quiet s (examineGate s) := by
  unfold examineGate
  split
  · exact gateExamine_quiet _ s
  · exact Quiet.refl s

theorem returnGate_quiet (d : Desc) (r : Reply) (s : State) : Quiet s (returnGate d r s) := by
  unfold returnGate
  split
  · exact Quiet.refl s
  · exact (gateHandBack_quiet _ d r s).trans (examineGate_quiet _)

theorem returnKept_quiet (st : Status) (totals : Bool) (s : State) : Quiet s (returnKept st totals s) := by
  unfold returnKept
  split
  · exact writeReturn_quiet _ _ _ _ s
  · exact Quiet.refl s

theorem breakChain_quiet (s : State) : Quiet s (breakChain s) := by
  unfold breakChain
  split
  · exact (returnKept_quiet _ _ s).trans (setList_quiet _ _)
  · exact Quiet.refl s

theorem listHandBack_quiet (ring : Ring) (d : Desc) (r : Reply) (s : State) : Quiet s (listHandBack ring d r s) :=
  (writeReturn_quiet _ _ _ _ s).trans (setList_quiet _ _)

theorem listExamine_quiet (n : Nat) (s : State) : Quiet s (listExamine n s) := by
  induction n generalizing s with
  | zero => exact Quiet.refl s
  | succ n ih =>
    unfold listExamine
    split
    · exact Quiet.refl s
    · split
      · simp only
        split
        · exact setList_quiet s _
        · exact ((breakChain_quiet s).trans (listHandBack_quiet _ _ _ _)).trans (ih _)
      · exact setList_quiet s _

theorem examineList_quiet (s : State) : Quiet s (examineList s) := by
  unfold examineList
  split
  · exact listExamine_quiet _ s
  · exact Quiet.refl s

theorem returnList_quiet (d : Desc) (r : Reply) (s : State) : Quiet s (returnList d r s) := by
  unfold returnList
  split
  · exact Quiet.refl s
  · exact (listHandBack_quiet _ d r s).trans (examineList_quiet _)

theorem examineAll_quiet (s : State) : Quiet s (examineAll s) :=
  ((examineGate_quiet s).trans (examineList_quiet _)).trans (journalExamine_quiet _)

/-! ## The LOAD's buffer and the open chain -/

theorem keepDescriptor_quiet (d : Desc) (c : Counts) (s : State) : Quiet s (keepDescriptor d c s) := by
  unfold keepDescriptor
  split
  · exact Quiet.refl s
  · simp only
    refine Quiet.trans ?_ (examineList_quiet _)
    split
    · exact (writeBytes_quiet s _ _).trans (setList_quiet _ _)
    · exact setList_quiet s _

theorem finishBuffer_quiet (d : Desc) (c : Counts) (s : State) : Quiet s (finishBuffer d c s) := by
  unfold finishBuffer
  split
  · exact keepDescriptor_quiet d c s
  · exact keepDescriptor_quiet d c s
  · exact (setList_quiet s _).trans (returnList_quiet _ _ _)
  · exact returnList_quiet _ _ s
  · exact returnList_quiet _ _ s

theorem continueBuffer_quiet (d : Desc) (n : Nat) (c : Counts) (s : State) : Quiet s (continueBuffer d n c s) := by
  unfold continueBuffer
  simp only
  split
  · exact finishBuffer_quiet _ _ s
  · exact setList_quiet s _

theorem continueChain_quiet (s : State) : Quiet s (continueChain s) := (returnKept_quiet _ _ s).trans (setList_quiet _ _)

theorem loadDesc_quiet (d : Desc) (s : State) : Quiet s (loadDesc d s) := by
  have goesOn : Quiet s (if s.list.chainOpen then continueBuffer d 0 Counts.zero (continueChain s)
      else returnList d (Reply.bare .orphan) s) := by
    split
    · exact (continueChain_quiet s).trans (continueBuffer_quiet _ _ _ _)
    · exact returnList_quiet _ _ s
  unfold loadDesc
  split
  · exact (breakChain_quiet s).trans (returnList_quiet _ _ _)
  · exact (breakChain_quiet s).trans (continueBuffer_quiet _ _ _ _)
  · exact ((breakChain_quiet s).trans (setList_quiet _ _)).trans (continueBuffer_quiet _ _ _ _)
  · exact goesOn
  · exact goesOn

theorem loadFailed_quiet (d : Desc) (c : Counts) (key : Key) (s : State) : Quiet s (loadFailed d c key s) := by
  unfold loadFailed
  simp only
  split
  · exact (tableFault_quiet _ _ _ _ _ s).trans (returnList_quiet _ _ _)
  · exact ((tableFault_quiet _ _ _ _ _ s).trans (setList_quiet _ _)).trans (returnList_quiet _ _ _)

theorem takeRequest_quiet (d : Desc) (ok : Bool) (s : State) : Quiet s (takeRequest d ok s) := by
  unfold takeRequest
  simp only
  split
  · exact (breakChain_quiet s).trans (setList_quiet _ _)
  · exact (breakChain_quiet s).trans (returnList_quiet _ _ _)

theorem carryOutProfile_quiet (d : Desc) (s : State) : Quiet s (carryOutProfile d s) := by
  obtain ⟨a, h⟩ := carryOutProfile_adm d s
  rw [h]
  exact (breakChain_quiet s).trans (setAdm_quiet _ a)

theorem profileDesc_quiet (d : Desc) (s : State) : Quiet s (profileDesc d s) := by
  unfold profileDesc
  split
  · exact (carryOutProfile_quiet d s).trans (returnList_quiet _ _ _)
  · exact (carryOutProfile_quiet d s).trans (returnList_quiet _ _ _)

theorem completeProfile_quiet (s : State) : Quiet s (completeProfile s) := by
  unfold completeProfile
  split
  · exact Quiet.refl s
  · exact carryOutProfile_quiet _ s

/-! ## The gate requests that change no hold, mode or setting -/

theorem askLookup_quiet (d : Desc) (key : Key) (s : State) : Quiet s (askLookup d key s) :=
  (setGate_quiet s _).trans (setPort_quiet _ _)

theorem popPort_quiet (s : State) : Quiet s (popPort s) := setPort_quiet s _

theorem presentDesc_quiet (d : Desc) (s : State) : Quiet s (presentDesc d s) := by
  unfold presentDesc refusePresent
  split
  · exact returnGate_quiet _ _ s
  · split
    · exact returnGate_quiet _ _ s
    · split
      · exact returnGate_quiet _ _ s
      · exact returnGate_quiet _ _ s
      · exact returnGate_quiet _ _ s
      · exact askLookup_quiet _ _ s

theorem manualEscortAt_quiet (d : Desc) (i : LaneId) (s : State) : Quiet s (manualEscortAt d i s) := by
  unfold manualEscortAt
  split
  · exact returnGate_quiet _ _ s
  · exact (setLane_quiet s i _ (by constructor <;> rfl)).trans (returnGate_quiet _ _ _)

theorem alertTakeAt_quiet (i : LaneId) (s : State) : Quiet s (alertTakeAt i s) := by
  unfold alertTakeAt
  split
  · exact setLane_quiet s i _ (by constructor <;> rfl)
  · exact Quiet.refl s

theorem alertRequest_quiet (c : Nat) (action : LaneId → State → State) (ha : ∀ i s, Quiet s (action i s)) (s : State) :
    Quiet s (alertRequest c action s) := by
  unfold alertRequest
  split
  · exact Quiet.refl s
  · split
    · split
      · exact (ha _ s).trans (returnGate_quiet _ _ _)
      · exact returnGate_quiet _ _ s
    · exact returnGate_quiet _ _ s

/-! ## The control window and the timers of the rings -/

theorem writeResult_quiet (r : SetupRun) (ok : Bool) (code : FailureCode) (o : TableOutcome) (w : Nat) (s : State) :
    Quiet s (writeResult r ok code o w s) :=
  ((writeBytes_quiet s _ _).trans (writeBytes_quiet _ _ _)).trans (writeBytes_quiet _ _ _)

theorem writeNotice_quiet (e : BitVec 4) (v : Word) (s : State) : Quiet s (writeNotice e v s) := setCtl_quiet s _ rfl rfl

theorem writeNoticeEn_quiet (e : BitVec 4) (v : Word) (s : State) : Quiet s (writeNoticeEn e v s) := setCtl_quiet s _ rfl rfl

theorem writeSetupAt_quiet (e : BitVec 4) (v : Word) (s : State) : Quiet s (writeSetupAt e v s) := setCtl_quiet s _ rfl rfl

theorem writeClock_quiet (e : BitVec 4) (v : Word) (s : State) : Quiet s (writeClock e v s) := setClk_quiet s _

theorem writeExchange_quiet (o : Nat) (e : BitVec 4) (v : Word) (s : State) : Quiet s (writeExchange o e v s) := by
  refine Quiet.foldl (fun t i => if e.getLsbD i then t.writeBytes (o + i) [byteOf v i] else t) (fun t i => ?_) _ s
  split
  · exact writeBytes_quiet t _ _
  · exact Quiet.refl t

theorem clockAdvance_quiet (s : State) : Quiet s (clockAdvance s) := by
  unfold clockAdvance
  split
  · exact setClk_quiet s _
  · exact Quiet.refl s

theorem ringPollOut_quiet (r : RingId) (s : State) : Quiet s (ringPollOut r s) := by
  cases r with
  | gate =>
    show Quiet s (if s.gate.poll.isSome then examineGate s else s)
    split
    · exact examineGate_quiet s
    · exact Quiet.refl s
  | list =>
    show Quiet s (if s.list.poll.isSome then examineList s else s)
    split
    · exact examineList_quiet s
    · exact Quiet.refl s

theorem chainWaitOut_quiet (s : State) : Quiet s (chainWaitOut s) := by
  unfold chainWaitOut
  split
  · split
    · simp only
      split
      · exact (setList_quiet s _).trans (examineList_quiet _)
      · exact ((setList_quiet s _).trans (breakChain_quiet _)).trans (setList_quiet _ _)
    · exact Quiet.refl s
  · exact Quiet.refl s

theorem journalPollOut_quiet (s : State) : Quiet s (journalPollOut s) := by
  unfold journalPollOut
  split
  · exact journalExamine_quiet s
  · exact Quiet.refl s

theorem whileUp_quiet {f : State → State} (h : ∀ s, Quiet s (f s)) (s : State) : Quiet s (whileUp f s) := by
  unfold whileUp
  split
  · exact Quiet.refl s
  · exact h s

theorem tickClock_quiet (s : State) : Quiet s (tickClock s) := by
  unfold tickClock
  split
  · exact Quiet.refl s
  · split
    · exact clockAdvance_quiet s
    · exact setClk_quiet s _

theorem tickToken_quiet (i : LaneId) (s : State) : Quiet s (tickToken i s) := by
  unfold tickToken
  split
  · exact Quiet.refl s
  · exact setLane_quiet s i _ (by constructor <;> rfl)

theorem tickGatePoll_quiet (s : State) : Quiet s (tickGatePoll s) := by
  unfold tickGatePoll
  split
  · exact Quiet.refl s
  · split
    · exact examineGate_quiet s
    · exact setGate_quiet s _

theorem tickListPoll_quiet (s : State) : Quiet s (tickListPoll s) := by
  unfold tickListPoll
  split
  · exact Quiet.refl s
  · split
    · exact examineList_quiet s
    · exact setList_quiet s _

theorem tickRunningWait_quiet (ran : Bool) (s : State) : Quiet s (tickRunningWait ran s) := by
  unfold tickRunningWait tickChainWait
  split
  · split
    · exact Quiet.refl s
    · split
      · exact chainWaitOut_quiet s
      · exact setList_quiet s _
  · exact Quiet.refl s

theorem tickRunningPoll_quiet (ran : Bool) (s : State) : Quiet s (tickRunningPoll ran s) := by
  unfold tickRunningPoll tickJournalPoll
  split
  · split
    · exact Quiet.refl s
    · split
      · exact journalExamine_quiet s
      · exact setJrn_quiet s _ id
  · exact Quiet.refl s

end Sys2Proof.Proofs.Keeping
end

section
/-! PROOFS. Modes, occupancy, holds and lane events: what they keep, and that they reach a lane only in its mode and its tally. -/

namespace Sys2Proof.Proofs.Keeping

open Sys2Proof Sys2Proof.Machine

/-! ## Lanes that change in their mode and tally alone -/

/-- A lane is as before but for its mode, its pending mode, its mode-after-emergency and its tally. -/
def ModesOnly (l l' : Lane) : Prop :=
  l' = { l with mode := l'.mode, pendingMode := l'.pendingMode, afterEmergency := l'.afterEmergency, tally := l'.tally }

/-- Every lane is as before but for its mode, its pending mode, its mode-after-emergency and its tally. -/
def ModesFrame (s t : State) : Prop := ∀ j, ModesOnly (s.lane j) (t.lane j)

theorem ModesOnly.refl (l : Lane) : ModesOnly l l := rfl

theorem ModesOnly.trans {l l' l'' : Lane} (a : ModesOnly l l') (b : ModesOnly l' l'') : ModesOnly l l'' := by
  unfold ModesOnly at a b ⊢
  rw [b, a]

theorem ModesFrame.refl (s : State) : ModesFrame s s := fun _ => rfl

theorem ModesFrame.trans {s t u : State} (a : ModesFrame s t) (b : ModesFrame t u) : ModesFrame s u := fun j => (a j).trans (b j)

theorem ModesFrame.of_lanes_eq {s t : State} (h : t.lanes = s.lanes) : ModesFrame s t := fun j => by
  rw [State.lane, State.lane, h]
  exact ModesOnly.refl _

theorem ModesFrame.of_journalFrame {s t : State} (f : JournalFrame s t) : ModesFrame s t := .of_lanes_eq f.lanes

theorem setLane_modesFrame (s : State) (i : LaneId) (l : Lane) (h : ModesOnly (s.lane i) l) : ModesFrame s (s.setLane i l) := fun j => by
  rw [State.setLane_lane]
  split
  · next e => exact e ▸ h
  · exact ModesOnly.refl _

theorem ModesFrame.foldl {α : Type} (f : State → α → State) (hf : ∀ s x, ModesFrame s (f s x)) (l : List α) (s : State) :
    ModesFrame s (l.foldl f s) := by
  induction l generalizing s with
  | nil => exact ModesFrame.refl s
  | cons x l ih => exact (hf s x).trans (ih (f s x))

theorem ModesFrame.level {s t : State} (f : ModesFrame s t) (j : LaneId) : (t.lane j).level = (s.lane j).level := by rw [f j]

theorem ModesFrame.enabled {s t : State} (f : ModesFrame s t) (j : LaneId) : (t.lane j).enabled = (s.lane j).enabled := by rw [f j]

theorem ModesFrame.tracker {s t : State} (f : ModesFrame s t) (j : LaneId) : (t.lane j).tracker = (s.lane j).tracker := by rw [f j]

/-! ## A change of one lane -/

/-- An operation changes nothing that a condition speaks of but at lane `i`, whose settings it keeps. -/
structure QuietBut (i : LaneId) (s t : State) : Prop where
  pending : t.pending = s.pending
  memory : Memory.wf s.xmem → Memory.wf t.xmem
  journal : s.jrn.Bounded → t.jrn.Bounded
  zones : t.zones = s.zones
  monitors : t.monitors = s.monitors
  holds : t.holds = s.holds
  lanes : ∀ j, j ≠ i → LaneQuiet (s.lane j) (t.lane j)
  settings : (t.lane i).enabled = (s.lane i).enabled ∧ (t.lane i).direction = (s.lane i).direction ∧
    (t.lane i).zone = (s.lane i).zone
  part : t.ctl.part = s.ctl.part
  setupComplete : t.ctl.setupComplete = s.ctl.setupComplete
  tab : t.tab = { s.tab with memory := { s.tab.memory with damaged := t.tab.memory.damaged }, port := t.tab.port }

theorem Quiet.but {s t : State} (q : Quiet s t) (i : LaneId) : QuietBut i s t :=
  { q with lanes := fun j _ => q.lanes j, settings := ⟨(q.lanes i).enabled, (q.lanes i).direction, (q.lanes i).zone⟩ }

theorem setLane_quietBut (s : State) (i : LaneId) (l : Lane) (enabled : l.enabled = (s.lane i).enabled)
    (direction : l.direction = (s.lane i).direction) (zone : l.zone = (s.lane i).zone) : QuietBut i s (s.setLane i l) :=
  { (Quiet.refl s).but i with
    lanes := fun j h => by rw [State.setLane_lane_other s i l j h]; exact LaneQuiet.refl _
    settings := by rw [State.setLane_lane_same]; exact ⟨enabled, direction, zone⟩ }

theorem QuietBut.trans {i : LaneId} {s t u : State} (a : QuietBut i s t) (b : QuietBut i t u) : QuietBut i s u where
  pending := b.pending.trans a.pending
  memory := b.memory ∘ a.memory
  journal := b.journal ∘ a.journal
  zones := b.zones.trans a.zones
  monitors := b.monitors.trans a.monitors
  holds := b.holds.trans a.holds
  lanes j h :=
    have x := a.lanes j h
    have y := b.lanes j h
    ⟨y.enabled.trans x.enabled, y.direction.trans x.direction, y.zone.trans x.zone, y.fire.trans x.fire,
      y.tracker.trans x.tracker, y.mode.trans x.mode, y.afterEmergency.trans x.afterEmergency, y.pendingMode.trans x.pendingMode⟩
  settings := ⟨b.settings.1.trans a.settings.1, b.settings.2.1.trans a.settings.2.1, b.settings.2.2.trans a.settings.2.2⟩
  part := b.part.trans a.part
  setupComplete := b.setupComplete.trans a.setupComplete
  tab := by rw [b.tab, a.tab]

/-- A change of one lane that keeps its settings keeps every condition, where the lane keeps its own. -/
theorem QuietBut.kept {g g' : Ledger} {i : LaneId} {s t : State} (q : QuietBut i s t) (owed : Ledger.SameBut i g g')
    (tracker : TrackerSound (s.lane i) → TrackerSound (t.lane i))
    (mode : (g.unset i = true ∨ ModeSound ((g.late i).getD (s.lane i).level.fire) (s.hold i).isSome (s.lane i)) →
      g'.unset i = true ∨ ModeSound ((g'.late i).getD (t.lane i).level.fire) (s.hold i).isSome (t.lane i)) :
    Kept g s g' t := by
  have first : Kept g s g' (s.setLane i (t.lane i)) := setLane_kept owed tracker mode (.inl q.settings)
  have second : Quiet (s.setLane i (t.lane i)) t :=
    { q with
      lanes := fun j => by
        rw [State.setLane_lane]
        split
        · next e => subst e; exact LaneQuiet.refl _
        · next e => exact q.lanes j e }
  exact first.trans (second.kept g')

/-! ## Modes -/

theorem ModeSound.setBase {f h : Bool} {l l' : Lane} (m : ModeSound f h l) (before : l.mode ≠ .emergency)
    (after : l'.mode ≠ .emergency) (kept : l'.afterEmergency = l.afterEmergency) (wait : l'.pendingMode = l.pendingMode) :
    ModeSound f h l' := by
  obtain ⟨fire, held, pending⟩ := m
  refine ⟨⟨fun e => absurd e after, fun e => absurd (fire.2 e) before⟩, ?_, wait ▸ pending⟩
  rw [kept]
  exact ⟨fun e => absurd (held.1 e) before, fun e => absurd e after⟩

theorem takeMode_quietBut (i : LaneId) (m : LaneMode) (c : ModeCause) (r : Bool) (s : State) : QuietBut i s (takeMode i m c r s) := by
  unfold takeMode
  simp only
  split
  · exact (Quiet.refl s).but i
  · have set : QuietBut i s ((reportTallyOnLeave i m s).setLane i { (reportTallyOnLeave i m s).lane i with mode := m }) :=
      ((reportTallyOnLeave_quiet i m s).but i).trans (setLane_quietBut _ i _ rfl rfl rfl)
    split
    · exact set.trans ((emitLane_quiet _ i _ _ _).but i)
    · exact set

theorem reportTallyOnLeave_lane (i : LaneId) (m : LaneMode) (s : State) :
    (reportTallyOnLeave i m s).lane i =
      { s.lane i with
        tally := if (s.lane i).mode.isFree = true ∧ m.isFree = false ∧ 0 < (s.lane i).tally then 0 else (s.lane i).tally } := by
  unfold reportTallyOnLeave reportTally
  split
  · rw [emitLane_lane, State.setLane_lane_same]
  · rfl

/-- The lane after it takes a mode (R123). -/
theorem takeMode_lane (i : LaneId) (m : LaneMode) (c : ModeCause) (r : Bool) (s : State) :
    (takeMode i m c r s).lane i =
      { s.lane i with
        mode := m
        tally := if (s.lane i).mode.isFree = true ∧ m.isFree = false ∧ 0 < (s.lane i).tally then 0 else (s.lane i).tally } := by
  unfold takeMode
  simp only
  split
  · next same =>
    subst same
    cases (s.lane i).mode.isFree <;> simp
  · split
    · rw [emitLane_lane, State.setLane_lane_same, reportTallyOnLeave_lane]
    · rw [State.setLane_lane_same, reportTallyOnLeave_lane]

theorem takeMode_modesFrame (i : LaneId) (m : LaneMode) (c : ModeCause) (r : Bool) (s : State) :
    ModesFrame s (takeMode i m c r s) := fun j => by
  by_cases e : j = i
  · subst e
    rw [takeMode_lane]
    rfl
  · rw [(takeMode_laneFrame i m c r s).others j e]
    exact ModesOnly.refl _

/-- A base mode taken by a lane that is not in EMERGENCY. -/
theorem takeMode_base_kept {g : Ledger} {i : LaneId} {m : BaseMode} {s : State} (c : ModeCause) (r : Bool)
    (base : (s.lane i).mode ≠ .emergency) : Kept g s g (takeMode i (.base m) c r s) := by
  refine (takeMode_quietBut i _ c r s).kept (.refl i g) ?_ ?_ <;> rw [takeMode_lane]
  · exact id
  · exact Or.imp id fun sound => sound.setBase base (by simp) rfl rfl

theorem changeMode_kept (g : Ledger) (i : LaneId) (m : BaseMode) (c : ModeCause) (s : State) : Kept g s g (changeMode i m c s) := by
  unfold changeMode
  simp only
  split
  · next em =>
    exact setLane_kept (.refl i g) id (Or.imp id fun ⟨fire, _, _⟩ => ⟨fire, by simp [em], by simp⟩) (.inl ⟨rfl, rfl, rfl⟩)
  · next base =>
    split
    · next hold =>
      exact setLane_kept (.refl i g) id (Or.imp id fun ⟨fire, after, _⟩ => ⟨fire, after, fun _ => hold⟩) (.inl ⟨rfl, rfl, rfl⟩)
    · exact takeMode_base_kept c true base

theorem changeMode_modesFrame (i : LaneId) (m : BaseMode) (c : ModeCause) (s : State) : ModesFrame s (changeMode i m c s) := by
  unfold changeMode
  simp only
  split
  · exact setLane_modesFrame s i _ rfl
  · split
    · exact setLane_modesFrame s i _ rfl
    · exact takeMode_modesFrame _ _ _ _ s

theorem setLane_self (s : State) (i : LaneId) : s.setLane i (s.lane i) = s := by
  have : s.lanes.set i.val (s.lane i) i.isLt = s.lanes := Vector.set_getElem_self i.isLt
  rw [State.setLane, this]

/-- A removed hold goes with the lane's pending mode, which is then applied (R106). -/
theorem removeHold_cases (i : LaneId) (r : Bool) (s : State) :
    let t := (s.setHold i none).setLane i { s.lane i with pendingMode := none }
    removeHold i r s =
      match (s.lane i).pendingMode with
      | none => t
      | some m =>
        if (s.lane i).mode = .emergency then t.setLane i { t.lane i with afterEmergency := some m }
        else takeMode i (.base m) .pending r t := by
  unfold removeHold
  simp only [State.setHold_lane]
  cases hp : (s.lane i).pendingMode with
  | none =>
    have same : ({ s.lane i with pendingMode := none } : Lane) = (s.setHold i none).lane i := by
      rw [State.setHold_lane, ← hp]
    simp only [same, setLane_self]
  | some m => rfl

theorem removeHold_kept {g : Ledger} {i : LaneId} {s : State} (r : Bool) (due : g.paid = some i ∨ g.halting = true) :
    Kept g s (g.setPaid none) (removeHold i r s) := by
  have dropped := dropHold_kept (s := s) due
  rw [removeHold_cases]
  simp only
  split
  · exact dropped
  · next m hp =>
    refine dropped.trans ?_
    split
    · next em =>
      refine setLane_kept (.refl i _) id (Or.imp id fun ⟨fire, _, wait⟩ => ⟨fire, ?_, wait⟩) (.inl ⟨rfl, rfl, rfl⟩)
      rw [State.setLane_lane_same]
      simp [em]
    · next base => exact takeMode_base_kept _ r (by rw [State.setLane_lane_same]; exact base)

theorem removeHold_modesFrame (i : LaneId) (r : Bool) (s : State) : ModesFrame s (removeHold i r s) := by
  have dropped : ModesFrame s ((s.setHold i none).setLane i { s.lane i with pendingMode := none }) :=
    (ModesFrame.of_lanes_eq (t := s.setHold i none) rfl).trans (setLane_modesFrame _ i _ rfl)
  rw [removeHold_cases]
  simp only
  split
  · exact dropped
  · split
    · exact dropped.trans (setLane_modesFrame _ i _ rfl)
    · exact dropped.trans (takeMode_modesFrame _ _ _ _ _)

/-! ## Zones and monitors -/

theorem deliverLink_kept (g : Ledger) (n : MonitorId) (k : LinkAction) (z : ZoneId) (s : State) : Kept g s g (deliverLink n k z s) := by
  unfold deliverLink
  split
  · exact Kept.refl g s
  · refine Kept.foldl _ (fun t i => ?_) _ s
    split
    · exact changeMode_kept g _ _ _ t
    · exact Kept.refl g t

theorem deliverLink_modesFrame (n : MonitorId) (k : LinkAction) (z : ZoneId) (s : State) : ModesFrame s (deliverLink n k z s) := by
  unfold deliverLink
  split
  · exact ModesFrame.refl s
  · refine ModesFrame.foldl _ (fun t i => ?_) _ s
    split
    · exact changeMode_modesFrame _ _ _ t
    · exact ModesFrame.refl t

theorem monitorEvent_kept (g : Ledger) (n : MonitorId) (rising : Bool) (s : State) : Kept g s g (monitorEvent n rising s) := by
  unfold monitorEvent
  simp only
  split
  · exact ((emit_quiet _ s).kept g).trans (deliverLink_kept g _ _ _ _)
  · exact deliverLink_kept g _ _ _ s

theorem monitorEvent_modesFrame (n : MonitorId) (rising : Bool) (s : State) : ModesFrame s (monitorEvent n rising s) := by
  unfold monitorEvent
  simp only
  split
  · exact (ModesFrame.of_journalFrame (emit_frame _ s)).trans (deliverLink_modesFrame _ _ _ _)
  · exact deliverLink_modesFrame _ _ _ s

/-- An evaluation of an enabled monitor keeps its settings and its count within the steadiness. -/
theorem Monitor.Sound.evaluate {m : Monitor} (h : m.Sound) (enabled : m.enable = true) (n : Nat) : (m.evaluate n).Sound := by
  obtain ⟨level, low, high, steady, count, _⟩ := h
  have on : ∀ x : Monitor, x.enable = m.enable → x.enable = false → x.output = false ∧ x.count = 0 := fun x e off =>
    absurd (off.symm.trans (e.trans enabled)) Bool.false_ne_true
  unfold Machine.Monitor.evaluate
  split
  · exact ⟨level, low, high, steady, Nat.zero_le _, on _ rfl⟩
  · split
    · next room => exact ⟨level, low, high, steady, room, on _ rfl⟩
    · exact ⟨level, low, high, steady, Nat.zero_le _, on _ rfl⟩

theorem evaluateMonitor_kept (g : Ledger) (z : ZoneId) (s : State) (n : MonitorId) : Kept g s g (evaluateMonitor z s n) := by
  unfold evaluateMonitor
  simp only
  split
  · next on =>
    have set : Kept g s g (s.setMonitor n ((s.monitor n).evaluate (s.zone z).occupancy)) :=
      setMonitor_kept fun h => Monitor.Sound.evaluate (h n) on.1 _
    split
    · exact set.trans (monitorEvent_kept g _ _ _)
    · exact set
  · exact Kept.refl g s

theorem evaluateMonitor_modesFrame (z : ZoneId) (s : State) (n : MonitorId) : ModesFrame s (evaluateMonitor z s n) := by
  unfold evaluateMonitor
  simp only
  split
  · split
    · exact (ModesFrame.of_lanes_eq (s := s) (t := s.setMonitor n _) rfl).trans (monitorEvent_modesFrame _ _ _)
    · exact ModesFrame.of_lanes_eq rfl
  · exact ModesFrame.refl s

theorem setOccupancy_kept {g : Ledger} {z : ZoneId} {v : Nat} {s : State} (bound : s.ZonesBounded → v ≤ Config.countLimit) :
    Kept g s g (setOccupancy z v s) := by
  unfold setOccupancy
  split
  · exact Kept.refl g s
  · have stored : Kept g s g (s.setZone z { s.zone z with occupancy := v }) :=
      setZone_kept (fun b => ⟨(b z).1, bound b⟩) (.inl rfl)
    exact stored.trans (Kept.foldl _ (evaluateMonitor_kept g z) _ _)

theorem setOccupancy_modesFrame (z : ZoneId) (v : Nat) (s : State) : ModesFrame s (setOccupancy z v s) := by
  unfold setOccupancy
  split
  · exact ModesFrame.refl s
  · have stored : ModesFrame s (s.setZone z { s.zone z with occupancy := v }) := ModesFrame.of_lanes_eq rfl
    exact stored.trans (ModesFrame.foldl _ (evaluateMonitor_modesFrame z) _ _)

theorem movePerson_kept (g : Ledger) (z : ZoneId) (up : Bool) (s : State) : Kept g s g (movePerson z up s) := by
  refine setOccupancy_kept fun b => ?_
  split
  · exact saturate_le (b z).2
  · exact (Nat.sub_le _ _).trans (b z).2

theorem movePerson_modesFrame (z : ZoneId) (up : Bool) (s : State) : ModesFrame s (movePerson z up s) := setOccupancy_modesFrame _ _ s

/-! ## The end of a hold -/

theorem Ledger.setPaid_none {g : Ledger} (paid : g.paid = none) : (g.setPaid none) = g := by
  cases g
  cases paid
  rfl

theorem finishHold_kept {g : Ledger} {i : LaneId} {h : Hold} {s : State} (o : HoldOutcome) (c : Closing) (paid : g.paid = none)
    (hold : s.hold i = some h) : Kept g s g (finishHold i h o c s) := by
  have given : Kept g s (g.setPaid (some i)) (releaseReserved h s) := releaseReserved_kept paid hold
  have removed : ∀ (r : Record) (t : State), Kept (g.setPaid (some i)) t g (removeHold i true (emit r t)) := fun r t => by
    have := ((emit_quiet r t).kept (g.setPaid (some i))).trans (removeHold_kept true (.inl rfl))
    exact (Ledger.setPaid_none (g := g) paid) ▸ this
  unfold finishHold
  simp only
  split
  · exact given.trans (removed _ _)
  · exact (given.trans (movePerson_kept _ _ _ _)).trans (removed _ _)

theorem releaseReserved_modesFrame (h : Hold) (s : State) : ModesFrame s (releaseReserved h s) := by
  obtain ⟨v, hv⟩ := releaseReserved_eq h s
  rw [hv]
  exact ModesFrame.of_lanes_eq rfl

theorem finishHold_modesFrame (i : LaneId) (h : Hold) (o : HoldOutcome) (c : Closing) (s : State) :
    ModesFrame s (finishHold i h o c s) := by
  have removed : ∀ (r : Record) (t : State), ModesFrame t (removeHold i true (emit r t)) := fun r t =>
    (ModesFrame.of_journalFrame (emit_frame r t)).trans (removeHold_modesFrame _ _ _)
  unfold finishHold
  simp only
  split
  · exact (releaseReserved_modesFrame h s).trans (removed _ _)
  · exact ((releaseReserved_modesFrame h s).trans (movePerson_modesFrame _ _ _)).trans (removed _ _)

theorem standingHold_eq_some_iff {s : State} {i : LaneId} {h : Hold} :
    s.standingHold i = some h ↔ s.hold i = some h ∧ h.phase = .standing := by
  simp [State.standingHold, Option.filter_eq_some_iff, Hold.standing]

theorem endHold_kept {g : Ledger} (i : LaneId) (o : HoldOutcome) (s : State) (paid : g.paid = none) : Kept g s g (endHold i o s) := by
  unfold endHold
  split
  · exact Kept.refl g s
  · next h hs =>
    have hold := (standingHold_eq_some_iff.1 hs).1
    have closing : Kept g s g (s.setHold i (some { h with phase := .closing o })) := replaceHold_kept hold rfl rfl rfl
    simp only
    split
    · exact closing.trans ((setPort_quiet _ _).kept g)
    · exact closing.trans (finishHold_kept o _ paid (State.setHold_hold_same _ _ _))

theorem endHold_modesFrame (i : LaneId) (o : HoldOutcome) (s : State) : ModesFrame s (endHold i o s) := by
  unfold endHold
  split
  · exact ModesFrame.refl s
  · simp only
    split
    · exact ModesFrame.of_lanes_eq rfl
    · exact (ModesFrame.of_lanes_eq (s := s) (t := s.setHold i _) rfl).trans (finishHold_modesFrame _ _ _ _ _)

theorem beamRise_kept (g : Ledger) (i : LaneId) (s : State) : Kept g s g (beamRise i s) := by
  unfold beamRise
  split
  · exact Kept.refl g s
  · next h hs =>
    have hold := (standingHold_eq_some_iff.1 hs).1
    split
    · exact replaceHold_kept hold rfl rfl rfl
    · exact replaceHold_kept hold rfl rfl rfl

theorem beamRise_lanes (i : LaneId) (s : State) : (beamRise i s).lanes = s.lanes := by
  unfold beamRise
  split
  · rfl
  · split <;> rfl

theorem suspendTimer_kept (g : Ledger) (i : LaneId) (s : State) : Kept g s g (suspendTimer i s) := by
  unfold suspendTimer
  split
  · exact Kept.refl g s
  · next h hs => exact replaceHold_kept (standingHold_eq_some_iff.1 hs).1 rfl rfl rfl

theorem suspendTimer_lanes (i : LaneId) (s : State) : (suspendTimer i s).lanes = s.lanes := by
  unfold suspendTimer
  split <;> rfl

/-! ## Turns -/

theorem countFree_quiet (i : LaneId) (s : State) : Quiet s (countFree i s) := by
  unfold countFree
  simp only
  have counted : Quiet s (s.setLane i { s.lane i with tally := (s.lane i).tally + 1 }) := setLane_quiet s i _ (by constructor <;> rfl)
  split
  · exact counted.trans (reportTally_quiet _ _ _)
  · exact counted

theorem reportTally_modesFrame (i : LaneId) (cause : Byte) (s : State) : ModesFrame s (reportTally i cause s) :=
  (setLane_modesFrame s i { s.lane i with tally := 0 } rfl).trans (ModesFrame.of_journalFrame (emitLane_frame _ _ _ _ _))

theorem countFree_modesFrame (i : LaneId) (s : State) : ModesFrame s (countFree i s) := by
  unfold countFree
  simp only
  have counted : ModesFrame s (s.setLane i { s.lane i with tally := (s.lane i).tally + 1 }) := setLane_modesFrame s i _ rfl
  split
  · exact counted.trans (reportTally_modesFrame _ _ _)
  · exact counted

theorem anonymousPassage_kept (g : Ledger) (i : LaneId) (forward : Bool) (s : State) : Kept g s g (anonymousPassage i forward s) := by
  unfold anonymousPassage passageRecord
  simp only
  split
  · exact Kept.refl g s
  · split
    · split
      · exact (movePerson_kept g _ _ s).trans ((countFree_quiet _ _).kept g)
      · exact (movePerson_kept g _ _ s).trans ((emitLane_quiet _ _ _ _ _).kept g)
    · exact (movePerson_kept g _ _ s).trans ((emitLane_quiet _ _ _ _ _).kept g)

theorem anonymousPassage_modesFrame (i : LaneId) (forward : Bool) (s : State) : ModesFrame s (anonymousPassage i forward s) := by
  have recorded : ∀ kind flags detail t, ModesFrame t (emitLane kind i flags detail t) := fun kind flags detail t =>
    ModesFrame.of_journalFrame (emitLane_frame kind i flags detail t)
  unfold anonymousPassage passageRecord
  simp only
  split
  · exact ModesFrame.refl s
  · split
    · split
      · exact (movePerson_modesFrame _ _ s).trans (countFree_modesFrame _ _)
      · exact (movePerson_modesFrame _ _ s).trans (recorded _ _ _ _)
    · exact (movePerson_modesFrame _ _ s).trans (recorded _ _ _ _)

theorem completeTurn_kept {g : Ledger} (i : LaneId) (forward : Bool) (s : State) (paid : g.paid = none) :
    Kept g s g (completeTurn i forward s) := by
  unfold completeTurn
  split
  · exact endHold_kept i _ s paid
  · exact anonymousPassage_kept g i forward s

theorem completeTurn_modesFrame (i : LaneId) (forward : Bool) (s : State) : ModesFrame s (completeTurn i forward s) := by
  unfold completeTurn
  split
  · exact endHold_modesFrame i _ s
  · exact anonymousPassage_modesFrame i forward s

/-! ## The tracker -/

theorem setTracker_kept {g : Ledger} {i : LaneId} {t : Tracker} {s : State} (enabled : (s.lane i).enabled = true)
    (sound : (s.lane i).tracker.Sound → t.Sound) : Kept g s g (setTracker i t s) :=
  setLane_kept (.refl i g) (fun h => ⟨sound h.1, fun off => absurd (enabled.symm.trans off) (by decide)⟩)
    id (.inl ⟨rfl, rfl, rfl⟩)

theorem sound_atRest : Tracker.atRest.Sound := ⟨rfl, rfl⟩

/-- A step of one position from P0 or in a turn, to a position other than P0, is a turn that names the new position. -/
theorem sound_of_step {t : Tracker} (sound : t.Sound) (moving : t.state ≠ .fault) {p : Fin 4} {turn : Int} (away : p ≠ 0)
    (step : p = t.position + 1 ∧ turn = t.turn + 1 ∨ p = t.position + 3 ∧ turn = t.turn - 1) :
    Tracker.Sound ⟨.turning, p, turn⟩ := by
  have named : -3 ≤ t.turn ∧ t.turn ≤ 3 ∧ t.turn % 4 = t.position.val := by
    unfold Tracker.Sound at sound
    cases h : t.state with
    | rest => rw [h] at sound; rw [sound.1, sound.2]; decide
    | turning => rw [h] at sound; exact sound.2
    | fault => exact absurd h moving
  obtain ⟨low, high, name⟩ := named
  have place : p.val ≠ 0 := fun e => away (Fin.ext e)
  have small := t.position.isLt
  refine ⟨away, ?_⟩
  rcases step with ⟨hp, ht⟩ | ⟨hp, ht⟩
  · have value : p.val = (t.position.val + 1) % 4 := by rw [hp]; rfl
    refine ⟨?_, ?_, ?_⟩ <;> simp only [ht] <;> omega
  · have value : p.val = (t.position.val + 3) % 4 := by rw [hp]; rfl
    refine ⟨?_, ?_, ?_⟩ <;> simp only [ht] <;> omega

theorem trackerJump_kept {g : Ledger} {i : LaneId} {p : Fin 4} {s : State} (enabled : (s.lane i).enabled = true)
    (paid : g.paid = none) : Kept g s g (trackerJump i p s) :=
  ((setTracker_kept (t := ⟨.fault, p, 0⟩) enabled (fun _ => True.intro)).trans ((emitLane_quiet _ _ _ _ _).kept g)).trans (endHold_kept i _ _ paid)

theorem trackerStep_kept {g : Ledger} {i : LaneId} {p : Fin 4} {up : Bool} {s : State} (enabled : (s.lane i).enabled = true)
    (paid : g.paid = none) (moving : (s.lane i).tracker.state ≠ .fault)
    (step : p = (s.lane i).tracker.position + if up then 1 else 3) : Kept g s g (trackerStep i p up s) := by
  unfold trackerStep
  simp only
  generalize hturn : (if up = true then (s.lane i).tracker.turn + 1 else (s.lane i).tracker.turn - 1) = turn
  split
  · have rested : Kept g s g (setTracker i Tracker.atRest s) := setTracker_kept enabled fun _ => sound_atRest
    split
    · exact rested.trans (completeTurn_kept i _ _ paid)
    · split
      · exact rested.trans (completeTurn_kept i _ _ paid)
      · exact rested
  · next away =>
    have turned : Kept g s g (setTracker i ⟨.turning, p, turn⟩ s) :=
      setTracker_kept enabled fun sound => sound_of_step sound moving away (by cases up <;> simp_all)
    split
    · exact turned.trans (suspendTimer_kept g i _)
    · exact turned

theorem trackerMove_kept {g : Ledger} {i : LaneId} (p : Fin 4) {s : State} (enabled : (s.lane i).enabled = true)
    (paid : g.paid = none) : Kept g s g (trackerMove i p s) := by
  unfold trackerMove
  simp only
  split
  · exact Kept.refl g s
  · split
    · refine setTracker_kept enabled fun _ => ?_
      split
      · exact sound_atRest
      · exact True.intro
    · next moving =>
      split
      · next up => exact trackerStep_kept enabled paid moving up
      · split
        · next down => exact trackerStep_kept enabled paid moving down
        · exact trackerJump_kept enabled paid

/-- A tracker event reaches the lanes in the tracker of its lane and, beyond that, in modes and tallies alone. -/
theorem trackerMove_lanes (i : LaneId) (p : Fin 4) (s : State) : ∃ t, ModesFrame (setTracker i t s) (trackerMove i p s) := by
  have same : ModesFrame (setTracker i (s.lane i).tracker s) s := by
    have : setTracker i (s.lane i).tracker s = s := setLane_self s i
    rw [this]
    exact ModesFrame.refl s
  have step : ∀ up, ∃ t, ModesFrame (setTracker i t s) (trackerStep i p up s) := fun up => by
    unfold trackerStep
    simp only
    generalize (if up = true then (s.lane i).tracker.turn + 1 else (s.lane i).tracker.turn - 1) = turn
    split
    · refine ⟨Tracker.atRest, ?_⟩
      split
      · exact completeTurn_modesFrame _ _ _
      · split
        · exact completeTurn_modesFrame _ _ _
        · exact ModesFrame.refl _
    · refine ⟨⟨.turning, p, turn⟩, ?_⟩
      split
      · exact ModesFrame.of_lanes_eq (suspendTimer_lanes _ _)
      · exact ModesFrame.refl _
  unfold trackerMove
  simp only
  split
  · exact ⟨_, same⟩
  · split
    · exact ⟨_, ModesFrame.refl _⟩
    · split
      · exact step true
      · split
        · exact step false
        · exact ⟨_, (ModesFrame.of_journalFrame (emitLane_frame _ _ _ _ _)).trans (endHold_modesFrame _ _ _)⟩

theorem trackerMove_level (i j : LaneId) (p : Fin 4) (s : State) : ((trackerMove i p s).lane j).level = (s.lane j).level := by
  obtain ⟨t, frame⟩ := trackerMove_lanes i p s
  rw [frame.level j, setTracker, State.setLane_lane]
  split
  · next e => subst e; rfl
  · rfl

end Sys2Proof.Proofs.Keeping
end

section
/-! PROOFS. FIRE, lane events, the samples and the timers of a lane: what they keep. The ledger notes at which lane the mode still
follows the FIRE level before the event. -/

namespace Sys2Proof.Proofs.Keeping

open Sys2Proof Sys2Proof.Machine

/-! ## FIRE (R128, R129) -/

section Fire

variable {g : Ledger} {i : LaneId} {s : State}

theorem setLate_late (g : Ledger) (i : LaneId) (b : Option Bool) : (g.setLate i b).late i = b := Function.update_self _ _ _

theorem setLate_setLate (g : Ledger) (i : LaneId) (b c : Option Bool) : (g.setLate i b).setLate i c = g.setLate i c := by
  simp [Ledger.setLate]

theorem setLate_none (late : g.late i = none) : g.setLate i none = g := by
  cases g
  simp_all [Ledger.setLate]

/-- The mode follows the FIRE level again where it is already as that level asks. -/
theorem follow_kept {b : Bool}
    (sound : ModeSound b (s.hold i).isSome (s.lane i) → ModeSound (s.lane i).level.fire (s.hold i).isSome (s.lane i)) :
    Kept (g.setLate i (some b)) s (g.setLate i none) s := by
  have owed := Ledger.SameBut.setLate i none (g.setLate i (some b))
  rw [setLate_setLate] at owed
  refine ((Quiet.refl s).but i).kept owed id (Or.imp id fun m => ?_)
  rw [setLate_late] at m ⊢
  exact sound m

theorem fireRise_kept (fire : (s.lane i).level.fire = true) (paid : g.paid = none) :
    Kept (g.setLate i (some false)) s (g.setLate i none) (fireRise i s) := by
  unfold fireRise
  split
  · next em => exact follow_kept fun ⟨follows, _, _⟩ => absurd (follows.1 em) (by decide)
  · next m base =>
    have owed := Ledger.SameBut.setLate i none (g.setLate i (some false))
    rw [setLate_setLate] at owed
    have entered : QuietBut i s (takeMode i .emergency .fire true (s.setLane i { s.lane i with afterEmergency := some m })) :=
      (setLane_quietBut s i { s.lane i with afterEmergency := some m } rfl rfl rfl).trans (takeMode_quietBut _ _ _ _ _)
    refine (entered.kept owed ?_ ?_).trans (endHold_kept i _ _ paid) <;> rw [takeMode_lane, State.setLane_lane_same]
    · exact id
    · refine Or.imp id fun ⟨_, _, wait⟩ => ?_
      rw [setLate_late]
      exact ⟨iff_of_true rfl fire, iff_of_true rfl rfl, wait⟩

theorem fireFall_kept (fire : (s.lane i).level.fire = false) : Kept (g.setLate i (some true)) s (g.setLate i none) (fireFall i s) := by
  unfold fireFall
  split
  · next m em after =>
    have owed := Ledger.SameBut.setLate i none (g.setLate i (some true))
    rw [setLate_setLate] at owed
    have left : QuietBut i s (takeMode i (.base m) .fireClear true (s.setLane i { s.lane i with afterEmergency := none })) :=
      (setLane_quietBut s i { s.lane i with afterEmergency := none } rfl rfl rfl).trans (takeMode_quietBut _ _ _ _ _)
    refine left.kept owed ?_ ?_ <;> rw [takeMode_lane, State.setLane_lane_same]
    · exact id
    · refine Or.imp id fun ⟨_, _, wait⟩ => ?_
      rw [setLate_late]
      exact ⟨by simp [fire], by simp, wait⟩
  · next other =>
    refine follow_kept fun ⟨follows, held, _⟩ => ?_
    have em := follows.2 rfl
    obtain ⟨m, after⟩ := Option.isSome_iff_exists.1 (held.2 em)
    exact absurd after (other m em)

end Fire

/-! ## One lane event (R115) -/

theorem levelsChange_kept {g : Ledger} (i : LaneId) (new : Levels) (s : State) (paid : g.paid = none) (late : g.late i = none) :
    Kept g s g (levelsChange i new s) := by
  have arrived : Kept g s (g.setLate i (some (s.lane i).level.fire)) (s.setLane i { s.lane i with level := new }) :=
    setLane_kept (.setLate i _ g) id (by rw [setLate_late, late]; exact id) (.inl ⟨rfl, rfl, rfl⟩)
  unfold levelsChange
  simp only
  refine Kept.trans ?_ ((watchEvent_quiet i _).kept g)
  generalize hs0 : s.setLane i { s.lane i with level := new } = s0 at arrived ⊢
  have level0 : (s0.lane i).level = new := by rw [← hs0, State.setLane_lane_same]
  generalize hs1 : (if (new.beam && !(s.lane i).level.beam) = true then beamRise i s0 else s0) = s1
  have beam : Kept (g.setLate i (some (s.lane i).level.fire)) s0 (g.setLate i (some (s.lane i).level.fire)) s1 ∧
      s1.lanes = s0.lanes := by
    rw [← hs1]
    split
    · exact ⟨beamRise_kept _ i s0, beamRise_lanes i s0⟩
    · exact ⟨Kept.refl _ s0, rfl⟩
  have level1 : (s1.lane i).level = new := by rw [State.lane, beam.2]; exact level0
  generalize hs2 : (if (s1.lane i).enabled = true ∧ ((s.lane i).level.armA ≠ new.armA ∨ (s.lane i).level.armB ≠ new.armB) then
    trackerMove i (armPosition new) s1 else s1) = s2
  have tracker : Kept (g.setLate i (some (s.lane i).level.fire)) s1 (g.setLate i (some (s.lane i).level.fire)) s2 ∧
      (s2.lane i).level = (s1.lane i).level := by
    rw [← hs2]
    split
    · next moved => exact ⟨trackerMove_kept _ moved.1 paid, trackerMove_level _ _ _ _⟩
    · exact ⟨Kept.refl _ s1, rfl⟩
  have level2 : (s2.lane i).level.fire = new.fire := by rw [tracker.2, level1]
  have upTo := (arrived.trans beam.1).trans tracker.1
  have close : Kept (g.setLate i (some (s.lane i).level.fire)) s2 (g.setLate i none)
      (if (new.fire && !(s.lane i).level.fire) = true then fireRise i s2
        else if (!new.fire && (s.lane i).level.fire) = true then fireFall i s2 else s2) := by
    cases hn : new.fire <;> cases ho : (s.lane i).level.fire
    · exact follow_kept fun m => by rwa [level2, hn]
    · exact fireFall_kept (level2.trans hn)
    · exact fireRise_kept (level2.trans hn) paid
    · exact follow_kept fun m => by rwa [level2, hn]
  rw [setLate_none late] at close
  exact upTo.trans close

theorem deliverLevels_kept {g : Ledger} (i : LaneId) (new : Levels) (s : State) (paid : g.paid = none) (late : g.late i = none) :
    Kept g s g (deliverLevels i new s) := by
  unfold deliverLevels
  split
  · exact Kept.refl g s
  · exact levelsChange_kept i new s paid late

theorem takeSample_kept {g : Ledger} (i : LaneId) (s : State) (paid : g.paid = none) (late : g.late i = none) :
    Kept g s g (takeSample i s) :=
  ((setLane_quiet s i _ (by constructor <;> rfl)).kept g).trans (deliverLevels_kept i _ _ paid late)

theorem restartConditioning_kept {g : Ledger} (i : LaneId) (p : Period) (s : State) (paid : g.paid = none) (late : g.late i = none) :
    Kept g s g (restartConditioning i p s) := by
  have restarted : Kept g s g (s.setLane i { s.lane i with period := p, agree := Agreement.zero, sampleMs := 0 }) :=
    (setLane_quiet s i _ (by constructor <;> rfl)).kept g
  unfold restartConditioning
  simp only
  split
  · exact restarted.trans (deliverLevels_kept i _ _ paid late)
  · exact restarted

theorem pinsChange_kept (i : LaneId) (pins : Levels) (sampled : Bool) (s : State) :
    Kept .clear s .clear (pinsChange i pins sampled s) := by
  have read : Kept .clear s .clear (s.setLane i { s.lane i with pins := pins }) :=
    (setLane_quiet s i _ (by constructor <;> rfl)).kept _
  have sample : Kept .clear s .clear
      (if sampled then takeSample i (s.setLane i { s.lane i with pins := pins }) else s.setLane i { s.lane i with pins := pins }) := by
    split
    · exact read.trans (takeSample_kept i _ rfl rfl)
    · exact read
  unfold pinsChange
  simp only
  split
  · exact read.trans (deliverLevels_kept i pins _ rfl rfl)
  · exact sample
  · exact sample
  · exact sample

/-! ## The release timer -/

theorem countingHold_hold {s : State} {i : LaneId} {h : Hold} (c : s.countingHold i = some h) : s.hold i = some h := by
  unfold State.countingHold at c
  split at c
  · exact (standingHold_eq_some_iff.1 c).1
  · cases c

theorem lapse_kept {i : LaneId} {h : Hold} {s : State} (hold : s.hold i = some h) : Kept .clear s .clear (lapse i h s) := by
  have lapsed : Kept .clear s .clear (endHold i .lapsed (s.setHold i (some { h with remaining := 0, ms := 0 }))) :=
    (replaceHold_kept (h' := { h with remaining := 0, ms := 0 }) hold rfl rfl rfl).trans (endHold_kept i _ _ rfl)
  unfold lapse
  simp only
  split
  · exact lapsed.trans ((watchEvent_quiet i _).kept _)
  · exact lapsed

theorem tickHold_kept (i : LaneId) (s : State) : Kept .clear s .clear (tickHold i s) := by
  unfold tickHold
  split
  · exact Kept.refl _ s
  · next h counting =>
    have hold := countingHold_hold counting
    split
    · exact lapse_kept hold
    · exact replaceHold_kept hold rfl rfl rfl

theorem tickSample_kept (i : LaneId) (s : State) : Kept .clear s .clear (tickSample i s) := by
  unfold tickSample
  split
  · exact Kept.refl _ s
  · split
    · exact takeSample_kept i s rfl rfl
    · exact (setLane_quiet s i _ (by constructor <;> rfl)).kept _

theorem tickLane_kept (s : State) (i : LaneId) : Kept .clear s .clear (tickLane s i) :=
  ((tickHold_kept i s).trans ((tickToken_quiet i _).kept _)).trans (tickSample_kept i _)

theorem tick_kept (s : State) : Kept .clear s .clear (tick s) := by
  unfold tick
  split
  · exact Kept.refl _ s
  · have lanes : Kept .clear s .clear (laneOrder.foldl tickLane (tickClock s)) :=
      ((tickClock_quiet s).kept _).trans (Kept.foldl _ tickLane_kept _ _)
    exact lanes.trans (((((tickGatePoll_quiet _).trans (tickListPoll_quiet _)).trans (tickRunningWait_quiet _ _)).trans
      (tickRunningPoll_quiet _ _)).kept _)

/-! ## The requests of the gate ring -/

theorem laneEffects_kept (f : LaneFields) (s : State) : Kept .clear s .clear (laneEffects f s) := by
  have settings : ∀ t : State, Quiet t (t.setLane f.lane (f.settings (t.lane f.lane))) := fun t =>
    setLane_quiet t f.lane _ (by constructor <;> rfl)
  exact (((changeMode_kept _ _ _ _ s).trans ((settings _).kept _)).trans ((takeTerms_quiet _ _).kept _)).trans
    (restartConditioning_kept _ _ _ rfl rfl)

theorem manualReleaseAt_kept {d : Desc} {i : LaneId} {s : State} (running : s.ctl.part = .running) :
    Kept .clear s .clear (manualReleaseAt d i s) := by
  unfold manualReleaseAt
  split
  · exact (returnGate_quiet _ _ s).kept _
  · next pass =>
    obtain ⟨checks, free⟩ := (laneChecks5_none s i).1 pass
    have made : Kept .clear s .clear (createHold i .manual s) :=
      createHold_kept rfl free running ((laneChecks4_none s i).1 checks).1 (fun _ _ _ k => by cases k) (fun _ _ _ _ k => by cases k)
    exact (made.trans ((watchEvent_quiet i _).kept _)).trans ((returnGate_quiet _ _ _).kept _)

/-- A taken gate descriptor is carried out only while RUNNING. -/
theorem gateTaken_running {s : State} {k : ReqKind} {claims : Byte → Bool} {d : Desc} (h : s.gateTaken k claims = some d) :
    s.ctl.part = .running := by
  unfold State.gateTaken at h
  split at h
  · split at h
    · next on => simpa [State.running] using on.1
    · cases h
  · cases h

/-! ## The settings requests of the list ring -/

theorem parseMonitor_sound {e z m ed st r l : Byte} {level low high : Nat} {x : Monitor}
    (h : parseMonitor e z m ed st r l level low high = some x) :
    x.level ≤ Config.countLimit ∧ x.low ≤ Config.countLimit ∧ x.high ≤ Config.countLimit ∧ x.steadiness ≤ 7 := by
  unfold parseMonitor at h
  split at h
  · split at h
    · next range => cases h; exact ⟨range.2.1, range.2.2.1, range.2.2.2, range.1⟩
    · cases h
  · cases h

/-- A monitor whose settings are in range is sound once its output is computed again. -/
theorem recompute_sound {x : Monitor} (n : Nat)
    (h : x.level ≤ Config.countLimit ∧ x.low ≤ Config.countLimit ∧ x.high ≤ Config.countLimit ∧ x.steadiness ≤ 7) :
    (x.recompute n).Sound := by
  obtain ⟨level, low, high, steady⟩ := h
  refine ⟨level, low, high, steady, Nat.zero_le _, fun off => ⟨?_, rfl⟩⟩
  have : x.enable = false := off
  simp [Monitor.recompute, this]

theorem monitorDesc_kept (d : Desc) (s : State) : Kept .clear s .clear (monitorDesc d s) := by
  unfold monitorDesc
  simp only
  refine ((breakChain_quiet s).kept _).trans ?_
  split
  · exact (returnList_quiet _ _ _).kept _
  · next n m h =>
    have sound : ∀ k, (m.recompute k).Sound := fun k => by
      unfold parseMonitorDesc at h
      split at h
      · next _ parsed => cases h; exact recompute_sound k (parseMonitor_sound parsed)
      · cases h
    exact (setMonitor_kept fun _ => sound _).trans ((returnList_quiet _ _ _).kept _)

/-- The values that a ZONE request may store are in range (R149). -/
theorem parseZone_bounded {d : Desc} {z : ZoneId} {a : ZoneAction} (h : parseZone d = some (z, a)) :
    (∀ v, a = .setOccupancy v → v ≤ Config.countLimit) ∧ ∀ v, a = .setCapacity v → v ≤ Config.countLimit := by
  unfold parseZone at h
  simp only at h
  split at h
  · split at h
    · next le => cases h; exact ⟨fun v e => by cases e; exact le, fun v e => by cases e⟩
    · cases h
  · split at h
    · cases h; exact ⟨fun v e => (by cases e), fun v e => by cases e⟩
    · cases h
  · split at h
    · next le => cases h; exact ⟨fun v e => (by cases e), fun v e => by cases e; exact le⟩
    · cases h
  · cases h

theorem adjusted_le (n : Nat) (delta : Int) : adjusted n delta ≤ Config.countLimit := by
  unfold adjusted Config.countLimit
  omega

theorem zoneDesc_kept (d : Desc) (s : State) : Kept .clear s .clear (zoneDesc d s) := by
  unfold zoneDesc
  simp only
  refine ((breakChain_quiet s).kept _).trans ?_
  split
  · exact (returnList_quiet _ _ _).kept _
  · next z a h =>
    obtain ⟨occupancy, capacity⟩ := parseZone_bounded h
    refine Kept.trans ?_ ((returnList_quiet _ _ _).kept _)
    cases a with
    | setOccupancy v => exact setOccupancy_kept fun _ => occupancy v rfl
    | adjust delta => exact setOccupancy_kept fun _ => adjusted_le _ _
    | setCapacity v => exact setZone_kept (fun b => ⟨capacity v rfl, (b z).2⟩) (.inl rfl)

end Sys2Proof.Proofs.Keeping
end

section
/-! PROOFS. The table memory: a bucket after a bucket is set, the overflow places of the chains, and what an insert, a drop and a write
in place do to the entries, the places and the locations of one bucket. -/

namespace Sys2Proof.Proofs.Table

open Sys2Proof Sys2Proof.Machine Sys2Proof.Proofs.Credentials

/-! ## One bucket -/

/-- The overflow places that a bucket's chain links. -/
def places (x : Bucket) : List Nat := x.chain.map Prod.fst

/-- The keys of a bucket's entries. -/
def keysOf (x : Bucket) : List Key := x.entries.map Entry.key

/-- The bucket of a location. -/
def bucketOf : Location → Nat
  | .main b _ => b
  | .overflow b _ => b

/-- The entry of a bucket at a location. -/
def entryIn (x : Bucket) : Location → Option Entry
  | .main _ i => x.slots.get i
  | .overflow _ p => (x.chain.find? (fun c => decide (c.1 = p))).map Prod.snd

/-- A bucket with an entry written in place at a location. -/
def written (x : Bucket) (l : Location) (e : Entry) : Bucket :=
  match l with
  | .main _ i => { x with slots := x.slots.set i.val (some e) i.isLt }
  | .overflow _ p => { x with chain := x.chain.map (fun c => if c.1 = p then (p, e) else c) }

/-- A bucket whose place at a location is emptied or unlinked. -/
def dropped (x : Bucket) (l : Location) : Bucket :=
  match l with
  | .main _ i => { x with slots := x.slots.set i.val none i.isLt }
  | .overflow _ p => { x with chain := x.chain.filter (fun c => decide (c.1 ≠ p)) }

section Bucket

variable {x : Bucket}

theorem mem_entries_iff {e : Entry} : e ∈ x.entries ↔ (∃ i, x.slots.get i = some e) ∨ ∃ c ∈ x.chain, c.2 = e := by
  have slots : some e ∈ x.slots.toList ↔ ∃ i, x.slots.get i = some e := by
    rw [Vector.mem_toList_iff, Vector.mem_iff_getElem]
    exact ⟨fun ⟨i, hi, h⟩ => ⟨⟨i, hi⟩, h⟩, fun ⟨i, h⟩ => ⟨i.val, i.isLt, h⟩⟩
  simp [Bucket.entries, slots]

theorem entryIn_main (b : Nat) (i : Fin 4) : entryIn x (.main b i) = x.slots.get i := rfl

theorem entryIn_overflow (b p : Nat) :
    entryIn x (.overflow b p) = (x.chain.find? (fun c => decide (c.1 = p))).map Prod.snd := rfl

theorem entryIn_overflow_eq_some {b p : Nat} {e : Entry} (h : entryIn x (.overflow b p) = some e) : (p, e) ∈ x.chain := by
  rw [entryIn_overflow, Option.map_eq_some_iff] at h
  obtain ⟨c, found, rfl⟩ := h
  have place : c.1 = p := by simpa using List.find?_some found
  exact place ▸ List.mem_of_find?_eq_some found

theorem entryIn_mem {l : Location} {e : Entry} (h : entryIn x l = some e) : e ∈ x.entries := by
  rw [mem_entries_iff]
  cases l with
  | main b i => exact .inl ⟨i, h⟩
  | overflow b p => exact .inr ⟨_, entryIn_overflow_eq_some h, rfl⟩

/-- In a chain whose places are distinct a place has one entry. -/
theorem entryIn_overflow_of_mem {b p : Nat} {e : Entry} (distinct : (places x).Nodup) (h : (p, e) ∈ x.chain) :
    entryIn x (.overflow b p) = some e := by
  rw [entryIn_overflow, Option.map_eq_some_iff]
  refine ⟨(p, e), ?_, rfl⟩
  unfold places at distinct
  generalize x.chain = l at distinct h
  induction l with
  | nil => cases h
  | cons c l ih =>
    rw [List.map_cons, List.nodup_cons] at distinct
    rcases List.mem_cons.1 h with rfl | h
    · simp
    · have ne : c.1 ≠ p := fun eq => distinct.1 (List.mem_map.2 ⟨_, h, eq.symm⟩)
      rw [List.find?_cons_of_neg (by simpa using ne)]
      exact ih distinct.2 h

/-! ### A write in place -/

theorem keysOf_eq (x : Bucket) : keysOf x = (x.slots.toList.map (Option.map Entry.key)).filterMap id ++ x.chain.map (fun c => c.2.key) := by
  simp [keysOf, Bucket.entries, List.map_filterMap, List.filterMap_map, Function.comp_def]

/-- A list keeps its image where a member is replaced by one with the same image. -/
theorem map_set_same {α β : Type} (f : α → β) (l : List α) (n : Nat) (v : α) (h : ∀ hn : n < l.length, f v = f l[n]) :
    (l.set n v).map f = l.map f := by
  refine List.ext_getElem (by simp) fun k hk _ => ?_
  simp only [List.getElem_map, List.getElem_set]
  split
  · next e => subst e; exact h _
  · rfl

theorem places_written (l : Location) (e : Entry) : places (written x l e) = places x := by
  cases l with
  | main b i => rfl
  | overflow b p =>
    simp only [places, written, List.map_map]
    refine List.map_congr_left fun c _ => ?_
    simp only [Function.comp_apply]
    split
    · next h => exact h.symm
    · rfl

theorem keysOf_written {l : Location} {e e' : Entry} (distinct : (places x).Nodup) (at_ : entryIn x l = some e) (key : e'.key = e.key) :
    keysOf (written x l e') = keysOf x := by
  rw [keysOf_eq, keysOf_eq]
  cases l with
  | main b i =>
    have same : (x.slots.set i.val (some e') i.isLt).toList.map (Option.map Entry.key) = x.slots.toList.map (Option.map Entry.key) := by
      rw [Vector.toList_set]
      refine map_set_same _ _ _ _ fun hn => ?_
      have : x.slots.toList[i.val] = some e := by simpa [entryIn, Vector.get] using at_
      rw [this, Option.map_some, Option.map_some, key]
    simp only [written, same]
  | overflow b p =>
    simp only [written, List.map_map]
    congr 1
    refine List.map_congr_left fun c hc => ?_
    simp only [Function.comp_apply]
    split
    · next h =>
      have : entryIn x (.overflow b p) = some c.2 := entryIn_overflow_of_mem distinct (by rw [← h]; exact hc)
      rw [at_, Option.some.injEq] at this
      rw [key, this]
    · rfl

/-- A location that held an entry holds one of the same key after a write in place. -/
theorem entryIn_written {l0 l : Location} {e0 e' e : Entry} (at0 : entryIn x l0 = some e0) (key : e'.key = e0.key)
    (at_ : entryIn x l = some e) : ∃ e2, entryIn (written x l0 e') l = some e2 ∧ e2.key = e.key := by
  cases l0 with
  | main b0 i =>
    cases l with
    | main b j =>
      rw [entryIn_main] at at0 at_
      simp only [entryIn_main, written, vector_get_set]
      split
      · next h =>
        subst h
        rw [at0, Option.some.injEq] at at_
        exact ⟨e', rfl, key.trans (congrArg Entry.key at_)⟩
      · exact ⟨e, at_, rfl⟩
    | overflow b p => exact ⟨e, at_, rfl⟩
  | overflow b0 p =>
    cases l with
    | main b j => exact ⟨e, at_, rfl⟩
    | overflow b q =>
      rw [entryIn_overflow, Option.map_eq_some_iff] at at0 at_
      obtain ⟨c0, found0, rfl⟩ := at0
      obtain ⟨c, found, rfl⟩ := at_
      have same : (fun c : Nat × Entry => decide (c.1 = q)) ∘ (fun c => if c.1 = p then (p, e') else c) =
          fun c => decide (c.1 = q) := by
        funext c
        simp only [Function.comp_apply]
        split
        · next h => simp [h]
        · rfl
      simp only [entryIn_overflow, written, List.find?_map, same, found, Option.map_some]
      have place : c.1 = q := by simpa using List.find?_some found
      split
      · next h =>
        have : q = p := place.symm.trans h
        subst this
        rw [found0, Option.some.injEq] at found
        exact ⟨e', rfl, key.trans (congrArg (fun c => c.2.key) found)⟩
      · exact ⟨c.2, rfl, rfl⟩

/-! ### An insert -/

theorem emptySlot_eq_some {i : Fin 4} (h : x.emptySlot = some i) : x.slots.get i = none := by
  have := List.find?_some h
  simpa using this

/-- A list of optional members with a member put in an empty place. -/
theorem filterMap_set_some {α : Type} (l : List (Option α)) (n : Nat) (a : α) (hn : n < l.length) (h : l[n] = none) :
    ((l.set n (some a)).filterMap id).Perm (a :: l.filterMap id) := by
  induction l generalizing n with
  | nil => cases hn
  | cons o l ih =>
    cases n with
    | zero =>
      have : o = none := h
      subst this
      exact List.Perm.refl _
    | succ n =>
      have ih := ih n (Nat.lt_of_succ_lt_succ hn) h
      cases o with
      | none => exact ih
      | some b => exact (ih.cons b).trans (List.Perm.swap a b _)

/-- A bucket with an entry in an empty main slot has that entry beside its own. -/
theorem entries_fill {i : Fin 4} {e : Entry} (empty : x.slots.get i = none) :
    Bucket.entries { x with slots := x.slots.set i.val (some e) i.isLt } |>.Perm (e :: x.entries) := by
  have := filterMap_set_some x.slots.toList i.val e (by simp) (by simpa [Vector.get] using empty)
  simpa only [Bucket.entries, Vector.toList_set, List.cons_append] using this.append_right (x.chain.map Prod.snd)

/-- A bucket with an entry at the tail of its chain has that entry beside its own. -/
theorem entries_append (p : Nat) (e : Entry) : Bucket.entries { x with chain := x.chain ++ [(p, e)] } |>.Perm (e :: x.entries) := by
  simp only [Bucket.entries, List.map_append, List.map_cons, List.map_nil, ← List.append_assoc]
  exact List.perm_append_singleton _ _

theorem entryIn_fill {i : Fin 4} {e e' : Entry} {l : Location} (empty : x.slots.get i = none) (at_ : entryIn x l = some e) :
    entryIn { x with slots := x.slots.set i.val (some e') i.isLt } l = some e := by
  cases l with
  | main b j =>
    rw [entryIn_main] at at_
    simp only [entryIn_main, vector_get_set]
    split
    · next h => subst h; rw [empty] at at_; cases at_
    · exact at_
  | overflow b p => exact at_

theorem entryIn_append {p : Nat} {e e' : Entry} {l : Location} (at_ : entryIn x l = some e) :
    entryIn { x with chain := x.chain ++ [(p, e')] } l = some e := by
  cases l with
  | main b j => exact at_
  | overflow b q =>
    rw [entryIn_overflow, Option.map_eq_some_iff] at at_
    obtain ⟨c, found, rfl⟩ := at_
    simp [entryIn_overflow, List.find?_append, found]

/-! ### A drop -/

/-- A list of optional members with one place emptied. -/
theorem filterMap_set_none {α : Type} (l : List (Option α)) (n : Nat) : ((l.set n none).filterMap id).Sublist (l.filterMap id) := by
  induction l generalizing n with
  | nil => exact List.Sublist.refl _
  | cons o l ih =>
    cases n with
    | zero => cases o with
      | none => exact List.Sublist.refl _
      | some a => exact List.sublist_cons_self _ _
    | succ n => cases o with
      | none => exact ih n
      | some a => exact (ih n).cons_cons a

theorem entries_dropped (l : Location) : (dropped x l).entries.Sublist x.entries := by
  cases l with
  | main b i =>
    have := filterMap_set_none x.slots.toList i.val
    simpa only [Bucket.entries, dropped, Vector.toList_set] using this.append (List.Sublist.refl (x.chain.map Prod.snd))
  | overflow b p => exact (List.Sublist.refl _).append ((List.filter_sublist (l := x.chain)).map Prod.snd)

/-- The place that a drop unlinks, with the places that are left, are the places before. -/
theorem places_dropped_overflow {b p : Nat} (distinct : (places x).Nodup) (linked : p ∈ places x) :
    (p :: places (dropped x (.overflow b p))).Perm (places x) := by
  have left : places (dropped x (.overflow b p)) = (places x).erase p := by
    rw [List.Nodup.erase_eq_filter distinct]
    simp only [places, dropped, List.filter_map]
    congr 1
    refine List.filter_congr fun c _ => ?_
    simp [bne, beq_eq_decide]
  rw [left]
  exact (List.perm_cons_erase linked).symm

theorem entryIn_dropped {l0 l : Location} {e0 e : Entry} (at0 : entryIn x l0 = some e0) (at_ : entryIn x l = some e)
    (other : e.key ≠ e0.key) : entryIn (dropped x l0) l = some e := by
  cases l0 with
  | main b0 i =>
    cases l with
    | main b j =>
      rw [entryIn_main] at at0 at_
      simp only [entryIn_main, dropped, vector_get_set]
      split
      · next h =>
        subst h
        rw [at0, Option.some.injEq] at at_
        exact absurd (congrArg Entry.key at_).symm other
      · exact at_
    | overflow b p => exact at_
  | overflow b0 p =>
    cases l with
    | main b j => exact at_
    | overflow b q =>
      have ne : q ≠ p := by
        rintro rfl
        rw [entryIn_overflow] at at0 at_
        rw [at0, Option.some.injEq] at at_
        exact other (congrArg Entry.key at_).symm
      rw [entryIn_overflow] at at_ ⊢
      rw [← at_]
      simp only [dropped, List.find?_filter]
      congr 2
      funext c
      by_cases h : c.1 = q
      · simp [h, ne]
      · simp [h]

end Bucket

/-! ## The table memory -/

section Memory

variable {t : TableMemory} {b : Nat} {x : Bucket}

theorem bucket_setBucket (wf : sparseWf Bucket.empty t.buckets) (b c : Nat) (x : Bucket) :
    (t.setBucket b x).bucket c = if c = b then x else t.bucket c := sparseGet_put _ _ _ _ wf

theorem entryAt_eq (t : TableMemory) (l : Location) : t.entryAt l = entryIn (t.bucket (bucketOf l)) l := by cases l <;> rfl

theorem writeEntry_eq (t : TableMemory) (l : Location) (e : Entry) :
    t.writeEntry l e = t.setBucket (bucketOf l) (written (t.bucket (bucketOf l)) l e) := by cases l <;> rfl

theorem entryAt_setBucket (wf : sparseWf Bucket.empty t.buckets) (l : Location) :
    (t.setBucket b x).entryAt l = if bucketOf l = b then entryIn x l else t.entryAt l := by
  rw [entryAt_eq, bucket_setBucket wf, entryAt_eq]
  split <;> rfl

/-- A bucket that is not empty is listed, and so lies in the geometry. -/
theorem bucket_in_geometry {m : Marker} (sound : t.Sound) (marker : t.marker = some m) (h : t.bucket b ≠ Bucket.empty) : b < 2 ^ m.k :=
  (sound.2 m marker).1 _ (mem_of_sparseGet t.buckets b h)

theorem entries_empty : Bucket.empty.entries = [] := by decide

theorem stores_in_geometry {m : Marker} {e : Entry} (sound : t.Sound) (marker : t.marker = some m) (h : t.Stores b e) : b < 2 ^ m.k := by
  refine bucket_in_geometry sound marker fun empty => ?_
  rw [TableMemory.Stores, empty, entries_empty] at h
  cases h

/-- The places of the chains after a bucket is set: the old chain's places go and the new chain's come. -/
theorem chainPlaces_setBucket (wf : sparseWf Bucket.empty t.buckets) (b : Nat) (x : Bucket) :
    (places (t.bucket b) ++ (t.setBucket b x).chainPlaces).Perm (places x ++ t.chainPlaces) := by
  show (places (sparseGet Bucket.empty t.buckets b) ++ (sparsePut Bucket.empty t.buckets b x).flatMap (fun y => places y.2)).Perm
    (places x ++ t.buckets.flatMap (fun y => places y.2))
  obtain ⟨rising, listed⟩ := wf
  generalize t.buckets = m at rising listed
  have none_empty : places Bucket.empty = [] := rfl
  induction m with
  | nil =>
    simp only [sparsePut, sparseGet, none_empty, List.nil_append, List.flatMap_nil, List.append_nil]
    split
    · next h => subst h; exact List.Perm.refl _
    · simp
  | cons y m ih =>
    obtain ⟨a, w⟩ := y
    rw [List.pairwise_cons] at rising
    have ih := ih rising.2 (fun p hp => listed p (List.mem_cons_of_mem _ hp))
    simp only [sparsePut, sparseGet, List.flatMap_cons]
    by_cases lt : b < a
    · have below : sparseGet Bucket.empty m b = Bucket.empty := sparseGet_below m b fun p hp => lt.trans (rising.1 p hp)
      simp only [if_pos lt, if_neg (Nat.ne_of_gt lt), below, none_empty, List.nil_append]
      split
      · next h => subst h; exact List.Perm.refl _
      · exact List.Perm.refl _
    · by_cases eq : b = a
      · subst eq
        simp only [lt_irrefl, if_false, if_true]
        split
        · next h => subst h; exact List.Perm.refl _
        · rw [List.flatMap_cons, ← List.append_assoc, ← List.append_assoc]
          exact (List.perm_append_comm).append_right _
      · simp only [if_neg lt, if_neg eq, if_neg (Ne.symm eq), List.flatMap_cons]
        rw [List.perm_iff_count] at ih ⊢
        intro n
        have := ih n
        simp only [List.count_append] at this ⊢
        omega

/-- The table is sound after a bucket of the geometry is set, where the free list and the chain exchange places. -/
theorem sound_setBucket (sound : t.Sound) (free : List Nat) (inside : ∀ m, t.marker = some m → b < 2 ^ m.k)
    (moved : (free ++ places x).Perm (t.free ++ places (t.bucket b))) : ({ t with free := free }.setBucket b x).Sound := by
  obtain ⟨wf, geometry⟩ := sound
  refine ⟨sparsePut_wf t.buckets b x wf, fun m marker => ?_⟩
  obtain ⟨buckets, perm, withdrawn⟩ := geometry m marker
  refine ⟨fun y hy => ?_, ?_, withdrawn⟩
  · rcases sparsePut_mem t.buckets b x y hy with ⟨rfl, -⟩ | hy
    · exact inside m marker
    · exact buckets y hy
  · refine List.Perm.trans ?_ perm
    have chains := chainPlaces_setBucket wf b x
    have same : (t.setBucket b x).chainPlaces = ({ t with free := free }.setBucket b x).chainPlaces := rfl
    rw [same] at chains
    rw [List.perm_iff_count] at chains moved ⊢
    intro n
    have h1 := chains n
    have h2 := moved n
    simp only [List.count_append] at h1 h2 ⊢
    have : List.count n ({ t with free := free }.setBucket b x).free = List.count n free := rfl
    have : List.count n ({ t with free := free }.setBucket b x).withdrawn = List.count n t.withdrawn := rfl
    omega

/-- Under a valid marker the chain of a bucket links distinct places. -/
theorem places_nodup {m : Marker} (sound : t.Sound) (marker : t.marker = some m) (b : Nat) : (places (t.bucket b)).Nodup := by
  obtain ⟨_, perm, _⟩ := sound.2 m marker
  have all : t.chainPlaces.Nodup := ((perm.nodup_iff.2 List.nodup_range).of_append_right)
  by_cases empty : t.bucket b = Bucket.empty
  · rw [empty]; exact List.nodup_nil
  · refine List.Nodup.sublist ?_ all
    have listed := mem_of_sparseGet t.buckets b empty
    exact List.sublist_flatten_of_mem (List.mem_map.2 ⟨_, listed, rfl⟩)

/-- What a lookup finds: an entry of the key, in the bucket, at the location of its slot or its place. -/
theorem scanSlots_eq_found {key : Key} {is : List (Fin 4)} {l : Location} {e : Entry} (h : scanSlots t b key is = some (.found l e)) :
    ∃ i, l = .main b i ∧ (t.bucket b).slots.get i = some e ∧ e.key = key := by
  induction is with
  | nil => cases h
  | cons i is ih =>
    simp only [scanSlots] at h
    split at h
    · cases h
    · split at h
      · next e' slot =>
        split at h
        · next same => cases h; exact ⟨i, rfl, slot, same⟩
        · exact ih h
      · exact ih h

theorem scanChain_eq_found {key : Key} {c : List (Nat × Entry)} {l : Location} {e : Entry} (h : scanChain t b key c = .found l e) :
    ∃ p, l = .overflow b p ∧ (p, e) ∈ c ∧ e.key = key := by
  induction c with
  | nil => cases h
  | cons y c ih =>
    obtain ⟨p, e'⟩ := y
    simp only [scanChain] at h
    split at h
    · cases h
    · split at h
      · next same => cases h; exact ⟨p, rfl, List.mem_cons_self, same⟩
      · obtain ⟨q, hl, mem, same⟩ := ih h
        exact ⟨q, hl, List.mem_cons_of_mem _ mem, same⟩

theorem lookup_eq_found {key : Key} {l : Location} {e : Entry} (h : t.lookup b key = .found l e) :
    e.key = key ∧ ((∃ i, l = .main b i ∧ (t.bucket b).slots.get i = some e) ∨ ∃ p, l = .overflow b p ∧ (p, e) ∈ (t.bucket b).chain) := by
  unfold TableMemory.lookup at h
  split at h
  · next r scan =>
    subst h
    obtain ⟨i, hl, slot, same⟩ := scanSlots_eq_found scan
    exact ⟨same, .inl ⟨i, hl, slot⟩⟩
  · split at h
    · cases h
    · obtain ⟨p, hl, mem, same⟩ := scanChain_eq_found h
      exact ⟨same, .inr ⟨p, hl, mem⟩⟩

/-- Where the places of a bucket's chain are distinct a lookup's location holds the entry found. -/
theorem entryAt_of_lookup {key : Key} {l : Location} {e : Entry} (distinct : (places (t.bucket b)).Nodup)
    (h : t.lookup b key = .found l e) : bucketOf l = b ∧ t.entryAt l = some e ∧ e.key = key := by
  obtain ⟨same, ⟨i, rfl, slot⟩ | ⟨p, rfl, mem⟩⟩ := lookup_eq_found h
  · exact ⟨rfl, slot, same⟩
  · refine ⟨rfl, ?_, same⟩
    rw [entryAt_eq]
    exact entryIn_overflow_of_mem distinct mem

theorem bucketIndex_lt (k : Nat) (key : Key) : bucketIndex k key < 2 ^ k := Nat.mod_lt _ (Nat.two_pow_pos k)

end Memory

end Sys2Proof.Proofs.Table
end

section
/-! PROOFS. The operations on the ticket table and its filter: what they keep. -/

namespace Sys2Proof.Proofs.Keeping

open Sys2Proof Sys2Proof.Machine Sys2Proof.Proofs.Table

/-! ## A change of one bucket -/

/-- The table unit is outside the conditions of the other units. -/
theorem setTab_units (g : Ledger) (s : State) (x : TableUnit) : UnitsKept g s g (s.setTab x) :=
  ⟨rfl, id, id, id, id, id, id, id, id, fun _ => id⟩

section Change

variable {s : State}

/-- While RUNNING the marker is valid and of the geometry in force (R16). -/
theorem running_marker (sound : s.TableSound) (running : s.ctl.part = .running) :
    ∃ m, s.tab.memory.marker = some m ∧ m.k = s.tab.k ∧ m.u = s.tab.u := sound.2.2 (sound.2.1 (.inr running))

theorem running_places (sound : s.TableSound) (running : s.ctl.part = .running) (b : Nat) :
    (places (s.tab.memory.bucket b)).Nodup := by
  obtain ⟨m, marker, -, -⟩ := running_marker sound running
  exact places_nodup sound.1 marker b

/-- While RUNNING the location a lookup finds holds the entry it finds. -/
theorem running_lookup {key : Key} {l : Location} {e : Entry} (sound : s.TableSound) (running : s.ctl.part = .running)
    (h : s.lookup key = .found l e) : bucketOf l = s.bucketOf key ∧ s.tab.memory.entryAt l = some e ∧ e.key = key :=
  entryAt_of_lookup (running_places sound running _) h

/-- The state with bucket `b` of the table and the free list replaced, and with other filter bits. -/
def withBucket (s : State) (free : List Nat) (b : Nat) (x : Bucket) (presence shadow : List Nat) : State :=
  s.setTab { s.tab with memory := { s.tab.memory with free := free }.setBucket b x, presence := presence, shadow := shadow }

/-- What a change of one bucket has to meet, while RUNNING, so that the conditions on the table are kept. -/
structure BucketChange (s : State) (free : List Nat) (b : Nat) (x : Bucket) (presence shadow : List Nat) : Prop where
  inside : b < 2 ^ s.tab.k
  moved : (free ++ places x).Perm (s.tab.memory.free ++ places (s.tab.memory.bucket b))
  keys : (∀ e ∈ (s.tab.memory.bucket b).entries, bucketIndex s.tab.k e.key = b) → (keysOf (s.tab.memory.bucket b)).Nodup →
    (∀ k ∈ keysOf x, bucketIndex s.tab.k k = b) ∧ (keysOf x).Nodup
  bits : ∀ k ∈ keysOf x, k ∈ keysOf (s.tab.memory.bucket b) ∨
    filterIndex k ∈ presence ∧ (s.tab.filter = .rebuilding → filterIndex k ∈ shadow)
  presence : ∀ n ∈ s.tab.presence, n ∈ presence
  shadow : ∀ n ∈ s.tab.shadow, n ∈ shadow
  held : s.HeldEntries → ∀ i h key loc tier, s.hold i = some h → h.kind = .credential key loc tier → bucketOf loc = b →
    ∃ e, entryIn x loc = some e ∧ e.key = key

theorem withBucket_kept {g : Ledger} {free : List Nat} {b : Nat} {x : Bucket} {presence shadow : List Nat}
    (running : s.ctl.part = .running) (change : s.TableSound → BucketChange s free b x presence shadow) :
    Kept g s g (withBucket s free b x presence shadow) := by
  have sound : s.TableSound → (withBucket s free b x presence shadow).TableSound := fun h => by
    obtain ⟨m, marker, hk, -⟩ := running_marker h running
    refine ⟨sound_setBucket h.1 free (fun m' marker' => ?_) (change h).moved, h.2⟩
    rw [marker, Option.some.injEq] at marker'
    rw [← marker', hk]
    exact (change h).inside
  have bucket : s.TableSound → ∀ c, (withBucket s free b x presence shadow).tab.memory.bucket c =
      if c = b then x else s.tab.memory.bucket c := fun h c => sparseGet_put _ _ _ _ h.1.1
  refine { setTab_units g s _ with table := sound, keys := fun h placed m marker c => ?_, filter := fun h fs => ?_,
                                   held := fun _ h held i y key loc tier hold kind => ?_ }
  · obtain ⟨m', marker', hk, -⟩ := running_marker h running
    have same : m = m' := by
      have : s.tab.memory.marker = some m := marker
      rw [marker', Option.some.injEq] at this
      exact this.symm
    subst same
    have before := placed m marker' c
    rw [hk] at before ⊢
    unfold TableMemory.Stores at before ⊢
    rw [bucket h]
    split
    · next e =>
      subst e
      obtain ⟨inBucket, distinct⟩ := (change h).keys before.1 before.2
      exact ⟨fun e he => inBucket _ (List.mem_map.2 ⟨e, he, rfl⟩), distinct⟩
    · exact before
  · have bit : ∀ c e, (withBucket s free b x presence shadow).tab.memory.Stores c e →
        (∃ e', s.tab.memory.Stores c e' ∧ filterIndex e'.key = filterIndex e.key) ∨
          filterIndex e.key ∈ presence ∧ (s.tab.filter = .rebuilding → filterIndex e.key ∈ shadow) := fun c e stored => by
      unfold TableMemory.Stores at stored
      rw [bucket h] at stored
      split at stored
      · next eq =>
        subst eq
        refine ((change h).bits _ (List.mem_map.2 ⟨e, stored, rfl⟩)).imp (fun old => ?_) id
        obtain ⟨e', he', same⟩ := List.mem_map.1 old
        exact ⟨e', he', by rw [same]⟩
      · exact .inl ⟨e, stored, rfl⟩
    refine ⟨fun valid c e stored => ?_, fun rebuilding => ⟨running, fun c e stored passed => ?_⟩⟩
    · rcases bit c e stored with ⟨e', stored', same⟩ | ⟨new, -⟩
      · exact (change h).presence _ (same ▸ fs.1 valid c e' stored')
      · exact new
    · rcases bit c e stored with ⟨e', stored', same⟩ | ⟨-, new⟩
      · exact (change h).shadow _ (same ▸ (fs.2 rebuilding).2 c e' stored' passed)
      · exact new rebuilding
  · have at_ : (withBucket s free b x presence shadow).tab.memory.entryAt loc =
        if bucketOf loc = b then entryIn x loc else s.tab.memory.entryAt loc := by
      rw [entryAt_eq, bucket h, entryAt_eq]
      split <;> rfl
    rw [at_]
    split
    · next e => exact (change h).held held i y key loc tier hold kind e
    · exact held i y key loc tier hold kind

end Change

/-! ## A write in place, an insert and a drop -/

section Operations

variable {g : Ledger} {s : State}

theorem setMemory_writeEntry (s : State) (l : Location) (e : Entry) :
    s.setMemory (s.tab.memory.writeEntry l e) =
      withBucket s s.tab.memory.free (bucketOf l) (written (s.tab.memory.bucket (bucketOf l)) l e) s.tab.presence s.tab.shadow := by
  rw [writeEntry_eq]
  rfl

/-- An entry is written in place where the location holds one of its key. -/
theorem writeEntry_kept {l : Location} {e0 e : Entry} (running : s.ctl.part = .running)
    (at_ : s.TableSound → s.tab.memory.entryAt l = some e0) (key : e.key = e0.key) :
    Kept g s g (s.setMemory (s.tab.memory.writeEntry l e)) := by
  rw [setMemory_writeEntry]
  refine withBucket_kept running fun sound => ?_
  have distinct := running_places sound running (bucketOf l)
  have in_ : entryIn (s.tab.memory.bucket (bucketOf l)) l = some e0 := (entryAt_eq _ _).symm.trans (at_ sound)
  have same := keysOf_written (e' := e) distinct in_ key
  obtain ⟨m, marker, hk, -⟩ := running_marker sound running
  exact
    { inside := hk ▸ stores_in_geometry sound.1 marker (entryIn_mem in_)
      moved := by rw [places_written]
      keys := fun inBucket nodup => by
        rw [same]
        exact ⟨fun k hk => by obtain ⟨y, hy, rfl⟩ := List.mem_map.1 hk; exact inBucket y hy, nodup⟩
      bits := fun k hk => .inl (same ▸ hk)
      presence := fun _ => id
      shadow := fun _ => id
      held := fun held i h k loc tier hold kind e => by
        obtain ⟨y, there, yk⟩ := held i h k loc tier hold kind
        rw [entryAt_eq, e] at there
        obtain ⟨z, hz, zk⟩ := entryIn_written in_ key there
        exact ⟨z, hz, zk.trans yk⟩ }

theorem mem_bitInsert {n j : Nat} {l : List Nat} : n ∈ bitInsert j l ↔ n = j ∨ n ∈ l := by
  induction l with
  | nil => simp [bitInsert]
  | cons a l ih =>
    simp only [bitInsert]
    split
    · simp
    · split
      · next h => subst h; simp
      · simp only [List.mem_cons, ih]; tauto

/-- What an insert does to a table where it is made (R23). -/
theorem insert_eq_written {t t' : TableMemory} {b : Nat} {e : Entry} (h : t.insert b e = .written t') :
    (∃ i, (t.bucket b).emptySlot = some i ∧
        t' = t.setBucket b { t.bucket b with slots := (t.bucket b).slots.set i.val (some e) i.isLt }) ∨
      ∃ p rest, (t.bucket b).emptySlot = none ∧ t.free = p :: rest ∧
        t' = { t with free := rest }.setBucket b { t.bucket b with chain := (t.bucket b).chain ++ [(p, e)] } := by
  unfold TableMemory.insert at h
  simp only at h
  split at h
  · next i slot => cases h; exact .inl ⟨i, slot, rfl⟩
  · next full =>
    split at h
    · cases h
    · split at h
      · cases h
      · next p rest free =>
        split at h
        · cases h
        · cases h; exact .inr ⟨p, rest, full, free, rfl⟩

/-- An entry of a key that the lookup found absent is inserted, with its filter bits. -/
theorem insert_kept {key : Key} {e : Entry} {t : TableMemory} (running : s.ctl.part = .running) (absent : s.lookup key = .absent)
    (hk : e.key = key) (h : s.tab.memory.insert (s.bucketOf key) e = .written t) :
    Kept g s g (setFilterBits key (s.setMemory t)) := by
  have new : ∀ y ∈ (s.tab.memory.bucket (s.bucketOf key)).entries, y.key ≠ key :=
    (Credentials.lookup_eq_absent_iff.1 absent).1
  have change : ∀ (free : List Nat) (x : Bucket), s.TableSound →
      (free ++ places x).Perm (s.tab.memory.free ++ places (s.tab.memory.bucket (s.bucketOf key))) →
      (x.entries).Perm (e :: (s.tab.memory.bucket (s.bucketOf key)).entries) →
      (∀ l y, entryIn (s.tab.memory.bucket (s.bucketOf key)) l = some y → entryIn x l = some y) →
      BucketChange s free (s.bucketOf key) x (bitInsert (filterIndex key) s.tab.presence)
        (if s.tab.filter = .rebuilding then bitInsert (filterIndex key) s.tab.shadow else s.tab.shadow) := by
    intro free x _ moved entries same
    have keys : (keysOf x).Perm (key :: keysOf (s.tab.memory.bucket (s.bucketOf key))) := by
      have := entries.map Entry.key
      rwa [List.map_cons, hk] at this
    exact
      { inside := bucketIndex_lt _ _
        moved := moved
        keys := fun inBucket nodup => by
          refine ⟨fun k hk => ?_, keys.nodup_iff.2 (List.nodup_cons.2 ⟨fun mem => ?_, nodup⟩)⟩
          · rcases List.mem_cons.1 (keys.mem_iff.1 hk) with rfl | old
            · rfl
            · obtain ⟨y, hy, rfl⟩ := List.mem_map.1 old
              exact inBucket y hy
          · obtain ⟨y, hy, eq⟩ := List.mem_map.1 mem
            exact new y hy eq
        bits := fun k hk => by
          rcases List.mem_cons.1 (keys.mem_iff.1 hk) with rfl | old
          · exact .inr ⟨mem_bitInsert.2 (.inl rfl), fun r => by rw [if_pos r]; exact mem_bitInsert.2 (.inl rfl)⟩
          · exact .inl old
        presence := fun n hn => mem_bitInsert.2 (.inr hn)
        shadow := fun n hn => by
          split
          · exact mem_bitInsert.2 (.inr hn)
          · exact hn
        held := fun held i h k loc tier hold kind eq => by
          obtain ⟨y, there, yk⟩ := held i h k loc tier hold kind
          rw [entryAt_eq, eq] at there
          exact ⟨y, same _ _ there, yk⟩ }
  rcases insert_eq_written h with ⟨i, slot, rfl⟩ | ⟨p, rest, -, free, rfl⟩
  · have empty := emptySlot_eq_some slot
    exact withBucket_kept (free := s.tab.memory.free) running fun sound =>
      change _ _ sound (List.Perm.refl _) (entries_fill empty) fun _ _ => entryIn_fill empty
  · refine withBucket_kept (free := rest) running fun sound => change _ _ sound ?_ (entries_append p e) fun _ _ => entryIn_append
    rw [free, places, List.map_append, List.map_singleton, ← List.append_assoc]
    exact List.perm_append_singleton _ _

/-- What a drop does to a table where it is made (R25). -/
theorem drop_eq_written {t t' : TableMemory} {l : Location} (h : t.drop l = .written t') :
    (∃ b i, l = .main b i ∧ t' = t.setBucket b (dropped (t.bucket b) l)) ∨
      ∃ b p, l = .overflow b p ∧ t' = { t with free := p :: t.free }.setBucket b (dropped (t.bucket b) l) := by
  unfold TableMemory.drop at h
  split at h
  · next b i => cases h; exact .inl ⟨b, i, rfl, rfl⟩
  · next b p =>
    split at h
    · cases h
    · cases h; exact .inr ⟨b, p, rfl, rfl⟩

/-- The entry that a lookup found, and that no hold carries, is dropped. -/
theorem drop_kept {key : Key} {l : Location} {e : Entry} {t : TableMemory} (running : s.ctl.part = .running)
    (found : s.lookup key = .found l e) (unheld : ∀ i, (s.hold i).bind Hold.key ≠ some key) (h : s.tab.memory.drop l = .written t) :
    Kept g s g (s.setMemory t) := by
  have change : ∀ (free : List Nat), s.TableSound →
      (free ++ places (dropped (s.tab.memory.bucket (bucketOf l)) l)).Perm
        (s.tab.memory.free ++ places (s.tab.memory.bucket (bucketOf l))) →
      BucketChange s free (bucketOf l) (dropped (s.tab.memory.bucket (bucketOf l)) l) s.tab.presence s.tab.shadow := by
    intro free sound moved
    obtain ⟨inBucket, at_, hk⟩ := running_lookup sound running found
    have fewer : (keysOf (dropped (s.tab.memory.bucket (bucketOf l)) l)).Sublist (keysOf (s.tab.memory.bucket (bucketOf l))) :=
      (entries_dropped l).map Entry.key
    exact
      { inside := inBucket ▸ bucketIndex_lt _ _
        moved := moved
        keys := fun all nodup => ⟨fun k hk => by
          obtain ⟨y, hy, rfl⟩ := List.mem_map.1 (fewer.subset hk)
          exact all y hy, nodup.sublist fewer⟩
        bits := fun k hk => .inl (fewer.subset hk)
        presence := fun _ => id
        shadow := fun _ => id
        held := fun held i h k loc tier hold kind eq => by
          obtain ⟨y, there, yk⟩ := held i h k loc tier hold kind
          rw [entryAt_eq, eq] at there
          rw [entryAt_eq] at at_
          refine ⟨y, entryIn_dropped at_ there fun same => unheld i ?_, yk⟩
          rw [hold, Option.bind_some, Hold.key, kind, ← yk, same, hk] }
  rcases drop_eq_written h with ⟨b, i, rfl, rfl⟩ | ⟨b, p, rfl, rfl⟩
  · exact withBucket_kept (free := s.tab.memory.free) running fun sound => change _ sound (List.Perm.refl _)
  · refine withBucket_kept (free := p :: s.tab.memory.free) running fun sound => change _ sound ?_
    obtain ⟨-, at_, -⟩ := running_lookup sound running found
    rw [entryAt_eq] at at_
    have linked : p ∈ places (s.tab.memory.bucket b) := List.mem_map.2 ⟨_, entryIn_overflow_eq_some at_, rfl⟩
    exact (List.perm_middle.symm).trans ((places_dropped_overflow (running_places sound running b) linked).append_left _)

end Operations

/-! ## The holds of a key -/

theorem heldAt_eq_none_iff {s : State} {key : Key} : s.heldAt key = none ↔ ∀ i, (s.hold i).bind Hold.key ≠ some key := by
  simp [State.heldAt, mem_laneOrder]

theorem heldAt_eq_some {s : State} {key : Key} {i : LaneId} (h : s.heldAt key = some i) : (s.hold i).bind Hold.key = some key := by
  simpa using List.find?_some h

/-! ## The batch record and the list request -/

/-- What a batch record's operation does where no read fails (R46 to R48). -/
theorem applyRecord_kept {g : Ledger} {r : BatchRecord} {s t : State} {k : Counted} (running : s.ctl.part = .running)
    (h : applyRecord r s = some (t, k)) : Kept g s g t := by
  unfold applyRecord at h
  cases r with
  | put key f =>
    simp only at h
    split at h
    · cases h
    · next absent =>
      split at h
      · next t' inserted => cases h; exact insert_kept running absent rfl inserted
      · cases h; exact Kept.refl g s
      · cases h
    · next l e found =>
      split at h
      · cases h; exact Kept.refl g s
      · cases h
        refine writeEntry_kept running (fun sound => (running_lookup sound running found).2.1) ?_
        unfold PutFields.replace
        simp only
        split <;> rfl
  | drop key =>
    simp only at h
    split at h
    · cases h
    · cases h; exact Kept.refl g s
    · next l e found =>
      split at h
      · cases h; exact Kept.refl g s
      · next free =>
        have unheld := heldAt_eq_none_iff.1 (Option.not_isSome_iff_eq_none.1 free)
        unfold changed at h
        split at h
        · next t' dropped => cases h; exact drop_kept running found unheld dropped
        · cases h; exact Kept.refl g s
        · cases h

theorem key_revokeEntry (a : RevokeAction) (e : Entry) : (revokeEntry a e).key = e.key := by
  unfold revokeEntry
  split
  · rfl
  · split <;> rfl

theorem key_markEntry (m : PendingMark) (e : Entry) : (markEntry m e).key = e.key := by
  unfold markEntry
  split <;> rfl

theorem key_commitEntry (i : LaneId) (d : Direction) (now : Word) (e : Entry) : (commitEntry i d now e).key = e.key := by
  unfold commitEntry
  split <;> rfl

theorem key_closeEntry (i : LaneId) (h : Hold) (o : HoldOutcome) (now : Word) (e : Entry) : (closeEntry i h o now e).key = e.key := by
  have commit : (if o = .commit then commitEntry i h.direction now e else e).key = e.key := by
    split
    · exact key_commitEntry _ _ _ _
    · rfl
  unfold closeEntry
  simp only
  generalize (if o = .commit then commitEntry i h.direction now e else e) = e1 at commit ⊢
  have marked : (match h.mark with | none => e1 | some m => if h.contested o then e1 else markEntry m e1).key = e.key := by
    split
    · exact commit
    · split
      · exact commit
      · exact (key_markEntry _ _).trans commit
  split
  · exact marked
  · exact (key_revokeEntry _ _).trans marked

theorem requestUnheld_kept {g : Ledger} {d : Desc} {l : Location} {e : Entry} {s : State} (running : s.ctl.part = .running)
    (found : s.lookup (keyAt d.payload 0) = .found l e) : Kept g s g (requestUnheld d l e s).1 := by
  have write : ∀ e' : Entry, e'.key = e.key → Kept g s g (s.setMemory (s.tab.memory.writeEntry l e')) := fun e' same =>
    writeEntry_kept running (fun sound => (running_lookup sound running found).2.1) same
  unfold requestUnheld
  simp only
  split
  · exact write _ (key_revokeEntry _ _)
  · split
    · exact write _ (key_markEntry _ _)
    · exact Kept.refl g s

theorem requestHeld_kept {g : Ledger} {d : Desc} {i : LaneId} {h : Hold} {e : Entry} {s : State} (hold : s.hold i = some h) :
    Kept g s g (requestHeld d i h e s).1 := by
  unfold requestHeld
  simp only
  split
  · exact replaceHold_kept hold rfl rfl rfl
  · split
    · exact replaceHold_kept hold rfl rfl rfl
    · exact Kept.refl g s

theorem requestOperation_kept {g : Ledger} {d : Desc} {s t : State} {r : Reply} (running : s.ctl.part = .running)
    (h : requestOperation d s = some (t, r)) : Kept g s g t := by
  unfold requestOperation at h
  simp only at h
  split at h
  · cases h
  · cases h; exact Kept.refl g s
  · next l e found =>
    have unheld : Kept g s g (requestUnheld d l e s).1 := requestUnheld_kept running found
    split at h
    · have done : (requestUnheld d l e s).1 = t := congrArg Prod.fst (Option.some.inj h)
      exact done ▸ unheld
    · split at h
      · have done : (requestUnheld d l e s).1 = t := congrArg Prod.fst (Option.some.inj h)
        exact done ▸ unheld
      · next x hold =>
        have done : (requestHeld d _ x e s).1 = t := congrArg Prod.fst (Option.some.inj h)
        exact done ▸ requestHeld_kept hold

theorem listOperation_kept {g : Ledger} {d : Desc} {s : State} (running : s.ctl.part = .running) : Kept g s g (listOperation d s) := by
  unfold listOperation
  split
  · next done => exact (requestOperation_kept running done).trans ((returnList_quiet _ _ _).kept g)
  · exact ((tableFault_quiet _ _ _ _ _ s).trans (returnList_quiet _ _ _)).kept g

theorem batchOperation_kept {g : Ledger} {d : Desc} {n : Nat} {c : Counts} {s : State} (running : s.ctl.part = .running) :
    Kept g s g (batchOperation d n c s) := by
  unfold batchOperation
  split
  · exact (continueBuffer_quiet _ _ _ s).kept g
  · split
    · exact (loadFailed_quiet _ _ _ s).kept g
    · next done => exact (applyRecord_kept running done).trans ((continueBuffer_quiet _ _ _ _).kept g)

/-! ## The admission lookup and the closing operation -/

/-- An ADMIT comes from lane checks that pass and a lookup that finds an entry that is not held (R66, R70, R71). -/
theorem judge_admits {s : State} {i : LaneId} {key : Key} {loc : Location} (h : (s.judge i key).location = some loc) :
    s.laneChecks5 i = none ∧ s.heldAt key = none ∧ ∃ e, s.lookup key = .found loc e ∧ (s.judge i key).finding.entry = some e ∧
      (s.judge i key).finding.tier = some (max e.tier (s.lane i).tier) := by
  unfold State.judge at h ⊢
  split at h
  · cases h
  · next checks =>
    refine ⟨checks, ?_⟩
    split at h
    · cases h
    · next bit =>
      simp only [if_neg bit] at h ⊢
      split at h
      · cases h
      · cases h
      · next l e found =>
        unfold State.judgeEntry at h ⊢
        split at h
        · cases h
        · next live =>
          rw [if_neg live]
          split at h
          · cases h
          · next free =>
            simp only [Option.ite_none_right_eq_some, Option.some.injEq] at h
            obtain ⟨-, rfl⟩ := h
            exact ⟨free, e, found, rfl, rfl⟩

theorem applyVerdict_kept {i : LaneId} {key : Key} {s : State} (running : s.ctl.part = .running) :
    Kept .clear s .clear (applyVerdict i key (s.judge i key) s) := by
  unfold applyVerdict
  split
  · next loc tier e admitted _ entry =>
    obtain ⟨checks, free, e', found, entry', -⟩ := judge_admits admitted
    obtain ⟨checks, empty⟩ := (laneChecks5_none s i).1 checks
    have enabled := ((laneChecks4_none s i).1 checks).1
    unfold makeHold
    simp only
    refine Kept.trans ?_ ((watchEvent_quiet i _).kept _)
    have create : ∀ t : State, Quiet s t → t.tab = s.tab → Kept .clear t .clear (createHold i (.credential key loc tier) t) := by
      intro t q tab
      have hold : ∀ j, t.hold j = s.hold j := fun j => congrArg (fun v => v.get j) q.holds
      refine createHold_kept rfl ((hold i).trans empty) (q.part.trans running) ((q.lanes i).enabled.trans enabled) ?_ ?_
      · rintro _ _ _ ⟨⟩ j
        rw [hold]
        exact heldAt_eq_none_iff.1 free j
      · rintro sound _ _ _ ⟨⟩
        have before : s.TableSound := by
          unfold State.TableSound at sound ⊢
          rwa [q.part, q.setupComplete, tab] at sound
        rw [tab]
        obtain ⟨-, at_, same⟩ := running_lookup before running found
        exact ⟨e', at_, same⟩
    split
    · have spent : Quiet s (s.setLane i { s.lane i with token := none }) := setLane_quiet s i _ (by constructor <;> rfl)
      exact (spent.kept _).trans (create _ spent rfl)
    · exact create s (Quiet.refl s) rfl
  · split
    · exact (tableFault_quiet _ _ _ _ _ s).kept _
    · exact Kept.refl _ s

theorem lookupOperation_kept {d : Desc} {i : LaneId} {key : Key} {s : State} (running : s.ctl.part = .running) :
    Kept .clear s .clear (lookupOperation d i key s) := (applyVerdict_kept running).trans ((returnGate_quiet _ _ _).kept _)

/-- The closing operation that is due is that of a CLOSING CREDENTIAL hold of its lane. -/
theorem closingDue_eq_some {s : State} {i : LaneId} {h : Hold} {o : HoldOutcome} {key : Key} {loc : Location}
    (due : s.closingDue = some (i, h, o, key, loc)) :
    s.hold i = some h ∧ h.phase = .closing o ∧ ∃ tier, h.kind = .credential key loc tier := by
  unfold State.closingDue at due
  split at due
  · split at due
    · next hold =>
      split at due
      · next phase kind => cases due; exact ⟨hold, phase, _, kind⟩
      · cases due
    · cases due
  · cases due

theorem closeFailed_kept {i : LaneId} {h : Hold} {o : HoldOutcome} {key : Key} {s : State} (hold : s.hold i = some h) :
    Kept .clear s .clear (closeFailed i h o key s) := by
  have q := tableFault_quiet .closing (s.bucketOf key) (some i) (some h.zone) key s
  have still : (tableFault .closing (s.bucketOf key) (some i) (some h.zone) key s).hold i = some h := by
    rw [State.hold, q.holds]; exact hold
  exact ((q.kept _).trans (finishHold_kept o _ rfl still)).trans ((watchEvent_quiet i _).kept _)

theorem heldEntry_eq_some {s : State} {key : Key} {loc : Location} {e : Entry} (h : s.heldEntry key loc = some e) :
    s.tab.memory.entryAt loc = some e ∧ e.key = key := by
  simpa [State.heldEntry, Option.filter_eq_some_iff] using h

theorem writeHeld_kept {g : Ledger} {i : LaneId} {h : Hold} {o : HoldOutcome} {key : Key} {loc : Location} {e : Entry} {s : State}
    (running : s.ctl.part = .running) (entry : s.heldEntry key loc = some e) :
    Kept g s g (s.setMemory (s.tab.memory.writeEntry loc (closeEntry i h o s.now e))) :=
  writeEntry_kept running (fun _ => (heldEntry_eq_some entry).1) (key_closeEntry _ _ _ _ _)

theorem closeWritten_kept {i : LaneId} {h : Hold} {o : HoldOutcome} {key : Key} {loc : Location} {e : Entry} {s : State}
    (running : s.ctl.part = .running) (hold : s.hold i = some h) (entry : s.heldEntry key loc = some e) :
    Kept .clear s .clear (closeWritten i h o loc e s) :=
  ((writeHeld_kept running entry).trans (finishHold_kept o _ rfl hold)).trans ((watchEvent_quiet i _).kept _)

/-! ## The rebuild -/

/-- The filter and the walk change while the table memory stays. -/
theorem setFilter_kept {g : Ledger} {s : State} {presence shadow : List Nat} {filter : FilterState} {walk : Nat}
    (sound : s.TableSound → s.FilterSound →
      (s.setTab { s.tab with presence := presence, shadow := shadow, filter := filter, walk := walk }).FilterSound) :
    Kept g s g (s.setTab { s.tab with presence := presence, shadow := shadow, filter := filter, walk := walk }) :=
  { setTab_units g s _ with table := id, keys := fun _ => id, filter := sound, held := fun _ _ => id }

theorem startRebuild_kept {g : Ledger} {s : State} (running : s.ctl.part = .running) : Kept g s g (startRebuild s) :=
  setFilter_kept (presence := s.tab.presence) fun _ _ => ⟨fun h => (by cases h), fun _ => ⟨running, fun _ _ _ h => absurd h (Nat.not_lt_zero _)⟩⟩

theorem abandonRebuild_kept (g : Ledger) (s : State) : Kept g s g (abandonRebuild s) := by
  unfold abandonRebuild
  split
  · exact setFilter_kept (presence := s.tab.presence) fun _ _ => ⟨fun h => (by cases h), fun h => by cases h⟩
  · exact Kept.refl g s

theorem mem_foldl_bitInsert {n : Nat} (js l : List Nat) : n ∈ js.foldl (fun f i => bitInsert i f) l ↔ n ∈ js ∨ n ∈ l := by
  induction js generalizing l with
  | nil => simp
  | cons j js ih => rw [List.foldl_cons, ih, mem_bitInsert, List.mem_cons]; tauto

theorem walkBucket_kept {g : Ledger} {s : State} (rebuilding : s.tab.filter = .rebuilding) : Kept g s g (walkBucket s) := by
  unfold walkBucket
  simp only
  split
  · exact (((tableFault_quiet _ _ _ _ _ s).kept g).trans (abandonRebuild_kept g _)).trans ((emit_quiet _ _).kept g)
  · generalize hshadow : List.foldl (fun f i => bitInsert i f) s.tab.shadow
      (List.map (fun e => filterIndex e.key) (s.tab.memory.bucket s.tab.walk).entries) = shadow
    have passed : s.FilterSound → ∀ b e, s.tab.memory.Stores b e → b < s.tab.walk + 1 → filterIndex e.key ∈ shadow := by
      intro fs b e stored lt
      rw [← hshadow, mem_foldl_bitInsert]
      rcases Nat.lt_succ_iff_lt_or_eq.1 lt with before | rfl
      · exact .inr ((fs.2 rebuilding).2 b e stored before)
      · exact .inl (List.mem_map.2 ⟨e, stored, rfl⟩)
    have walked : Kept g s g (s.setTab { s.tab with shadow := shadow, walk := s.tab.walk + 1 }) :=
      setFilter_kept (presence := s.tab.presence) (filter := s.tab.filter) fun _ fs =>
        ⟨fs.1, fun r => ⟨(fs.2 r).1, passed fs⟩⟩
    split
    · next last =>
      unfold completeRebuild
      simp only
      refine Kept.trans ?_ ((emit_quiet _ _).kept g)
      refine setFilter_kept (s := s) (presence := shadow) fun sound fs => ⟨fun _ b e stored => ?_, fun h => by cases h⟩
      have running := (fs.2 rebuilding).1
      obtain ⟨m, marker, hk, -⟩ := running_marker sound running
      have inside : b < 2 ^ s.tab.k := hk ▸ stores_in_geometry sound.1 marker stored
      exact passed fs b e stored (inside.trans_le last)
    · exact walked

theorem rebuildDesc_kept {g : Ledger} {d : Desc} {s : State} (running : s.ctl.part = .running) : Kept g s g (rebuildDesc d s) := by
  have broken := breakChain_quiet s
  unfold rebuildDesc
  simp only
  split
  · exact (broken.trans (returnList_quiet _ _ _)).kept g
  · exact ((broken.kept g).trans (startRebuild_kept (broken.part.trans running))).trans ((returnList_quiet _ _ _).kept g)

end Sys2Proof.Proofs.Keeping
end

section
/-! PROOFS. What an event at one lane leaves alone, whatever it brings about: the control window but for NOTICE, the clock, the rings,
the table but for its port, and every other lane's hold. -/

namespace Sys2Proof.Proofs.Keeping

open Sys2Proof Sys2Proof.Machine

/-- Two states between which only an event at lane `i` lies. -/
structure EventFrame (i : LaneId) (s t : State) : Prop where
  ctl : t.ctl = { s.ctl with notice := t.ctl.notice }
  clk : t.clk = s.clk
  cfg : t.cfg = s.cfg
  gate : t.gate = s.gate
  list : t.list = s.list
  tab : t.tab = { s.tab with port := t.tab.port }
  adm : t.adm = s.adm
  pending : t.pending = s.pending
  hold : ∀ j, j ≠ i → t.hold j = s.hold j

variable {i : LaneId} {s t u : State}

theorem EventFrame.refl (i : LaneId) (s : State) : EventFrame i s s := by constructor <;> intros <;> rfl

theorem EventFrame.trans (a : EventFrame i s t) (b : EventFrame i t u) : EventFrame i s u where
  ctl := by rw [b.ctl, a.ctl]
  clk := b.clk.trans a.clk
  cfg := b.cfg.trans a.cfg
  gate := b.gate.trans a.gate
  list := b.list.trans a.list
  tab := by rw [b.tab, a.tab]
  adm := b.adm.trans a.adm
  pending := b.pending.trans a.pending
  hold j h := (b.hold j h).trans (a.hold j h)

theorem EventFrame.of_unit (f : UnitFrame s t) (i : LaneId) : EventFrame i s t where
  ctl := f.ctl
  clk := f.clk
  cfg := f.cfg
  gate := f.gate
  list := f.list
  tab := by rw [f.tab]
  adm := f.adm
  pending := f.pending
  hold j _ := congrArg (fun v => v.get j) f.holds

theorem EventFrame.part (f : EventFrame i s t) : t.ctl.part = s.ctl.part := by rw [f.ctl]

theorem EventFrame.setupComplete (f : EventFrame i s t) : t.ctl.setupComplete = s.ctl.setupComplete := by rw [f.ctl]

theorem setHold_eventFrame (s : State) (i : LaneId) (h : Option Hold) : EventFrame i s (s.setHold i h) :=
  { EventFrame.refl i s with hold := fun j n => State.setHold_hold_other s i h j n }

theorem setLane_eventFrame (s : State) (i j : LaneId) (l : Lane) : EventFrame i s (s.setLane j l) := .of_unit (setLane_frame s j l) i

theorem removeHold_unitFrame (i : LaneId) (r : Bool) (s : State) : UnitFrame (s.setHold i none) (removeHold i r s) := by
  rw [removeHold_cases]
  have dropped : UnitFrame (s.setHold i none) ((s.setHold i none).setLane i { s.lane i with pendingMode := none }) :=
    setLane_frame _ i _
  simp only
  split
  · exact dropped
  · split
    · exact dropped.trans (setLane_frame _ i _)
    · exact dropped.trans (takeMode_frame _ _ _ _ _)

theorem removeHold_eventFrame (i : LaneId) (r : Bool) (s : State) : EventFrame i s (removeHold i r s) :=
  (setHold_eventFrame s i none).trans (.of_unit (removeHold_unitFrame i r s) i)

theorem removeHold_hold (i : LaneId) (r : Bool) (s : State) : (removeHold i r s).hold i = none := by
  have holds := (removeHold_unitFrame i r s).holds
  rw [State.hold, holds]
  exact State.setHold_hold_same s i none

theorem releaseReserved_frame (h : Hold) (s : State) : UnitFrame s (releaseReserved h s) := by
  unfold releaseReserved
  split
  · exact setZone_frame _ _ _
  · exact UnitFrame.refl s

theorem movePerson_frame (z : ZoneId) (up : Bool) (s : State) : UnitFrame s (movePerson z up s) := setOccupancy_frame _ _ _

theorem finishHold_eventFrame (i : LaneId) (h : Hold) (o : HoldOutcome) (c : Closing) (s : State) :
    EventFrame i s (finishHold i h o c s) := by
  unfold finishHold
  have released := releaseReserved_frame h s
  simp only
  split
  · exact (EventFrame.of_unit (released.trans (emit_frame _ _).unit) i).trans (removeHold_eventFrame _ _ _)
  · exact (EventFrame.of_unit ((released.trans (movePerson_frame _ _ _)).trans (emit_frame _ _).unit) i).trans
      (removeHold_eventFrame _ _ _)

theorem finishHold_hold (i : LaneId) (h : Hold) (o : HoldOutcome) (c : Closing) (s : State) : (finishHold i h o c s).hold i = none := by
  unfold finishHold
  simp only
  split <;> exact removeHold_hold _ _ _

theorem endHold_eventFrame (i : LaneId) (o : HoldOutcome) (s : State) : EventFrame i s (endHold i o s) := by
  unfold endHold
  split
  · exact EventFrame.refl i s
  · next h _ =>
    refine (setHold_eventFrame s i (some { h with phase := .closing o })).trans ?_
    simp only
    split
    · exact { EventFrame.refl i (s.setHold i _) with tab := rfl }
    · exact finishHold_eventFrame _ _ _ _ _

theorem beamRise_eventFrame (i : LaneId) (s : State) : EventFrame i s (beamRise i s) := by
  unfold beamRise
  split
  · exact EventFrame.refl i s
  · split <;> exact setHold_eventFrame s i _

theorem suspendTimer_eventFrame (i : LaneId) (s : State) : EventFrame i s (suspendTimer i s) := by
  unfold suspendTimer
  split
  · exact EventFrame.refl i s
  · exact setHold_eventFrame s i _

theorem countFree_frame (i : LaneId) (s : State) : UnitFrame s (countFree i s) := by
  unfold countFree
  simp only
  split
  · exact (setLane_frame s i _).trans (reportTally_frame i 0 _)
  · exact setLane_frame s i _

theorem anonymousPassage_frame (i : LaneId) (forward : Bool) (s : State) : UnitFrame s (anonymousPassage i forward s) := by
  unfold anonymousPassage passageRecord
  simp only
  split
  · exact UnitFrame.refl s
  · split
    · split
      · exact (movePerson_frame _ _ s).trans (countFree_frame _ _)
      · exact (movePerson_frame _ _ s).trans (emitLane_frame _ _ _ _ _).unit
    · exact (movePerson_frame _ _ s).trans (emitLane_frame _ _ _ _ _).unit

theorem completeTurn_eventFrame (i : LaneId) (forward : Bool) (s : State) : EventFrame i s (completeTurn i forward s) := by
  unfold completeTurn
  split
  · exact endHold_eventFrame _ _ _
  · exact .of_unit (anonymousPassage_frame _ _ _) i

theorem setTracker_eventFrame (i : LaneId) (t : Tracker) (s : State) : EventFrame i s (setTracker i t s) := setLane_eventFrame s i i _

theorem trackerJump_eventFrame (i : LaneId) (p : Fin 4) (s : State) : EventFrame i s (trackerJump i p s) :=
  ((setTracker_eventFrame i _ s).trans (.of_unit (emitLane_frame _ _ _ _ _).unit i)).trans (endHold_eventFrame _ _ _)

theorem trackerStep_eventFrame (i : LaneId) (p : Fin 4) (up : Bool) (s : State) : EventFrame i s (trackerStep i p up s) := by
  unfold trackerStep
  simp only
  generalize (if up = true then (s.lane i).tracker.turn + 1 else (s.lane i).tracker.turn - 1) = turn
  split
  · split
    · exact (setTracker_eventFrame i _ s).trans (completeTurn_eventFrame _ _ _)
    · split
      · exact (setTracker_eventFrame i _ s).trans (completeTurn_eventFrame _ _ _)
      · exact setTracker_eventFrame i _ s
  · split
    · exact (setTracker_eventFrame i _ s).trans (suspendTimer_eventFrame _ _)
    · exact setTracker_eventFrame i _ s

theorem trackerMove_eventFrame (i : LaneId) (p : Fin 4) (s : State) : EventFrame i s (trackerMove i p s) := by
  unfold trackerMove
  simp only
  split
  · exact EventFrame.refl i s
  · split
    · exact setTracker_eventFrame i _ s
    · split
      · exact trackerStep_eventFrame _ _ _ _
      · split
        · exact trackerStep_eventFrame _ _ _ _
        · exact trackerJump_eventFrame _ _ _

theorem fireRise_eventFrame (i : LaneId) (s : State) : EventFrame i s (fireRise i s) := by
  unfold fireRise
  split
  · exact EventFrame.refl i s
  · exact (EventFrame.of_unit ((setLane_frame s i _).trans (takeMode_frame _ _ _ _ _)) i).trans (endHold_eventFrame _ _ _)

theorem fireFall_frame (i : LaneId) (s : State) : UnitFrame s (fireFall i s) := by
  unfold fireFall
  split
  · exact (setLane_frame s i _).trans (takeMode_frame _ _ _ _ _)
  · exact UnitFrame.refl s

theorem levelsChange_eventFrame (i : LaneId) (new : Levels) (s : State) : EventFrame i s (levelsChange i new s) := by
  unfold levelsChange
  simp only
  refine EventFrame.trans ?_ (.of_unit (watchEvent_frame i _) i)
  have beam : EventFrame i s (if new.beam && !(s.lane i).level.beam then beamRise i (s.setLane i { s.lane i with level := new })
      else s.setLane i { s.lane i with level := new }) := by
    split
    · exact (setLane_eventFrame s i i _).trans (beamRise_eventFrame _ _)
    · exact setLane_eventFrame s i i _
  generalize (if new.beam && !(s.lane i).level.beam then beamRise i (s.setLane i { s.lane i with level := new })
      else s.setLane i { s.lane i with level := new }) = s1 at beam
  have arms : ∀ c : Prop, [Decidable c] → EventFrame i s (if c then trackerMove i (armPosition new) s1 else s1) := by
    intro c _
    split
    · exact beam.trans (trackerMove_eventFrame _ _ _)
    · exact beam
  split
  · exact (arms _).trans (fireRise_eventFrame _ _)
  · split
    · exact (arms _).trans (.of_unit (fireFall_frame _ _) i)
    · exact arms _

theorem deliverLevels_eventFrame (i : LaneId) (new : Levels) (s : State) : EventFrame i s (deliverLevels i new s) := by
  unfold deliverLevels
  split
  · exact EventFrame.refl i s
  · exact levelsChange_eventFrame i new s

theorem restartConditioning_eventFrame (i : LaneId) (p : Period) (s : State) : EventFrame i s (restartConditioning i p s) := by
  unfold restartConditioning
  simp only
  split
  · exact (setLane_eventFrame s i i _).trans (deliverLevels_eventFrame _ _ _)
  · exact setLane_eventFrame s i i _

end Sys2Proof.Proofs.Keeping
end

section
/-! PROOFS. What a STOP keeps: the operation that it meets half done, the removal of every hold, and the part's changes of state. -/

namespace Sys2Proof.Proofs.Keeping

open Sys2Proof Sys2Proof.Machine Sys2Proof.Proofs.Table

theorem portUp_running {s : State} (h : s.portUp = true) : s.ctl.part = .running := by
  simp only [State.portUp, State.running, Bool.and_eq_true, decide_eq_true_eq] at h
  exact h.1

/-! ## What a STOP completes -/

theorem completeGate_kept {s : State} (running : s.ctl.part = .running) : Kept .clear s .clear (completeGate s) := by
  unfold completeGate
  split
  · split
    · exact applyVerdict_kept running
    · exact Kept.refl _ s
  · split
    · split
      · exact Kept.refl _ s
      · split
        · exact Kept.refl _ s
        · next entry => exact writeHeld_kept running entry
    · exact Kept.refl _ s

theorem completeList_kept {s : State} (running : s.ctl.part = .running) : Kept .clear s .clear (completeList s) := by
  unfold completeList
  split
  · split
    · exact Kept.refl _ s
    · next r _ =>
      cases applied : applyRecord r s with
      | none => exact Kept.refl _ s
      | some x => exact applyRecord_kept (t := x.1) (k := x.2) running applied
  · next d _ =>
    cases done : requestOperation d s with
    | none => exact Kept.refl _ s
    | some x => exact requestOperation_kept (t := x.1) (r := x.2) running done
  · exact Kept.refl _ s

theorem completeFlight_kept (f : InFlight) (s : State) : Kept .clear s .clear (completeFlight f s) := by
  unfold completeFlight
  split
  · next up =>
    have running := portUp_running up
    cases f with
    | idle => exact Kept.refl _ s
    | gate => exact completeGate_kept running
    | list => exact completeList_kept running
    | profile => exact (completeProfile_quiet s).kept _
    | gateThenProfile => exact (completeGate_kept running).trans ((completeProfile_quiet _).kept _)
    | profileThenGate =>
      exact ((completeProfile_quiet s).kept _).trans (completeGate_kept ((completeProfile_quiet s).part.trans running))
  · exact Kept.refl _ s

/-! ## Changes of the part state -/

/-- While the part is not RUNNING no hold is in force. -/
theorem no_holds {s : State} (placed : s.HoldsPlaced) (idle : s.ctl.part ≠ .running) (i : LaneId) : s.hold i = none :=
  Option.eq_none_iff_forall_ne_some.2 fun h hi => idle (placed i h hi).1

/-- An operation that ends with the part not RUNNING leaves no hold, whose entry might be missing. -/
theorem Kept.of_idle {s t : State} (units : UnitsKept .clear s .clear t) (idle : t.ctl.part ≠ .running)
    (table : s.TableSound → t.TableSound) (keys : s.TableSound → s.KeysPlaced → t.KeysPlaced)
    (filter : s.TableSound → s.FilterSound → t.FilterSound) : Kept .clear s .clear t :=
  { units with
    table := table, keys := keys, filter := filter,
    held := fun placed _ _ i h _ _ _ hold => by
      rw [no_holds ((clear_placed t).1 (units.placed placed)) idle i] at hold
      cases hold }

/-- The control window changes while the part is not RUNNING. -/
theorem setCtl_units {s : State} (c : Control) (idle : s.ctl.part ≠ .running) : UnitsKept .clear s .clear (s.setCtl c) :=
  { pending := rfl, memory := id, journal := id, zones := id, monitors := id, trackers := id, modes := id, distinct := id,
    reserved := fun _ => id,
    placed := fun placed => .inr fun i h hi => by
      rw [State.setCtl_hold, no_holds ((clear_placed s).1 placed) idle i] at hi
      cases hi }

/-- The part enters another state while it is not RUNNING, with a valid setup where the new state asks for one. -/
theorem setCtl_kept {s : State} (c : Control) (idle : s.ctl.part ≠ .running)
    (setup : s.TableSound → (c.part = .standby ∨ c.part = .running → c.setupComplete = true) ∧
      (c.setupComplete = true → s.ctl.setupComplete = true)) : Kept .clear s .clear (s.setCtl c) :=
  { setCtl_units c idle with
    table := fun sound => ⟨sound.1, (setup sound).1, fun h => sound.2.2 ((setup sound).2 h)⟩, keys := fun _ => id,
    filter := fun _ h => ⟨h.1, fun r => absurd (h.2 r).1 idle⟩, held := fun _ _ => id }

/-! ## The STOP effects -/

/-- While a STOP removes the holds of a part that is already HALTED. -/
def Ledger.stopping : Ledger := { Ledger.clear with halting := true }

theorem stopHold_kept (s : State) (i : LaneId) : Kept .stopping s .stopping (stopHold s i) := by
  unfold stopHold
  split
  · exact (removeHold_kept (g := .stopping) false (.inr rfl)).trans ((setLane_quiet _ i _ (by constructor <;> rfl)).kept _)
  · exact Kept.refl _ s

theorem stopHold_hold (s : State) (i j : LaneId) : (stopHold s i).hold j = if j = i then none else s.hold j := by
  unfold stopHold
  by_cases e : j = i
  · subst e
    cases h : s.hold j with
    | none => simp [h]
    | some x => simp [removeHold_hold]
  · rw [if_neg e]
    split
    · exact (removeHold_eventFrame i false s).hold j e
    · rfl

theorem stopHold_frame (s : State) (i : LaneId) : (stopHold s i).ctl = { s.ctl with notice := (stopHold s i).ctl.notice } ∧
    (stopHold s i).tab = s.tab := by
  unfold stopHold
  split
  · have f := removeHold_unitFrame i false s
    exact ⟨f.ctl, f.tab⟩
  · exact ⟨rfl, rfl⟩

theorem stopHolds_hold (l : List LaneId) (s : State) (j : LaneId) :
    (l.foldl stopHold s).hold j = if j ∈ l then none else s.hold j := by
  induction l generalizing s with
  | nil => simp
  | cons i l ih =>
    rw [List.foldl_cons, ih, stopHold_hold]
    by_cases h : j ∈ l <;> by_cases e : j = i <;> simp [h, e]

theorem stopHolds_frame (l : List LaneId) (s : State) :
    (l.foldl stopHold s).ctl = { s.ctl with notice := (l.foldl stopHold s).ctl.notice } ∧ (l.foldl stopHold s).tab = s.tab := by
  induction l generalizing s with
  | nil => exact ⟨rfl, rfl⟩
  | cons i l ih =>
    obtain ⟨ctl, tab⟩ := ih (stopHold s i)
    obtain ⟨ctl', tab'⟩ := stopHold_frame s i
    rw [List.foldl_cons]
    exact ⟨by rw [ctl, ctl'], tab.trans tab'⟩

theorem clearZones_zone (l : List ZoneId) (s : State) (y : ZoneId) :
    (l.foldl (fun t z => t.setZone z { t.zone z with reserved := 0 }) s).zone y =
      if y ∈ l then { s.zone y with reserved := 0 } else s.zone y := by
  induction l generalizing s with
  | nil => simp
  | cons z l ih =>
    rw [List.foldl_cons, ih, State.setZone_zone]
    by_cases h : y ∈ l <;> by_cases e : y = z <;> simp [h, e]

theorem mem_zoneOrder (z : ZoneId) : z ∈ zoneOrder := by revert z; decide

theorem clearReserved_zone (s : State) (z : ZoneId) : (clearReserved s).zone z = { s.zone z with reserved := 0 } :=
  (clearZones_zone zoneOrder s z).trans (if_pos (mem_zoneOrder z))

theorem clearReserved_eq (s : State) : ∃ v, clearReserved s = { s with zones := v } := by
  unfold clearReserved
  generalize zoneOrder = l
  induction l generalizing s with
  | nil => exact ⟨s.zones, rfl⟩
  | cons z l ih =>
    obtain ⟨v, hv⟩ := ih (s.setZone z { s.zone z with reserved := 0 })
    exact ⟨v, hv⟩

theorem clearReserved_ctl (s : State) : (clearReserved s).ctl = s.ctl := by
  obtain ⟨v, hv⟩ := clearReserved_eq s
  rw [hv]

theorem clearReserved_tab (s : State) : (clearReserved s).tab = s.tab := by
  obtain ⟨v, hv⟩ := clearReserved_eq s
  rw [hv]

/-- With every hold gone and every reserved count at 0 the STOP owes nothing any more. -/
theorem clearReserved_units {s : State} (empty : ∀ i, s.hold i = none) : UnitsKept .stopping s .clear (clearReserved s) := by
  have zone := clearReserved_zone s
  obtain ⟨v, hv⟩ := clearReserved_eq s
  rw [hv] at zone ⊢
  have none_held : ∀ i, ({ s with zones := v } : State).hold i = none := empty
  refine
    { pending := rfl, memory := id, journal := id, zones := fun b z => ?_, monitors := id, trackers := id, modes := id,
      placed := fun _ => .inr fun i h hi => ?_, distinct := id, reserved := fun _ _ => .inr fun z => ?_ }
  · rw [zone]; exact b z
  · rw [none_held] at hi; cases hi
  · rw [zone]
    simp [Ledger.entryHolds, none_held, reserves]

theorem setPart_halting_units (s : State) : UnitsKept .clear s .stopping (setPart .halted s) :=
  { pending := rfl, memory := id, journal := id, zones := id, monitors := id, trackers := id, modes := id, distinct := id,
    placed := fun _ => .inl rfl, reserved := fun _ _ => .inl rfl }

/-- The holds and the reservations after a STOP has halted the part. -/
def stoppedHolds (s : State) : State := clearReserved (laneOrder.foldl stopHold (setPart .halted s))

theorem stoppedHolds_ctl_tab (s : State) :
    (stoppedHolds s).ctl = { s.ctl with part := .halted, notice := (stoppedHolds s).ctl.notice } ∧ (stoppedHolds s).tab = s.tab := by
  obtain ⟨ctl, tab⟩ := stopHolds_frame laneOrder (setPart .halted s)
  unfold stoppedHolds
  rw [clearReserved_ctl, clearReserved_tab]
  generalize laneOrder.foldl stopHold (setPart .halted s) = t at ctl tab
  exact ⟨ctl, tab⟩

theorem stoppedHolds_units (s : State) : UnitsKept .clear s .clear (stoppedHolds s) :=
  ((setPart_halting_units s).trans (Kept.foldl stopHold stopHold_kept laneOrder _).toUnitsKept).trans
    (clearReserved_units fun i => by rw [stopHolds_hold, if_pos (mem_laneOrder i)])

theorem abandonRebuild_tab (s : State) : (abandonRebuild s).tab.memory = s.tab.memory ∧ (abandonRebuild s).tab.k = s.tab.k ∧
    (abandonRebuild s).tab.u = s.tab.u ∧ (abandonRebuild s).tab.presence = s.tab.presence ∧
    (abandonRebuild s).tab.filter ≠ .rebuilding ∧ ((abandonRebuild s).tab.filter = .valid → s.tab.filter = .valid) := by
  unfold abandonRebuild
  split
  · exact ⟨rfl, rfl, rfl, rfl, fun h => by (cases h), fun h => by cases h⟩
  · next h => exact ⟨rfl, rfl, rfl, rfl, h, id⟩

theorem abandonRebuild_ctl (s : State) : (abandonRebuild s).ctl = s.ctl := by
  unfold abandonRebuild
  split <;> rfl

theorem stopUnits_quiet (s : State) : Quiet s (stopUnits s) :=
  (((setGate_quiet s ⟨s.gate.take, none, none⟩).trans (setList_quiet _ { s.list with poll := none, work := none, wait := none })).trans
    (setPort_quiet _ [])).trans (setJrn_quiet _ { s.jrn with poll := none } id)

theorem stopEffects_eq (s : State) : stopEffects s = stopUnits (abandonRebuild (stoppedHolds s)) := by
  unfold stopEffects stoppedHolds
  rfl

theorem stopUnits_ctl (s : State) : (stopUnits s).ctl = s.ctl := by
  unfold stopUnits
  rfl

theorem stopEffects_part (s : State) : (stopEffects s).ctl.part = .halted := by
  rw [stopEffects_eq, stopUnits_ctl, abandonRebuild_ctl, (stoppedHolds_ctl_tab s).1]

theorem stopEffects_kept (s : State) : Kept .clear s .clear (stopEffects s) := by
  rw [stopEffects_eq]
  refine Kept.trans ?_ ((stopUnits_quiet _).kept _)
  obtain ⟨ctl, tab⟩ := stoppedHolds_ctl_tab s
  obtain ⟨memory, k, u, presence, idle, valid⟩ := abandonRebuild_tab (stoppedHolds s)
  have part : (abandonRebuild (stoppedHolds s)).ctl.part = .halted := by rw [abandonRebuild_ctl, ctl]
  have complete : (abandonRebuild (stoppedHolds s)).ctl.setupComplete = s.ctl.setupComplete := by rw [abandonRebuild_ctl, ctl]
  rw [tab] at memory k u presence valid
  refine Kept.of_idle ((stoppedHolds_units s).trans (abandonRebuild_kept _ _).toUnitsKept) ?_ (fun sound => ?_) (fun _ keys => ?_)
    (fun _ filter => ⟨fun h => ?_, fun h => absurd h idle⟩)
  · rw [part]; decide
  · refine ⟨by rw [memory]; exact sound.1, fun h => ?_, fun h => ?_⟩
    · rw [part] at h; rcases h with h | h <;> cases h
    · rw [complete] at h
      rw [memory, k, u]
      exact sound.2.2 h
  · unfold State.KeysPlaced; rw [memory]; exact keys
  · rw [memory, presence]; exact filter.1 (valid h)

end Sys2Proof.Proofs.Keeping
end

section
/-! PROOFS. What a setup keeps: its checks, its failure, its table step and the programming of every unit from the block. -/

namespace Sys2Proof.Proofs.Keeping

open Sys2Proof Sys2Proof.Machine Sys2Proof.Proofs.Table

/-! ## A setup under way -/

/-- A stage of a setup keeps the units and the table memory, and leaves the part as it was or HALTED with no setup. -/
structure Staged (s t : State) : Prop extends UnitsKept .clear s .clear t where
  sound : s.tab.memory.Sound → t.tab.memory.Sound
  keys : s.KeysPlaced → t.KeysPlaced
  filter : s.ctl.part ≠ .running → s.FilterSound → t.FilterSound
  course : (t.ctl.part = s.ctl.part ∧ t.ctl.setupComplete = s.ctl.setupComplete ∧ t.ctl.setupRun.isSome = s.ctl.setupRun.isSome) ∨
    (t.ctl.part = .halted ∧ t.ctl.setupComplete = false ∧ t.ctl.setupRun = none)

theorem Staged.idle {s t : State} (a : Staged s t) (idle : s.ctl.part ≠ .running) : t.ctl.part ≠ .running := by
  rcases a.course with ⟨part, -, -⟩ | ⟨part, -, -⟩
  · rw [part]; exact idle
  · rw [part]; decide

theorem Staged.trans {s t u : State} (a : Staged s t) (b : Staged t u) : Staged s u where
  toUnitsKept := a.toUnitsKept.trans b.toUnitsKept
  sound := b.sound ∘ a.sound
  keys := b.keys ∘ a.keys
  filter idle h := b.filter (a.idle idle) (a.filter idle h)
  course := by
    rcases b.course with ⟨part, complete, run⟩ | halted
    · rw [part, complete, run]
      rcases a.course with same | ⟨part', complete', run'⟩
      · exact .inl same
      · exact .inr ⟨part', complete', by rw [run'] at run; simpa using run⟩
    · exact .inr halted

theorem Staged.refl (s : State) : Staged s s :=
  ⟨(Kept.refl _ s).toUnitsKept, id, id, fun _ => id, .inl ⟨rfl, rfl, rfl⟩⟩

/-- A stage that ends with no valid setup. -/
theorem Staged.kept {s t : State} (a : Staged s t) (idle : s.ctl.part ≠ .running)
    (part : t.ctl.part = .settingUp ∨ t.ctl.part = .halted) (incomplete : t.ctl.setupComplete = false) : Kept .clear s .clear t := by
  refine Kept.of_idle a.toUnitsKept (a.idle idle) (fun h => ⟨a.sound h.1, fun p => ?_, fun c => ?_⟩) (fun _ => a.keys)
    (fun _ => a.filter idle)
  · rcases part with e | e <;> rw [e] at p <;> simp at p
  · rw [incomplete] at c; cases c

theorem failSetup_staged (code : FailureCode) {s : State} (idle : s.ctl.part ≠ .running) : Staged s (failSetup code s) := by
  obtain ⟨part, complete, -, run, tab⟩ := failSetup_ctl code s
  refine ⟨?_, fun h => by rw [tab]; exact h, fun h => by unfold State.KeysPlaced; rw [tab]; exact h,
    fun _ h => ⟨fun v => by rw [tab] at v ⊢; exact h.1 v, fun r => by rw [tab] at r; exact absurd (h.2 r).1 idle⟩,
    .inr ⟨part, complete, run⟩⟩
  unfold failSetup
  have written : Quiet s (match s.ctl.setupRun with
      | some r => if r.stage = .entered then s else writeResult r false code .none 0 s
      | none => s) := by
    split
    · split
      · exact Quiet.refl s
      · exact writeResult_quiet _ _ _ _ _ s
    · exact Quiet.refl s
  have noted := written.trans (notify_quiet .setupFailed _)
  exact (noted.kept .clear).toUnitsKept.trans (setCtl_units _ (by rw [noted.part]; exact idle))

theorem setStage_staged (r : SetupRun) (g : SetupStage) {s : State} (run : s.ctl.setupRun.isSome = true) :
    Staged s (setStage r g s) where
  toUnitsKept := ((setCtl_quiet s { s.ctl with setupRun := some { r with stage := g } } rfl rfl).kept _).toUnitsKept
  sound := id
  keys := id
  filter _ := id
  course := .inl ⟨rfl, rfl, by rw [run]; rfl⟩

theorem beginFormat_staged (s : State) : Staged s (beginFormat s) where
  toUnitsKept := setTab_units _ s _
  sound h := ⟨h.1, fun _ hm => by cases hm⟩
  keys _ _ hm := by cases hm
  filter _ _ := ⟨fun h => by (cases h), fun h => by cases h⟩
  course := .inl ⟨rfl, rfl, rfl⟩

theorem makeFirstCheck_staged {s : State} (idle : s.ctl.part ≠ .running) : Staged s (makeFirstCheck s) := by
  cases h : s.ctl.setupRun with
  | none => simp only [makeFirstCheck, h]; exact Staged.refl s
  | some r =>
    rw [makeFirstCheck_cases s r h]
    split
    · split
      · exact setStage_staged r _ (by rw [h]; rfl)
      · exact failSetup_staged _ idle
    · exact Staged.refl s

theorem makeBlockChecks_staged {s : State} (idle : s.ctl.part ≠ .running) : Staged s (makeBlockChecks s) := by
  cases h : s.ctl.setupRun with
  | none => simp only [makeBlockChecks, h]; exact Staged.refl s
  | some r =>
    have run : s.ctl.setupRun.isSome = true := by rw [h]; rfl
    rw [makeBlockChecks_cases s r h]
    split
    · split
      · exact failSetup_staged _ idle
      · split
        · exact (setStage_staged r .table run).trans (beginFormat_staged _)
        · exact setStage_staged r .table run
    · exact Staged.refl s

theorem advanceSetup_staged (g : SetupStage) {s : State} (idle : s.ctl.part ≠ .running) : Staged s (advanceSetup g s) := by
  cases g with
  | entered => exact Staged.refl s
  | checking => exact makeFirstCheck_staged idle
  | table =>
    have first := makeFirstCheck_staged idle
    exact first.trans (makeBlockChecks_staged (first.idle idle))

theorem enterSetup_kept {s : State} (idle : s.ctl.part ≠ .running) : Kept .clear s .clear (enterSetup s) :=
  (setCtl_kept _ idle fun _ => ⟨fun h => (by rcases h with h | h <;> cases h), fun h => by cases h⟩).trans
    ((setCfg_quiet _ _).kept _)

theorem startSetup_kept (g : SetupStage) {s : State} (idle : s.ctl.part ≠ .running) : Kept .clear s .clear (startSetup g s) := by
  have entered : (enterSetup s).ctl.part ≠ .running := fun h => by cases h
  have staged := advanceSetup_staged g entered
  refine (enterSetup_kept idle).trans (staged.kept entered ?_ ?_)
  · rcases staged.course with ⟨part, -, -⟩ | ⟨part, -, -⟩
    · exact .inl part
    · exact .inr part
  · rcases staged.course with ⟨-, complete, -⟩ | ⟨-, complete, -⟩ <;> exact complete

/-! ## The programming of the units -/

theorem UnitsKept.foldl_while {α : Type} {g : Ledger} (p : State → Prop) (f : State → α → State)
    (hf : ∀ s x, p s → UnitsKept g s g (f s x) ∧ p (f s x)) (l : List α) (s : State) (hs : p s) :
    UnitsKept g s g (l.foldl f s) ∧ p (l.foldl f s) := by
  induction l generalizing s with
  | nil => exact ⟨(Kept.refl g s).toUnitsKept, hs⟩
  | cons x l ih =>
    obtain ⟨first, hp⟩ := hf s x hs
    obtain ⟨rest, hq⟩ := ih (f s x) hp
    exact ⟨first.trans rest, hq⟩

/-- What programming leaves alone but for the lanes, the zones and the monitors. -/
structure CoreFrame (s t : State) : Prop where
  ctl : t.ctl = { s.ctl with notice := t.ctl.notice }
  clk : t.clk = s.clk
  cfg : t.cfg = s.cfg
  gate : t.gate = s.gate
  list : t.list = s.list
  tab : t.tab = { s.tab with port := t.tab.port }
  adm : t.adm = s.adm
  pending : t.pending = s.pending

theorem EventFrame.core {i : LaneId} {s t : State} (f : EventFrame i s t) : CoreFrame s t :=
  ⟨f.ctl, f.clk, f.cfg, f.gate, f.list, f.tab, f.adm, f.pending⟩

theorem CoreFrame.refl (s : State) : CoreFrame s s := (EventFrame.refl 0 s).core

theorem CoreFrame.trans {s t u : State} (a : CoreFrame s t) (b : CoreFrame t u) : CoreFrame s u where
  ctl := by rw [b.ctl, a.ctl]
  clk := b.clk.trans a.clk
  cfg := b.cfg.trans a.cfg
  gate := b.gate.trans a.gate
  list := b.list.trans a.list
  tab := by rw [b.tab, a.tab]
  adm := b.adm.trans a.adm
  pending := b.pending.trans a.pending

theorem CoreFrame.foldl {α : Type} (f : State → α → State) (hf : ∀ s x, CoreFrame s (f s x)) (l : List α) (s : State) :
    CoreFrame s (l.foldl f s) := by
  induction l generalizing s with
  | nil => exact CoreFrame.refl s
  | cons x l ih => exact (hf s x).trans (ih (f s x))

theorem CoreFrame.part {s t : State} (f : CoreFrame s t) : t.ctl.part = s.ctl.part := by rw [f.ctl]

/-- While setup has not programmed the lanes of a list. -/
def Ledger.unsetAt (l : List LaneId) : Ledger := { Ledger.clear with unset := fun i => decide (i ∈ l) }

theorem unsetAt_nil : Ledger.unsetAt [] = .clear := by simp [Ledger.unsetAt, Ledger.clear]

theorem setupTracker_sound (l l' : Lane) (tracker : l'.tracker = setupTracker l) (enabled : l'.enabled = l.enabled) :
    TrackerSound l' := by
  unfold TrackerSound
  rw [tracker, enabled]
  unfold setupTracker
  split
  · next h => exact ⟨trivial, fun e => absurd (h.1.symm.trans e) (by decide)⟩
  · exact ⟨sound_atRest, fun _ => rfl⟩

theorem programmed_modeSound (r : SetupRun) (i : LaneId) (l : Lane) (hold : Bool) :
    ModeSound (r.programmed i l).level.fire hold (r.programmed i l) := by
  unfold ModeSound SetupRun.programmed
  simp only
  refine ⟨?_, ?_, fun h => by cases h⟩ <;> split <;> simp_all

theorem programLane_frame (r : SetupRun) (s : State) (i : LaneId) : EventFrame i s (programLane r s i) :=
  ((setLane_eventFrame s i i _).trans (setLane_eventFrame _ i i _)).trans (restartConditioning_eventFrame i _ _)

theorem programLane_units (r : SetupRun) {s : State} (i : LaneId) (l : List LaneId) (idle : s.ctl.part ≠ .running) :
    UnitsKept (.unsetAt (i :: l)) s (.unsetAt l) (programLane r s i) := by
  have owed : Ledger.SameBut i (.unsetAt (i :: l)) (.unsetAt l) :=
    ⟨fun _ _ => rfl, fun j h => by simp [Ledger.unsetAt, h], rfl, rfl⟩
  have settings : Kept (.unsetAt (i :: l)) s (.unsetAt l) (s.setLane i (r.programmed i (s.lane i))) :=
    setLane_kept owed (fun _ => setupTracker_sound _ _ rfl rfl) (fun _ => .inr (programmed_modeSound r i _ _)) (.inr idle)
  exact ((settings.trans ((takeTerms_quiet i _).kept _)).trans (restartConditioning_kept i _ _ rfl rfl)).toUnitsKept

theorem programLanes_frame (r : SetupRun) (l : List LaneId) (s : State) : CoreFrame s (l.foldl (programLane r) s) :=
  CoreFrame.foldl _ (fun t i => (programLane_frame r t i).core) l s

theorem programLanes_units (r : SetupRun) (l : List LaneId) {s : State} (idle : s.ctl.part ≠ .running) :
    UnitsKept (.unsetAt l) s .clear (l.foldl (programLane r) s) := by
  induction l generalizing s with
  | nil => rw [unsetAt_nil]; exact (Kept.refl _ s).toUnitsKept
  | cons i l ih =>
    refine (programLane_units r i l idle).trans (ih ?_)
    rw [(programLane_frame r s i).part]
    exact idle

/-- The holds that setup leaves: none. -/
theorem setHolds_none (l : List LaneId) (s : State) (j : LaneId) :
    (l.foldl (fun t i => t.setHold i none) s).hold j = if j ∈ l then none else s.hold j := by
  induction l generalizing s with
  | nil => simp
  | cons i l ih =>
    rw [List.foldl_cons, ih, State.setHold_hold]
    by_cases h : j ∈ l <;> by_cases e : j = i <;> simp [h, e]

theorem setHolds_eq (l : List LaneId) (s : State) : ∃ v, l.foldl (fun t i => t.setHold i none) s = { s with holds := v } := by
  induction l generalizing s with
  | nil => exact ⟨s.holds, rfl⟩
  | cons i l ih =>
    obtain ⟨v, hv⟩ := ih (s.setHold i none)
    exact ⟨v, hv⟩

/-- What setup's first step leaves: the rings, the list unit, the geometry and the journal as the block says, and no hold. -/
theorem programRings_eq (r : SetupRun) (s : State) :
    ∃ v, programRings r s =
        { s with
          cfg := ⟨some r.gateRing, some r.listRing, some r.journalRing, r.poll, r.chainWait⟩, gate := ⟨0, none, none⟩,
          list := { s.list.closeChain with take := 0, poll := none, work := none },
          tab := { s.tab with k := r.k, u := r.u, port := [] }, holds := v, jrn := ⟨0, [], 0, none⟩ } ∧
      ∀ j, (programRings r s).hold j = none := by
  unfold programRings
  simp only [State.setGate_list, State.setCfg_list, State.setList_tab, State.setGate_tab, State.setCfg_tab]
  obtain ⟨v, hv⟩ := setHolds_eq laneOrder ((((s.setCfg ⟨some r.gateRing, some r.listRing, some r.journalRing, r.poll,
    r.chainWait⟩).setGate ⟨0, none, none⟩).setList { s.list.closeChain with take := 0, poll := none, work := none }).setTab
    { s.tab with k := r.k, u := r.u, port := [] })
  have none_held := setHolds_none laneOrder ((((s.setCfg ⟨some r.gateRing, some r.listRing, some r.journalRing, r.poll,
    r.chainWait⟩).setGate ⟨0, none, none⟩).setList { s.list.closeChain with take := 0, poll := none, work := none }).setTab
    { s.tab with k := r.k, u := r.u, port := [] })
  refine ⟨v, ?_, fun j => by rw [State.setJrn_hold, none_held, if_pos (mem_laneOrder j)]⟩
  rw [hv]
  rfl

theorem programRings_units (r : SetupRun) {s : State} (idle : s.ctl.part ≠ .running) :
    UnitsKept .clear s (.unsetAt laneOrder) (programRings r s) := by
  obtain ⟨v, eq, none_held⟩ := programRings_eq r s
  rw [eq] at none_held ⊢
  refine
    { pending := rfl, memory := id, journal := fun _ => ⟨Nat.zero_le _, Nat.zero_le _⟩, zones := id, monitors := id, trackers := id,
      modes := fun _ i => .inl ?_, placed := fun _ => .inr fun i h hi => ?_, distinct := fun _ i j k hi => ?_,
      reserved := fun placed counts => .inr fun z => ?_ }
  · simp [Ledger.unsetAt, mem_laneOrder]
  · rw [none_held] at hi; cases hi
  · rw [none_held] at hi; cases hi
  · have empty := no_holds ((clear_placed s).1 placed) idle
    refine ((clear_reserved s).1 counts z).trans ?_
    simp only [State.entryHolds, Ledger.entryHolds, empty, none_held, reserves, Bool.and_false]

theorem block_monitor_sound (r : SetupRun) (n : MonitorId) :
    (r.monitor n).level ≤ Config.countLimit ∧ (r.monitor n).low ≤ Config.countLimit ∧ (r.monitor n).high ≤ Config.countLimit ∧
      (r.monitor n).steadiness ≤ 7 := by
  unfold SetupRun.monitor
  simp only
  generalize asked : parseMonitor _ _ _ _ _ _ _ _ _ _ = m
  cases m with
  | none => decide
  | some m => exact parseMonitor_sound asked

theorem block_zone_bounded (r : SetupRun) (z : ZoneId) :
    (r.zone z).capacity ≤ Config.countLimit ∧ (r.zone z).occupancy ≤ Config.countLimit := by
  have le : ∀ h : Half, h.toNat ≤ Config.countLimit := fun h => Nat.le_of_lt_succ h.isLt
  exact ⟨le _, le _⟩

theorem programZones_frame (r : SetupRun) (s : State) :
    UnitFrame s (monitorOrder.foldl (fun t m => t.setMonitor m ((r.monitor m).recompute (t.zone (r.monitor m).zone).occupancy))
      (zoneOrder.foldl (fun t z => t.setZone z (r.zone z)) s)) :=
  (UnitFrame.foldl _ (fun _ _ => setZone_frame _ _ _) zoneOrder s).trans
    (UnitFrame.foldl _ (fun _ _ => setMonitor_frame _ _ _) monitorOrder _)

theorem programZones_units (r : SetupRun) {s : State} (idle : s.ctl.part ≠ .running) : UnitsKept .clear s .clear (programZones r s) := by
  unfold programZones
  have zones := UnitsKept.foldl_while (g := .clear) (fun t : State => t.ctl.part ≠ .running) (fun t z => t.setZone z (r.zone z))
    (fun t z h => ⟨(setZone_kept (fun _ => block_zone_bounded r z) (.inr ⟨rfl, h⟩)).toUnitsKept, h⟩) zoneOrder s idle
  have monitors := Kept.foldl (g := .clear)
    (fun t m => t.setMonitor m ((r.monitor m).recompute (t.zone (r.monitor m).zone).occupancy))
    (fun t m => setMonitor_kept fun _ => recompute_sound _ (block_monitor_sound r m)) monitorOrder
    (zoneOrder.foldl (fun t z => t.setZone z (r.zone z)) s)
  exact (zones.1.trans monitors.toUnitsKept).trans ((setAdm_quiet _ _).kept _).toUnitsKept

/-- The state as setup has programmed every unit, before its result. -/
def programmedUnits (r : SetupRun) (s : State) : State := programZones r (laneOrder.foldl (programLane r) (programRings r s))

theorem completeSetup_eq (r : SetupRun) (o : TableOutcome) (w : Nat) (s : State) :
    completeSetup r o w s =
      (notify .setupDone (writeResult r true .none o w (programmedUnits r s))).setCtl
        { (notify .setupDone (writeResult r true .none o w (programmedUnits r s))).ctl with
          part := .standby, setupComplete := true, setupRun := none } := by
  unfold completeSetup programmedUnits
  rfl

theorem programRings_part (r : SetupRun) (s : State) : (programRings r s).ctl.part = s.ctl.part := by
  obtain ⟨v, eq, -⟩ := programRings_eq r s
  rw [eq]

theorem programRings_tab (r : SetupRun) (s : State) : (programRings r s).tab = { s.tab with k := r.k, u := r.u, port := [] } := by
  obtain ⟨v, eq, -⟩ := programRings_eq r s
  rw [eq]

theorem programZones_tab (r : SetupRun) (s : State) : (programZones r s).tab = s.tab := by
  have f := programZones_frame r s
  unfold programZones
  simp only [State.setAdm_tab]
  exact f.tab

theorem programZones_part (r : SetupRun) (s : State) : (programZones r s).ctl.part = s.ctl.part := by
  have f := programZones_frame r s
  unfold programZones
  simp only [State.setAdm_ctl]
  rw [f.ctl]

theorem programmedUnits_part (r : SetupRun) (s : State) : (programmedUnits r s).ctl.part = s.ctl.part := by
  unfold programmedUnits
  rw [programZones_part, (programLanes_frame r _ _).part, programRings_part]

theorem programmedUnits_tab (r : SetupRun) (s : State) :
    (programmedUnits r s).tab = { s.tab with k := r.k, u := r.u, port := (programmedUnits r s).tab.port } := by
  unfold programmedUnits
  rw [programZones_tab, (programLanes_frame r _ _).tab, programRings_tab]

theorem programmedUnits_units (r : SetupRun) {s : State} (idle : s.ctl.part ≠ .running) :
    UnitsKept .clear s .clear (programmedUnits r s) := by
  have rings : (programRings r s).ctl.part ≠ .running := by rw [programRings_part]; exact idle
  have lanes : (laneOrder.foldl (programLane r) (programRings r s)).ctl.part ≠ .running := by
    rw [(programLanes_frame r _ _).part]; exact rings
  exact ((programRings_units r idle).trans (programLanes_units r laneOrder rings)).trans (programZones_units r lanes)

theorem completeSetup_ctl (r : SetupRun) (o : TableOutcome) (w : Nat) (s : State) :
    (completeSetup r o w s).ctl.part = .standby ∧ (completeSetup r o w s).ctl.setupComplete = true := by
  rw [completeSetup_eq]
  exact ⟨rfl, rfl⟩

theorem writeResult_tab (r : SetupRun) (ok : Bool) (code : FailureCode) (o : TableOutcome) (w : Nat) (s : State) :
    (writeResult r ok code o w s).tab = s.tab := by
  unfold writeResult
  rfl

theorem completeSetup_tab (r : SetupRun) (o : TableOutcome) (w : Nat) (s : State) :
    (completeSetup r o w s).tab = { s.tab with k := r.k, u := r.u, port := (completeSetup r o w s).tab.port } := by
  rw [completeSetup_eq, State.setCtl_tab, notify_tab, writeResult_tab]
  exact programmedUnits_tab r s

theorem completeSetup_units (r : SetupRun) (o : TableOutcome) (w : Nat) {s : State} (idle : s.ctl.part ≠ .running) :
    UnitsKept .clear s .clear (completeSetup r o w s) := by
  have q := (writeResult_quiet r true .none o w (programmedUnits r s)).trans (notify_quiet .setupDone _)
  rw [completeSetup_eq]
  refine ((programmedUnits_units r idle).trans (q.kept _).toUnitsKept).trans (setCtl_units _ ?_)
  rw [q.part, programmedUnits_part]
  exact idle

/-- A setup completes on a table memory with a marker of the block's geometry. -/
theorem completeSetup_kept (r : SetupRun) (o : TableOutcome) (w : Nat) {s t : State} (before : Staged s t)
    (idle : s.ctl.part ≠ .running) (marker : ∃ m, t.tab.memory.marker = some m ∧ m.k = r.k ∧ m.u = r.u) :
    Kept .clear s .clear (completeSetup r o w t) := by
  obtain ⟨part, complete⟩ := completeSetup_ctl r o w t
  have tab := completeSetup_tab r o w t
  refine Kept.of_idle (before.toUnitsKept.trans (completeSetup_units r o w (before.idle idle))) (by rw [part]; decide)
    (fun h => ⟨?_, fun _ => complete, fun _ => ?_⟩) (fun _ h => ?_) (fun _ h => ⟨fun v => ?_, fun b => ?_⟩)
  · rw [tab]; exact before.sound h.1
  · rw [tab]; exact marker
  · unfold State.KeysPlaced; rw [tab]; exact before.keys h
  · rw [tab] at v ⊢; exact (before.filter idle h).1 v
  · rw [tab] at b; exact absurd ((before.filter idle h).2 b).1 (before.idle idle)

/-! ## The table step -/

theorem sparseGet_filter {α : Type} (d : α) (p : Nat → Bool) (l : List (Nat × α)) (b : Nat) :
    sparseGet d (l.filter (fun x => p x.1)) b = if p b then sparseGet d l b else d := by
  induction l with
  | nil => simp [sparseGet]
  | cons x l ih =>
    obtain ⟨a, v⟩ := x
    by_cases pa : p a = true <;> by_cases e : a = b <;> simp_all [sparseGet]

theorem halfFormatted_stores {b c : Nat} {t : TableMemory} {e : Entry} (h : (halfFormatted b t).Stores c e) : t.Stores c e := by
  unfold TableMemory.Stores TableMemory.bucket halfFormatted at *
  rw [sparseGet_filter Bucket.empty (fun x => decide (b < x))] at h
  split at h
  · exact h
  · simp [Bucket.empty, Bucket.entries] at h

theorem halfFormatted_staged (b : Nat) (s : State) : Staged s (s.setMemory (halfFormatted b s.tab.memory)) where
  toUnitsKept := setTab_units _ s _
  sound h := ⟨sparseWf_filter _ _ h.1, fun _ hm => by cases hm⟩
  keys _ _ hm := by cases hm
  filter idle h :=
    ⟨fun v c e stored => h.1 v c e (halfFormatted_stores stored), fun r => absurd (h.2 r).1 idle⟩
  course := .inl ⟨rfl, rfl, rfl⟩

theorem formatted_stores (k u : Nat) (bad : List TableWord) (b : Nat) (e : Entry) : ¬(formatted k u bad).Stores b e := by
  simp [TableMemory.Stores, TableMemory.bucket, formatted, sparseGet, Bucket.empty, Bucket.entries]

theorem formatted_sound (k u : Nat) (bad : List TableWord) : (formatted k u bad).Sound := by
  refine ⟨⟨List.Pairwise.nil, fun _ h => by cases h⟩, fun m hm => ?_⟩
  cases hm
  refine ⟨fun _ h => (by cases h), ?_, rfl⟩
  have places := List.filter_append_perm (fun i => decide (TableWord.place i ∉ bad)) (List.range (1024 * u))
  simpa [TableMemory.chainPlaces, formatted, failingPlaces] using places

theorem formatted_staged (r : SetupRun) (bad : List TableWord) (s : State) :
    Staged s (s.setTab { s.tab with memory := formatted r.k r.u bad, presence := [], filter := .valid }) where
  toUnitsKept := setTab_units _ s _
  sound _ := formatted_sound _ _ _
  keys _ m _ b := by
    have empty : ((formatted r.k r.u bad).bucket b).entries = [] := by
      simp [TableMemory.bucket, formatted, sparseGet, Bucket.empty, Bucket.entries]
    refine ⟨fun e stored => absurd stored (formatted_stores _ _ _ _ _), ?_⟩
    show (((formatted r.k r.u bad).bucket b).entries.map Entry.key).Nodup
    rw [empty]
    exact List.nodup_nil
  filter _ _ := ⟨fun _ b e stored => absurd stored (formatted_stores _ _ _ _ _), fun h => by cases h⟩
  course := .inl ⟨rfl, rfl, rfl⟩

theorem damage_staged (bad : List TableWord) (s : State) : Staged s (damage bad s) where
  toUnitsKept := ((damage_quiet bad s).kept _).toUnitsKept
  sound := id
  keys := id
  filter _ := id
  course := .inl ⟨rfl, rfl, rfl⟩

theorem failed_kept {s t : State} (code : FailureCode) (before : Staged s t) (idle : s.ctl.part ≠ .running) :
    Kept .clear s .clear (failSetup code t) := by
  obtain ⟨part, complete, -⟩ := failSetup_ctl code t
  exact (before.trans (failSetup_staged code (before.idle idle))).kept idle (.inr part) complete

theorem formatStep_kept (r : SetupRun) (bad : List TableWord) {s t : State} (before : Staged s t) (idle : s.ctl.part ≠ .running) :
    Kept .clear s .clear (formatStep r bad t) := by
  unfold formatStep
  split
  · exact failed_kept _ (before.trans (halfFormatted_staged _ t)) idle
  · exact completeSetup_kept r _ _ (before.trans (formatted_staged r bad t)) idle ⟨_, rfl, rfl, rfl⟩

theorem reusable_eq_some {k u : Nat} {t : TableMemory} {m : Marker} (h : reusable k u t = some m) :
    t.marker = some m ∧ m.k = k ∧ m.u = u := by
  unfold reusable at h
  split at h
  · cases h
  · simpa [Option.filter_eq_some_iff] using h

theorem reuseStep_kept (r : SetupRun) (bad : List TableWord) {s t : State} (before : Staged s t) (idle : s.ctl.part ≠ .running) :
    Kept .clear s .clear (reuseStep r bad t) := by
  unfold reuseStep
  simp only
  split
  · exact failed_kept _ (before.trans (damage_staged bad t)) idle
  · next m h => exact completeSetup_kept r _ _ (before.trans (damage_staged bad t)) idle ⟨m, reusable_eq_some h⟩

theorem endSetup_kept (bad : List TableWord) {s t : State} (before : Staged s t) (idle : s.ctl.part ≠ .running) {r : SetupRun}
    (run : t.ctl.setupRun = some r) : Kept .clear s .clear (endSetup bad t) := by
  simp only [endSetup, run]
  split
  · exact formatStep_kept r bad before idle
  · exact reuseStep_kept r bad before idle

theorem tableStep_kept (bad : List TableWord) {s : State} (part : s.ctl.part = .settingUp) :
    Kept .clear s .clear (endSetup bad (advanceSetup .table s)) := by
  have idle : s.ctl.part ≠ .running := by rw [part]; decide
  have staged := advanceSetup_staged .table idle
  cases run : (advanceSetup .table s).ctl.setupRun with
  | some r => exact endSetup_kept bad staged idle run
  | none =>
    simp only [endSetup, run]
    rcases staged.course with ⟨-, -, same⟩ | ⟨halted, incomplete, -⟩
    · rw [run] at same
      rw [advanceSetup_none .table s (by simpa using same.symm)]
      exact Kept.refl _ s
    · exact staged.kept idle (.inr halted) incomplete

end Sys2Proof.Proofs.Keeping
end

section
/-! PROOFS. What every command and the passing of a millisecond keep, and the invariants that follow: O3 and O5 to O14. -/

namespace Sys2Proof.Proofs.Keeping

open Sys2Proof Sys2Proof.Machine Sys2Proof.Proofs.Table Sys2Proof.Proofs.Reset

theorem listTaken_running {s : State} {k : ReqKind} {o : Nat} {claims : Byte → Bool} {d : Desc} (h : s.listTaken k o claims = some d) :
    s.ctl.part = .running := by
  unfold State.listTaken at h
  split at h
  · split at h
    · next on => simpa [State.running] using on.1
    · cases h
  · cases h

theorem listTurn_running {s : State} (h : s.listTurn = true) : s.ctl.part = .running := by
  simp only [State.listTurn, Bool.and_eq_true] at h
  exact portUp_running h.1

/-! ## Power-on and RESET_N -/

@[simp] theorem powerOnState_hold (s : State) (i : LaneId) : (powerOnState s).hold i = none := reset_hold i

theorem powerOnState_lane (s : State) (i : LaneId) : (powerOnState s).lane i = { Lane.powerOn with pins := (s.lane i).pins } := by
  simp only [State.lane, powerOnState, Vector.get, Vector.getElem_toArray, Vector.getElem_map]
  rfl

theorem powerOnState_zone (s : State) (z : ZoneId) : (powerOnState s).zone z = ⟨0, 0, 0⟩ := reset_zone z

theorem powerOnState_monitor (s : State) (m : MonitorId) : (powerOnState s).monitor m = Monitor.powerOn := reset_monitor m

/-- The state at reset meets every condition but for the table's, whatever exchange memory and table it has. -/
theorem powerOn_units (s : State) (m : List Host.Cell) (wf : Memory.wf s.xmem → Memory.wf m) (x : TableUnit) :
    UnitsKept .clear s .clear (((powerOnState s).setXmem m).setTab x) where
  pending := rfl
  memory := wf
  journal _ := ⟨Nat.zero_le _, Nat.zero_le _⟩
  zones _ z := by
    show ((powerOnState s).zone z).capacity ≤ _ ∧ ((powerOnState s).zone z).occupancy ≤ _
    rw [powerOnState_zone]
    exact ⟨Nat.zero_le _, Nat.zero_le _⟩
  monitors _ n := by
    show ((powerOnState s).monitor n).Sound
    rw [powerOnState_monitor]
    exact powerOn_monitor_sound
  trackers _ i := by
    show TrackerSound ((powerOnState s).lane i)
    rw [powerOnState_lane]
    exact ⟨sound_atRest, fun _ => rfl⟩
  modes _ i := by
    refine .inr ?_
    show ModeSound ((powerOnState s).lane i).level.fire ((powerOnState s).hold i).isSome ((powerOnState s).lane i)
    rw [powerOnState_lane]
    simp [ModeSound, Lane.powerOn, Levels.low]
  placed _ := .inr fun i h hi => by
    have none_held := powerOnState_hold s i
    rw [State.setTab_hold, State.setXmem_hold, none_held] at hi
    cases hi
  distinct _ i j k hi := by
    rw [State.setTab_hold, State.setXmem_hold, powerOnState_hold] at hi
    cases hi
  reserved _ _ := .inr fun z => by
    show ((powerOnState s).zone z).reserved = _
    rw [powerOnState_zone]
    simp [Ledger.entryHolds, reserves]

theorem powerOnState_kept (s : State) : Kept .clear s .clear (powerOnState s) :=
  Kept.of_idle (powerOn_units s [] (fun _ => Memory.reset_wf) State.reset.tab) (fun h => by cases h) (fun _ => reset_tableSound)
    (fun _ _ m hm => by cases hm)
    (fun _ _ => ⟨fun h => (by cases h), fun h => by cases h⟩)

theorem resetN_kept (s : State) : Kept .clear s .clear (((powerOnState s).setXmem s.xmem).setMemory s.tab.memory) :=
  Kept.of_idle (powerOn_units s s.xmem id { State.reset.tab with memory := s.tab.memory }) (fun h => by cases h)
    (fun h => ⟨h.1, fun p => (by rcases p with p | p <;> cases p), fun c => by cases c⟩) (fun _ h => h)
    (fun _ _ => ⟨fun h => (by cases h), fun h => by cases h⟩)

/-! ## The part commands -/

theorem halted_idle {s : State} (h : s.ctl.part = .halted) : s.ctl.part ≠ .running := by rw [h]; decide

theorem standby_idle {s : State} (h : s.ctl.part = .standby) : s.ctl.part ≠ .running := by rw [h]; decide

theorem settingUp_idle {s : State} (h : s.ctl.part = .settingUp) : s.ctl.part ≠ .running := by rw [h]; decide

theorem stopCommand_kept (f : InFlight) (s : State) : Kept .clear s .clear (stopCommand f s) := by
  unfold stopCommand
  split
  · exact Kept.refl _ s
  · next h => exact failed_kept _ (Staged.refl s) (settingUp_idle h)
  · next h =>
    exact setCtl_kept { s.ctl with part := .halted } (standby_idle h) fun _ => ⟨fun p => (by rcases p with p | p <;> cases p), id⟩
  · exact (completeFlight_kept f s).trans (stopEffects_kept _)

theorem initCommand_kept (c : InitCourse) (s : State) : Kept .clear s .clear (initCommand c s) := by
  unfold initCommand
  split
  · next h => exact startSetup_kept _ (halted_idle h)
  · exact Kept.refl _ s
  · next h => exact startSetup_kept _ (standby_idle h)
  · exact ((completeFlight_kept c.flight s).trans (stopEffects_kept _)).trans
      (startSetup_kept _ (halted_idle (stopEffects_part _)))

/-- The part enters RUNNING with a valid setup. -/
theorem enterRunning_kept {s : State} (idle : s.ctl.part ≠ .running) (complete : s.TableSound → s.ctl.setupComplete = true) :
    Kept .clear s .clear (examineAll (setPart .running s)) :=
  (setCtl_kept { s.ctl with part := .running } idle fun sound => ⟨fun _ => complete sound, id⟩).trans
    ((examineAll_quiet _).kept _)

theorem runCommand_kept (s : State) : Kept .clear s .clear (runCommand s) := by
  unfold runCommand
  split
  · next h =>
    split
    · next complete => exact enterRunning_kept (halted_idle h) fun _ => complete
    · exact Kept.refl _ s
  · exact Kept.refl _ s
  · next h => exact enterRunning_kept (standby_idle h) fun sound => sound.2.1 (.inl h)
  · exact Kept.refl _ s

theorem promptCommand_quiet (s : State) : Quiet s (promptCommand s) := by
  unfold promptCommand
  split
  · exact examineAll_quiet s
  · exact Quiet.refl s

theorem whileUp_kept {f : State → State} (h : ∀ s, Kept .clear s .clear (f s)) (s : State) : Kept .clear s .clear (whileUp f s) := by
  unfold whileUp
  split
  · exact Kept.refl _ s
  · exact h s

theorem Kept.ite {c : Prop} [Decidable c] {s t u : State} (yes : c → Kept .clear s .clear t) (no : ¬c → Kept .clear s .clear u) :
    Kept .clear s .clear (if c then t else u) := by
  split
  · next h => exact yes h
  · next h => exact no h

theorem writeControl_kept (e : BitVec 4) (v : Word) (s : State) : Kept .clear s .clear (writeControl e v s) := by
  have optional : ∀ (b : Bool) (f : State → State) (t : State), (∀ u, Kept .clear u .clear (f u)) →
      Kept .clear t .clear (if b then f t else t) := fun b f t h => Kept.ite (fun _ => h t) (fun _ => Kept.refl _ t)
  exact (((optional _ (stopCommand .idle) s (stopCommand_kept _)).trans (optional _ (initCommand ⟨.idle, .table⟩) _
    (initCommand_kept _))).trans (optional _ runCommand _ runCommand_kept)).trans
    (optional _ promptCommand _ fun u => (promptCommand_quiet u).kept _)

theorem writeWindow_kept (w : BitVec 16) (e : BitVec 4) (v : Word) (s : State) : Kept .clear s .clear (writeWindow w e v s) := by
  unfold writeWindow
  refine Kept.ite (fun _ => (writeExchange_quiet _ e v s).kept _) fun _ => ?_
  refine Kept.ite (fun _ => Kept.refl _ s) fun _ => ?_
  refine Kept.ite (fun _ => writeControl_kept e v s) fun _ => ?_
  refine Kept.ite (fun _ => (writeNotice_quiet e v s).kept _) fun _ => ?_
  refine Kept.ite (fun _ => (writeNoticeEn_quiet e v s).kept _) fun _ => ?_
  refine Kept.ite (fun _ => (writeSetupAt_quiet e v s).kept _) fun _ => ?_
  exact Kept.ite (fun _ => (writeClock_quiet e v s).kept _) fun _ => Kept.refl _ s

theorem resetAsserted_kept (f : InFlight) (cut : BitVec 32) (s : State) :
    Kept .clear s .clear
      ((journalCut cut (completeFlight f s)).setCtl { (journalCut cut (completeFlight f s)).ctl with resetActive := true }) := by
  have cut_kept := (completeFlight_kept f s).trans ((journalCut_quiet cut _).kept _)
  generalize journalCut cut (completeFlight f s) = u at cut_kept
  exact cut_kept.trans ((setCtl_quiet u { u.ctl with resetActive := true } rfl rfl).kept _)

/-! ## Every command -/

section Commands

variable {s t : State}

theorem Kept.of_next {s t u : State} (h : Kept .clear s .clear u) (e : Host.Outcome.next (φ := Fault) (ρ := Refusal) u = .next t) :
    Kept .clear s .clear t := by cases e; exact h

theorem execTableStep_kept (bad : List TableWord) (e : execTableStep bad s = .next t) : Kept .clear s .clear t := by
  unfold execTableStep at e
  split at e
  · next on => exact (tableStep_kept bad on.2).of_next e
  · exact (Kept.refl _ s).of_next e

theorem execLaneEvent_kept (i : LaneId) (pins : Levels) (sampled : Bool) (e : execLaneEvent i pins sampled s = .next t) :
    Kept .clear s .clear t :=
  (Kept.ite (fun _ => (setLane_quiet s i { s.lane i with pins := pins } (by constructor <;> rfl)).kept _)
    (fun _ => pinsChange_kept i pins sampled s)).of_next e

theorem execReleaseTimerExpiry_kept (i : LaneId) (e : execReleaseTimerExpiry i s = .next t) : Kept .clear s .clear t := by
  unfold execReleaseTimerExpiry at e
  split at e
  · exact (Kept.refl _ s).of_next e
  · next h counting => exact (lapse_kept (countingHold_hold counting)).of_next e

theorem execPresent_kept (e : execPresent s = .next t) : Kept .clear s .clear t := by
  unfold execPresent at e
  split at e
  · exact (Kept.refl _ s).of_next e
  · exact ((presentDesc_quiet _ s).kept _).of_next e

theorem execAdmissionLookup_kept (bad : List TableWord) (e : execAdmissionLookup bad s = .next t) : Kept .clear s .clear t := by
  unfold execAdmissionLookup at e
  split at e
  · next up =>
    split at e
    · exact (Kept.refl _ s).of_next e
    · next d i key _ =>
      have q := (damage_quiet bad s).trans (popPort_quiet _)
      exact ((q.kept _).trans (lookupOperation_kept (q.part.trans (portUp_running up)))).of_next e
  · exact (Kept.refl _ s).of_next e

theorem execClosingOperation_kept (bad : List TableWord) (e : execClosingOperation bad s = .next t) : Kept .clear s .clear t := by
  unfold execClosingOperation at e
  split at e
  · next up =>
    split at e
    · exact (Kept.refl _ s).of_next e
    · next i h o key loc due =>
      have q := (damage_quiet bad s).trans (popPort_quiet _)
      obtain ⟨hold, -⟩ := closingDue_eq_some due
      simp only at e
      split at e
      · exact ((q.kept _).trans (closeFailed_kept hold)).of_next e
      · split at e
        · cases e
        · next entry => exact ((q.kept _).trans (closeWritten_kept (q.part.trans (portUp_running up)) hold entry)).of_next e
  · exact (Kept.refl _ s).of_next e

theorem returnGate_kept (d : Desc) (r : Reply) (s : State) : Kept .clear s .clear (returnGate d r s) := (returnGate_quiet d r s).kept _

theorem execManualRelease_kept (e : execManualRelease s = .next t) : Kept .clear s .clear t := by
  unfold execManualRelease at e
  split at e
  · exact (Kept.refl _ s).of_next e
  · next taken =>
    split at e
    · exact (Kept.ite (fun _ => manualReleaseAt_kept (gateTaken_running taken)) (fun _ => returnGate_kept _ _ s)).of_next e
    · exact (returnGate_kept _ _ s).of_next e

theorem execManualEscort_kept (e : execManualEscort s = .next t) : Kept .clear s .clear t := by
  unfold execManualEscort at e
  split at e
  · exact (Kept.refl _ s).of_next e
  · split at e
    · exact (Kept.ite (fun _ => (manualEscortAt_quiet _ _ s).kept _) (fun _ => returnGate_kept _ _ s)).of_next e
    · exact (returnGate_kept _ _ s).of_next e

theorem execLane_kept (e : execLane s = .next t) : Kept .clear s .clear t := by
  unfold execLane at e
  split at e
  · exact (Kept.refl _ s).of_next e
  · split at e
    · exact (returnGate_kept _ _ s).of_next e
    · exact ((laneEffects_kept _ s).trans (returnGate_kept _ _ _)).of_next e

theorem execBatchRecord_kept (bad : List TableWord) (e : execBatchRecord bad s = .next t) : Kept .clear s .clear t := by
  unfold execBatchRecord at e
  split at e
  · next turn =>
    split at e
    · exact (((damage_quiet bad s).kept _).trans (batchOperation_kept (listTurn_running turn))).of_next e
    · exact (Kept.refl _ s).of_next e
  · exact (Kept.refl _ s).of_next e

theorem execListRequest_kept (bad : List TableWord) (e : execListRequest bad s = .next t) : Kept .clear s .clear t := by
  unfold execListRequest at e
  split at e
  · next turn =>
    split at e
    · exact (((damage_quiet bad s).kept _).trans (listOperation_kept (listTurn_running turn))).of_next e
    · exact (Kept.refl _ s).of_next e
  · exact (Kept.refl _ s).of_next e

theorem execRebuildWalkBucket_kept (bad : List TableWord) (e : execRebuildWalkBucket bad s = .next t) : Kept .clear s .clear t := by
  unfold execRebuildWalkBucket at e
  split at e
  · next on => exact (((damage_quiet bad s).kept _).trans (walkBucket_kept on.2.2)).of_next e
  · exact (Kept.refl _ s).of_next e

/-- A list request that is carried out in one step, where the command claims the descriptor just taken. -/
theorem listRequest_kept {k : ReqKind} {o : Nat} {claims : Byte → Bool} {f : Desc → State}
    (h : ∀ d, s.ctl.part = .running → Kept .clear s .clear (f d))
    (e : (match s.listTaken k o claims with
      | none => Host.Outcome.next (φ := Fault) (ρ := Refusal) s
      | some d => .next (f d)) = .next t) : Kept .clear s .clear t := by
  split at e
  · exact (Kept.refl _ s).of_next e
  · next d taken => exact (h d (listTaken_running taken)).of_next e

/-- Every command keeps every condition. -/
theorem exec_kept (c : Instr) (e : exec c s = .next t) : Kept .clear s .clear t := by
  cases c with
  | powerOn => exact (powerOnState_kept s).of_next e
  | resetN => exact (resetN_kept s).of_next e
  | stop flight => exact (whileUp_kept (stopCommand_kept flight) s).of_next e
  | init course => exact (whileUp_kept (initCommand_kept course) s).of_next e
  | run => exact (whileUp_kept runCommand_kept s).of_next e
  | prompt => exact ((whileUp_quiet promptCommand_quiet s).kept _).of_next e
  | noticeWrite en v => exact ((whileUp_quiet (writeNotice_quiet en v) s).kept _).of_next e
  | noticeEnWrite en v => exact ((whileUp_quiet (writeNoticeEn_quiet en v) s).kept _).of_next e
  | clockWrite en v => exact ((whileUp_quiet (writeClock_quiet en v) s).kept _).of_next e
  | registerWrite w en v => exact (writeWindow_kept w en v s).of_next e
  | tableStep bad => exact execTableStep_kept bad e
  | laneEvent i pins sampled => exact execLaneEvent_kept i pins sampled e
  | releaseTimerExpiry i => exact execReleaseTimerExpiry_kept i e
  | escortTokenExpiry i =>
    exact ((whileUp_quiet (fun u => setLane_quiet u i { u.lane i with token := none } (by constructor <;> rfl)) s).kept _).of_next e
  | clockSecond => exact ((whileUp_quiet clockAdvance_quiet s).kept _).of_next e
  | ringPollExpiry r => exact ((whileUp_quiet (ringPollOut_quiet r) s).kept _).of_next e
  | chainWaitExpiry => exact ((whileUp_quiet chainWaitOut_quiet s).kept _).of_next e
  | journalPollExpiry => exact ((whileUp_quiet journalPollOut_quiet s).kept _).of_next e
  | present => exact execPresent_kept e
  | admissionLookup bad => exact execAdmissionLookup_kept bad e
  | closingOperation bad => exact execClosingOperation_kept bad e
  | manualRelease => exact execManualRelease_kept e
  | manualEscort => exact execManualEscort_kept e
  | lane => exact execLane_kept e
  | alertTake => exact ((alertRequest_quiet _ _ alertTakeAt_quiet s).kept _).of_next e
  | alertClear =>
    exact ((alertRequest_quiet _ _ (fun i u => setLane_quiet u i _ (by constructor <;> rfl)) s).kept _).of_next e
  | alertEnable =>
    exact ((alertRequest_quiet _ _ (fun i u => setLane_quiet u i _ (by constructor <;> rfl)) s).kept _).of_next e
  | alertDisable =>
    exact ((alertRequest_quiet _ _ (fun i u => setLane_quiet u i _ (by constructor <;> rfl)) s).kept _).of_next e
  | alertRaise => exact ((alertRequest_quiet _ _ (fun i u => reachAlert_quiet i 1 [] u) s).kept _).of_next e
  | load => exact listRequest_kept (fun d _ => (loadDesc_quiet d s).kept _) e
  | batchRecord bad => exact execBatchRecord_kept bad e
  | revoke => exact listRequest_kept (fun d _ => (takeRequest_quiet d _ s).kept _) e
  | restore => exact listRequest_kept (fun d _ => (takeRequest_quiet d _ s).kept _) e
  | mark => exact listRequest_kept (fun d _ => (takeRequest_quiet d _ s).kept _) e
  | query => exact listRequest_kept (fun d _ => (takeRequest_quiet d _ s).kept _) e
  | listRequest bad => exact execListRequest_kept bad e
  | rebuild => exact listRequest_kept (fun d running => rebuildDesc_kept running) e
  | rebuildWalkBucket bad => exact execRebuildWalkBucket_kept bad e
  | zoneSetOccupancy => exact listRequest_kept (fun d _ => zoneDesc_kept d s) e
  | zoneAdjust => exact listRequest_kept (fun d _ => zoneDesc_kept d s) e
  | zoneSetCapacity => exact listRequest_kept (fun d _ => zoneDesc_kept d s) e
  | monitor => exact listRequest_kept (fun d _ => monitorDesc_kept d s) e
  | profile => exact listRequest_kept (fun d _ => (profileDesc_quiet d s).kept _) e
  | resetNAsserted flight cut => exact (whileUp_kept (resetAsserted_kept flight cut) s).of_next e

/-- Every step keeps every condition but for the queue of commands. -/
theorem step_kept (e : step s = .next t) : ∃ q, Kept .clear (s.setPending q) .clear t := by
  unfold step at e
  split at e
  · next empty => exact ⟨s.pending, (tick_kept s).of_next e⟩
  · next c rest _ => exact ⟨rest, exec_kept c e⟩

end Commands

end Sys2Proof.Proofs.Keeping
end

section
/-! PROOFS. The invariants of every step (O3, O5 to O13), and that a safe state never stops (O14). -/

namespace Sys2Proof.Proofs.Invariants

open Sys2Proof Sys2Proof.Machine Sys2Proof.Proofs.Keeping

/-- Settles O3: the frame of every command keeps the queue. -/
theorem commandsKeepTheQueue : Obligations.CommandsKeepTheQueue := by
  unfold Obligations.CommandsKeepTheQueue
  exact fun c s t e => (exec_kept c e).pending

/-- A condition that does not see the queue of commands, and that every operation keeps, is kept by every step. -/
theorem stepKeeps_of_kept {p : State → Prop} (queue : ∀ s q, p s → p (s.setPending q))
    (kept : ∀ s t, Kept .clear s .clear t → p s → p t) : StepKeeps p := fun s t h e => by
  obtain ⟨q, k⟩ := step_kept e
  exact kept _ t k (queue s q h)

/-- Settles O5. -/
theorem memoryStaysCanonical : Obligations.MemoryStaysCanonical := by
  unfold Obligations.MemoryStaysCanonical
  exact stepKeeps_of_kept (fun _ _ => id) fun _ _ k => k.memory

/-- Settles O6. -/
theorem countsStayBounded : Obligations.CountsStayBounded := by
  unfold Obligations.CountsStayBounded
  exact ⟨stepKeeps_of_kept (fun _ _ => id) fun _ _ k => k.journal, stepKeeps_of_kept (fun _ _ => id) fun _ _ k => k.zones,
    stepKeeps_of_kept (fun _ _ => id) fun _ _ k => k.monitors⟩

/-- Settles O7. -/
theorem turnNamesThePosition : Obligations.TurnNamesThePosition := by
  unfold Obligations.TurnNamesThePosition
  exact ⟨fun _ _ => ⟨rfl, rfl, rfl, rfl⟩, Reset.reset_trackersSound, stepKeeps_of_kept (fun _ _ => id) fun _ _ k => k.trackers⟩

/-- Settles O8: with nothing owed the ledger's condition on the modes is R125. -/
theorem emergencyExactlyWhileFire : Obligations.EmergencyExactlyWhileFire := by
  unfold Obligations.EmergencyExactlyWhileFire
  exact stepKeeps_of_kept (fun _ _ => id) fun s t k h => (clear_modes t).1 (k.modes ((clear_modes s).2 h))

theorem holdsPlaced_kept {s t : State} (k : Kept .clear s .clear t) (h : s.HoldsPlaced) : t.HoldsPlaced :=
  (clear_placed t).1 (k.placed ((clear_placed s).2 h))

/-- Settles O9. -/
theorem holdsStayPlacedAndDistinct : Obligations.HoldsStayPlacedAndDistinct := by
  unfold Obligations.HoldsStayPlacedAndDistinct
  exact ⟨stepKeeps_of_kept (fun _ _ => id) fun _ _ => holdsPlaced_kept, stepKeeps_of_kept (fun _ _ => id) fun _ _ k => k.distinct⟩

/-- Settles O10. -/
theorem reservedEqualsEntryHolds : Obligations.ReservedEqualsEntryHolds := by
  unfold Obligations.ReservedEqualsEntryHolds
  exact stepKeeps_of_kept (fun _ _ => id) fun s t k ⟨placed, counts⟩ =>
    ⟨holdsPlaced_kept k placed, (clear_reserved t).1 (k.reserved ((clear_placed s).2 placed) ((clear_reserved s).2 counts))⟩

/-- Settles O11. -/
theorem overflowPlacesAccountedFor : Obligations.OverflowPlacesAccountedFor := by
  unfold Obligations.OverflowPlacesAccountedFor
  exact stepKeeps_of_kept (fun _ _ => id) fun _ _ k => k.table

/-- Settles O12. -/
theorem keyOccupiesOnePlace : Obligations.KeyOccupiesOnePlace := by
  unfold Obligations.KeyOccupiesOnePlace
  exact stepKeeps_of_kept (fun _ _ => id) fun _ _ k ⟨table, keys⟩ => ⟨k.table table, k.keys table keys⟩

/-- Settles O13. -/
theorem filterNeverMissesAStoredKey : Obligations.FilterNeverMissesAStoredKey := by
  unfold Obligations.FilterNeverMissesAStoredKey
  exact stepKeeps_of_kept (fun _ _ => id) fun _ _ k ⟨table, filter⟩ => ⟨k.table table, k.filter table filter⟩

/-! ## Safe states -/

theorem safe_kept {s t : State} (k : Kept .clear s .clear t) (h : s.Safe) : t.Safe := by
  obtain ⟨table, keys, placed, distinct, held⟩ := h
  exact ⟨k.table table, k.keys table keys, holdsPlaced_kept k placed, k.distinct distinct,
    k.held ((clear_placed s).2 placed) table held⟩

/-- The location of a hold whose closing operation is due holds an entry of its key, whatever words fail from now on. -/
theorem heldEntry_of_closingDue {s : State} {bad : List TableWord} {i : LaneId} {h : Hold} {o : HoldOutcome} {key : Key}
    {loc : Location} (held : s.HeldEntries) (due : s.closingDue = some (i, h, o, key, loc)) :
    ∃ e, (popPort (damage bad s)).heldEntry key loc = some e := by
  obtain ⟨hold, -, tier, kind⟩ := closingDue_eq_some due
  obtain ⟨e, at_, ke⟩ := held i h key loc tier hold kind
  refine ⟨e, ?_⟩
  have same : (popPort (damage bad s)).tab.memory.entryAt loc = s.tab.memory.entryAt loc := by
    cases loc <;> rfl
  unfold State.heldEntry
  rw [same, at_, Option.filter_some, if_pos (by simpa using ke)]

/-- A closing operation completes where every held entry is stored. -/
theorem closingOperation_completes (bad : List TableWord) {s : State} (held : s.HeldEntries) :
    ∃ t, execClosingOperation bad s = .next t := by
  unfold execClosingOperation
  split
  · split
    · exact ⟨s, rfl⟩
    · next due =>
      obtain ⟨e, entry⟩ := heldEntry_of_closingDue (bad := bad) held due
      simp only [entry]
      split
      · exact ⟨_, rfl⟩
      · exact ⟨_, rfl⟩
  · exact ⟨s, rfl⟩

/-- A list request's command completes. -/
theorem listRequest_completes {s : State} {taken : Option Desc} {f : Desc → State} :
    ∃ t : State, (match taken with
      | none => Host.Outcome.next (φ := Fault) (ρ := Refusal) s
      | some d => .next (f d)) = .next t := by
  cases taken <;> exact ⟨_, rfl⟩

/-- Every command completes where every held entry is stored. -/
theorem exec_completes (c : Instr) {s : State} (held : s.HeldEntries) : ∃ t, exec c s = .next t := by
  cases c with
  | closingOperation bad => exact closingOperation_completes bad held
  | tableStep bad => simp only [exec, execTableStep]; split <;> exact ⟨_, rfl⟩
  | releaseTimerExpiry i => simp only [exec, execReleaseTimerExpiry]; split <;> exact ⟨_, rfl⟩
  | present => exact listRequest_completes
  | admissionLookup bad =>
    simp only [exec, execAdmissionLookup]
    split
    · split <;> exact ⟨_, rfl⟩
    · exact ⟨s, rfl⟩
  | manualRelease =>
    simp only [exec, execManualRelease]
    split
    · exact ⟨s, rfl⟩
    · split <;> exact ⟨_, rfl⟩
  | manualEscort =>
    simp only [exec, execManualEscort]
    split
    · exact ⟨s, rfl⟩
    · split <;> exact ⟨_, rfl⟩
  | lane =>
    simp only [exec, execLane]
    split
    · exact ⟨s, rfl⟩
    · split <;> exact ⟨_, rfl⟩
  | load => exact listRequest_completes
  | batchRecord bad =>
    simp only [exec, execBatchRecord]
    split
    · split <;> exact ⟨_, rfl⟩
    · exact ⟨s, rfl⟩
  | revoke => exact listRequest_completes
  | restore => exact listRequest_completes
  | mark => exact listRequest_completes
  | query => exact listRequest_completes
  | listRequest bad =>
    simp only [exec, execListRequest]
    split
    · split <;> exact ⟨_, rfl⟩
    · exact ⟨s, rfl⟩
  | rebuild => exact listRequest_completes
  | rebuildWalkBucket bad => simp only [exec, execRebuildWalkBucket]; split <;> exact ⟨_, rfl⟩
  | zoneSetOccupancy => exact listRequest_completes
  | zoneAdjust => exact listRequest_completes
  | zoneSetCapacity => exact listRequest_completes
  | monitor => exact listRequest_completes
  | profile => exact listRequest_completes
  | powerOn => exact ⟨_, rfl⟩
  | resetN => exact ⟨_, rfl⟩
  | stop flight => exact ⟨_, rfl⟩
  | init course => exact ⟨_, rfl⟩
  | run => exact ⟨_, rfl⟩
  | prompt => exact ⟨_, rfl⟩
  | noticeWrite en v => exact ⟨_, rfl⟩
  | noticeEnWrite en v => exact ⟨_, rfl⟩
  | clockWrite en v => exact ⟨_, rfl⟩
  | registerWrite w en v => exact ⟨_, rfl⟩
  | laneEvent i pins sampled => exact ⟨_, rfl⟩
  | escortTokenExpiry i => exact ⟨_, rfl⟩
  | clockSecond => exact ⟨_, rfl⟩
  | ringPollExpiry r => exact ⟨_, rfl⟩
  | chainWaitExpiry => exact ⟨_, rfl⟩
  | journalPollExpiry => exact ⟨_, rfl⟩
  | alertTake => exact ⟨_, rfl⟩
  | alertClear => exact ⟨_, rfl⟩
  | alertEnable => exact ⟨_, rfl⟩
  | alertDisable => exact ⟨_, rfl⟩
  | alertRaise => exact ⟨_, rfl⟩
  | resetNAsserted flight cut => exact ⟨_, rfl⟩

theorem step_completes {s : State} (held : s.HeldEntries) : ∃ t, step s = .next t := by
  unfold step
  split
  · exact ⟨_, rfl⟩
  · next c rest _ => exact exec_completes c (s := s.setPending rest) held

/-- Settles O14: a safe state holds every held entry, so its step completes, and every operation keeps a state safe. -/
theorem safeStatesNeverStop : Obligations.SafeStatesNeverStop := by
  unfold Obligations.SafeStatesNeverStop
  intro s safe
  obtain ⟨t, e⟩ := step_completes safe.2.2.2.2
  obtain ⟨q, k⟩ := step_kept e
  exact ⟨t, e, safe_kept k (show (s.setPending q).Safe from safe)⟩

end Sys2Proof.Proofs.Invariants
end

section
/-! PROOFS. The registers of the control window: power-on and reset (O33), CLOCK (O38), NOTICE and every read word (O37). -/

namespace Sys2Proof.Proofs.Registers

open Sys2Proof Sys2Proof.Machine Sys2Proof.Proofs.Keeping

/-! ## Bytes of a word -/

theorem byteOf_toNat (v : Word) (i : Nat) : (byteOf v i).toNat = v.toNat / 2 ^ (8 * i) % 256 := by
  simp [byteOf, Nat.shiftRight_eq_div_pow]

theorem getLsbD_byteOf (v : Word) (i n : Nat) : (byteOf v i).getLsbD n = (decide (n < 8) && v.getLsbD (8 * i + n)) := by
  simp [byteOf]

theorem byteOf_wordOf (a b c d : Byte) :
    byteOf (wordOf a b c d) 0 = a ∧ byteOf (wordOf a b c d) 1 = b ∧ byteOf (wordOf a b c d) 2 = c ∧ byteOf (wordOf a b c d) 3 = d := by
  have := a.isLt; have := b.isLt; have := c.isLt; have := d.isLt
  refine ⟨?_, ?_, ?_, ?_⟩ <;>
    (apply BitVec.eq_of_toNat_eq; rw [byteOf_toNat, Credentials.wordOf_toNat]; norm_num; omega)

/-- A bus write takes exactly the enabled bytes. -/
theorem byteOf_mergeBytes (e : BitVec 4) (old new : Word) {i : Nat} (h : i < 4) :
    byteOf (mergeBytes e old new) i = if e.getLsbD i then byteOf new i else byteOf old i := by
  unfold mergeBytes
  obtain ⟨h0, h1, h2, h3⟩ := byteOf_wordOf (if e.getLsbD 0 then byteOf new 0 else byteOf old 0)
    (if e.getLsbD 1 then byteOf new 1 else byteOf old 1) (if e.getLsbD 2 then byteOf new 2 else byteOf old 2)
    (if e.getLsbD 3 then byteOf new 3 else byteOf old 3)
  interval_cases i
  · exact h0
  · exact h1
  · exact h2
  · exact h3

/-- A bit of a bus write comes from the write where its byte is enabled. -/
theorem getLsbD_mergeBytes (e : BitVec 4) (old new : Word) {n : Nat} (h : n < 32) :
    (mergeBytes e old new).getLsbD n = if e.getLsbD (n / 8) then new.getLsbD n else old.getLsbD n := by
  have bit : ∀ v : Word, v.getLsbD n = (byteOf v (n / 8)).getLsbD (n % 8) := fun v => by
    rw [getLsbD_byteOf, decide_eq_true (Nat.mod_lt n (by decide)), Bool.true_and, Nat.div_add_mod]
  rw [bit, byteOf_mergeBytes e old new (by omega)]
  split
  · rw [bit new]
  · rw [bit old]

theorem bit_lt (f : NoticeFlag) : f.bit < 7 := by cases f <;> decide

theorem exists_bit {n : Nat} (h : n < 7) : ∃ f : NoticeFlag, f.bit = n := by
  interval_cases n
  · exact ⟨.gateReturned, rfl⟩
  · exact ⟨.listReturned, rfl⟩
  · exact ⟨.journalWritten, rfl⟩
  · exact ⟨.starved, rfl⟩
  · exact ⟨.setupDone, rfl⟩
  · exact ⟨.setupFailed, rfl⟩
  · exact ⟨.tableFault, rfl⟩

/-- Setting one notice flag sets that flag and no other. -/
theorem notify_flagSet (f g : NoticeFlag) (s : State) : (notify f s).flagSet g = (s.flagSet g || decide (g = f)) := by
  have power : (BitVec.ofNat 7 (2 ^ f.bit)).getLsbD g.bit = decide (g = f) := by
    cases f <;> cases g <;> decide
  simp only [State.flagSet, notify, State.setCtl_ctl, BitVec.getLsbD_or, power]

/-! ## Power-on and reset -/

/-- Settles O33: both commands leave the reset state but for the pins, the queue and, at RESET_N, the memories. -/
theorem powerOnAndResetNRestoreEverything : Obligations.PowerOnAndResetNRestoreEverything := by
  unfold Obligations.PowerOnAndResetNRestoreEverything
  intro s fresh
  have restored : ∀ m t, fresh (((powerOnState s).setXmem m).setMemory t) := fun m t => by
    refine ⟨?_, rfl, rfl, rfl, rfl, rfl, rfl, rfl, fun p => ?_, rfl, fun i => ⟨powerOnState_hold s i, rfl, rfl⟩, fun i => ?_,
      powerOnState_zone s, powerOnState_monitor s, rfl, rfl⟩
    · simp [State.readControl, powerOnState, State.reset, State.setMemory, PartState.code, FailureCode.code, FilterState.code, bitNat]
    · simp [powerOnState, State.reset, Vector.get, Profile.alwaysOpen, State.setMemory]
    · exact powerOnState_lane s i
  exact ⟨⟨_, rfl, restored [] TableMemory.powerOn, rfl, rfl⟩, ⟨_, rfl, restored _ _, rfl, rfl⟩⟩

/-! ## CLOCK -/

/-- A clock below its last value counts one second as a signed value. -/
theorem toInt_succ {v : Word} (h : v ≠ 0x7FFFFFFF) : (v + 1).toInt = v.toInt + 1 := by
  have ne : v.toNat ≠ 2147483647 := fun e => h (BitVec.eq_of_toNat_eq e)
  have lt := v.isLt
  rw [BitVec.toInt_eq_toNat_cond, BitVec.toInt_eq_toNat_cond, BitVec.toNat_add]
  have one : (1 : Word).toNat = 1 := rfl
  rw [one]
  split <;> split <;> omega

theorem toInt_eq_top {v : Word} : v.toInt = 2147483647 ↔ v = 0x7FFFFFFF := by
  constructor
  · intro h
    exact BitVec.eq_of_toInt_eq h
  · rintro rfl
    rfl

/-- Settles O38. -/
theorem clockIsWrittenAndAdvances : Obligations.ClockIsWrittenAndAdvances := by
  unfold Obligations.ClockIsWrittenAndAdvances
  intro e v s up
  constructor
  · refine ⟨writeClock e v s, ?_, rfl, rfl, rfl, rfl, fun i h => byteOf_mergeBytes e _ v h⟩
    simp only [exec, execClockWrite, whileUp, up, Bool.false_eq_true, if_false]
  · refine ⟨clockAdvance s, ?_, ?_⟩
    · simp only [exec, execClockSecond, whileUp, up, Bool.false_eq_true, if_false]
    · unfold clockAdvance
      split
      · next valid =>
        refine ⟨rfl, valid.symm, fun h => ?_, fun _ => ?_⟩
        · rw [valid] at h; cases h
        · simp only [State.setClk_clk, toInt_eq_top]
          split
          · next top => rw [top]; rfl
          · next below => exact toInt_succ below
      · next invalid =>
        have valid : s.clk.valid = false := by simpa using invalid
        refine ⟨rfl, rfl, fun _ => ⟨rfl, ?_⟩, fun h => absurd h invalid⟩
        show s.now = 0
        rw [State.now, if_neg invalid]

/-! ## NOTICE, NOTICE_EN and the read words -/

/-- A word of the window by its number. -/
theorem readWindow_exchange (s : State) {w : BitVec 16} (h : 16 ≤ w.toNat) :
    s.readWindow w = wordOf (s.read (4 * w.toNat)) (s.read (4 * w.toNat + 1)) (s.read (4 * w.toNat + 2)) (s.read (4 * w.toNat + 3)) := by
  have low : ∀ k, k < 64 → 4 * w.toNat ≠ k := fun k hk => by omega
  have above : ¬4 * w.toNat < Config.windowBase := Nat.not_lt.2 (Nat.mul_le_mul_left 4 h)
  simp only [State.readWindow]
  rw [if_neg (low _ (by decide)), if_neg (low _ (by decide)), if_neg (low _ (by decide)), if_neg (low _ (by decide)),
    if_neg (low _ (by decide)), if_neg above]

theorem readWindow_reserved (s : State) {w : BitVec 16} (h : 5 ≤ w.toNat) (h' : w.toNat < 16) : s.readWindow w = 0 := by
  have below : 4 * w.toNat < Config.windowBase := Nat.mul_lt_mul_of_pos_left h' (by decide)
  simp only [State.readWindow]
  rw [if_neg (by omega), if_neg (by omega), if_neg (by omega), if_neg (by omega), if_neg (by omega), if_pos below]

theorem getLsbD_readNoticeEn (s : State) (n : Nat) :
    s.readNoticeEn.getLsbD n = (s.ctl.enables.getLsbD n || (s.ctl.master && decide (n = 31))) := by
  unfold State.readNoticeEn
  rw [BitVec.getLsbD_or, BitVec.getLsbD_setWidth]
  have low : (decide (n < 32) && s.ctl.enables.getLsbD n) = s.ctl.enables.getLsbD n := by
    by_cases h : n < 32
    · simp [h]
    · simp [h, BitVec.getLsbD_of_ge s.ctl.enables n (by omega)]
  rw [low]
  congr 1
  cases s.ctl.master with
  | false => simp
  | true =>
    rw [if_pos rfl, Bool.true_and]
    have top : (0x80000000 : Word) = BitVec.twoPow 32 31 := by decide
    rw [top, BitVec.getLsbD_twoPow]
    by_cases h : n = 31 <;> simp [h, eq_comm]

theorem readNoticeEn_bit (s : State) (f : NoticeFlag) : s.readNoticeEn.getLsbD f.bit = s.ctl.enables.getLsbD f.bit := by
  have bit := bit_lt f
  rw [getLsbD_readNoticeEn, decide_eq_false (by omega), Bool.and_false, Bool.or_false]

/-- NOTICE_N is active while some flag is set with its enable (R189). -/
theorem noticeActive_iff (s : State) :
    s.noticeActive = true ↔ s.ctl.master = true ∧ ∃ f : NoticeFlag, s.flagSet f = true ∧ s.ctl.enables.getLsbD f.bit = true := by
  unfold State.noticeActive State.flagSet
  rw [Bool.and_eq_true, decide_eq_true_eq]
  refine and_congr Iff.rfl ⟨fun ne => ?_, ?_⟩
  · by_contra none
    refine ne (BitVec.eq_of_getLsbD_eq fun n h => ?_)
    obtain ⟨f, rfl⟩ := exists_bit h
    have zero : (0 : BitVec 7).getLsbD f.bit = false := by simp
    rw [BitVec.getLsbD_and, zero]
    by_contra both
    simp only [Bool.not_eq_false, Bool.and_eq_true] at both
    exact none ⟨f, both⟩
  · rintro ⟨f, flag, enable⟩ zero
    have := congrArg (fun v => v.getLsbD f.bit) zero
    simp [flag, enable] at this

theorem readControl_toNat (s : State) :
    s.readControl.toNat =
      s.ctl.part.code.toNat * 2 ^ 8 + bitNat s.ctl.setupComplete * 2 ^ 10 + s.ctl.failure.code.toNat * 2 ^ 12 +
        s.tab.filter.code.toNat * 2 ^ 16 + bitNat s.clk.valid * 2 ^ 18 := by
  have part : s.ctl.part.code.toNat ≤ 3 := by cases s.ctl.part <;> decide
  have failure : s.ctl.failure.code.toNat ≤ 7 := by cases s.ctl.failure <;> decide
  have filter : s.tab.filter.code.toNat ≤ 2 := by cases s.tab.filter <;> decide
  have bit : ∀ b, bitNat b ≤ 1 := fun b => by cases b <;> decide
  have := bit s.ctl.setupComplete
  have := bit s.clk.valid
  rw [State.readControl, BitVec.toNat_ofNat, Nat.mod_eq_of_lt]
  omega

theorem writeNotice_flagSet (e : BitVec 4) (v : Word) (s : State) (f : NoticeFlag) :
    (writeNotice e v s).flagSet f = (s.flagSet f && !(e.getLsbD 0 && v.getLsbD f.bit)) := by
  have bit := bit_lt f
  have byte : f.bit / 8 = 0 := by omega
  simp only [State.flagSet, writeNotice, State.setCtl_ctl, BitVec.getLsbD_and, BitVec.getLsbD_not, BitVec.getLsbD_setWidth,
    getLsbD_mergeBytes e 0 v (by omega : f.bit < 32), byte, bit, decide_true, Bool.true_and]
  cases e.getLsbD 0 <;> simp

theorem writeNoticeEn_enables (e : BitVec 4) (v : Word) (s : State) (f : NoticeFlag) :
    (writeNoticeEn e v s).ctl.enables.getLsbD f.bit = if e.getLsbD 0 then v.getLsbD f.bit else s.ctl.enables.getLsbD f.bit := by
  have bit := bit_lt f
  have byte : f.bit / 8 = 0 := by omega
  simp only [writeNoticeEn, State.setCtl_ctl, BitVec.getLsbD_setWidth, getLsbD_mergeBytes e _ v (by omega : f.bit < 32), byte, bit,
    decide_true, Bool.true_and, readNoticeEn_bit]

theorem writeNoticeEn_master (e : BitVec 4) (v : Word) (s : State) :
    (writeNoticeEn e v s).ctl.master = if e.getLsbD 3 then v.getLsbD 31 else s.ctl.master := by
  simp only [writeNoticeEn, State.setCtl_ctl]
  rw [getLsbD_mergeBytes e _ v (by decide), getLsbD_readNoticeEn]
  simp

/-- Settles O37. -/
theorem noticeRegistersAndLine : Obligations.NoticeRegistersAndLine := by
  unfold Obligations.NoticeRegistersAndLine
  intro e v s up
  refine ⟨⟨writeNotice e v s, ?_, writeNotice_flagSet e v s, rfl⟩, ⟨writeNoticeEn e v s, ?_, writeNoticeEn_enables e v s,
    writeNoticeEn_master e v s, rfl, noticeActive_iff _⟩, ?control, ?notice, ?enables, rfl, rfl, ?words⟩
  · simp only [exec, execNoticeWrite, whileUp, up, Bool.false_eq_true, if_false]
  · simp only [exec, execNoticeEnWrite, whileUp, up, Bool.false_eq_true, if_false]
  case control =>
    show s.readControl.toNat = _
    have fields : ∀ a b c d e : Nat, a * 2 ^ 8 + b * 2 ^ 10 + c * 2 ^ 12 + d * 2 ^ 16 + e * 2 ^ 18 =
        256 * a + 1024 * b + 4096 * c + 65536 * d + 262144 * e := fun _ _ _ _ _ => by ring
    rw [readControl_toNat, fields]
    refine congrArg₂ (· + ·) (congrArg₂ (· + ·) (congrArg₂ (· + ·) (congrArg₂ (· + ·) (congrArg _ ?_) rfl) (congrArg _ ?_))
      (congrArg _ ?_)) rfl
    · cases s.ctl.part <;> rfl
    · cases s.ctl.failure <;> rfl
    · cases s.tab.filter <;> rfl
  case notice =>
    show (∀ f : NoticeFlag, (s.ctl.notice.setWidth 32).getLsbD f.bit = s.flagSet f) ∧
      ∀ n, 7 ≤ n → (s.ctl.notice.setWidth 32).getLsbD n = false
    refine ⟨fun f => ?_, fun n h => ?_⟩
    · have := bit_lt f
      simp [State.flagSet, (by omega : f.bit < 32)]
    · simp [BitVec.getLsbD_of_ge s.ctl.notice n h]
  case enables =>
    show (∀ f : NoticeFlag, s.readNoticeEn.getLsbD f.bit = s.ctl.enables.getLsbD f.bit) ∧ s.readNoticeEn.getLsbD 31 = s.ctl.master ∧
      ∀ n, 7 ≤ n → n ≠ 31 → s.readNoticeEn.getLsbD n = false
    refine ⟨readNoticeEn_bit s, ?_, fun n h ne => ?_⟩
    · rw [getLsbD_readNoticeEn, BitVec.getLsbD_of_ge s.ctl.enables 31 (by decide)]
      simp
    · simp [getLsbD_readNoticeEn, BitVec.getLsbD_of_ge s.ctl.enables n h, ne]
  case words =>
    refine fun w => ⟨readWindow_reserved s, fun h i hi => ?_⟩
    rw [readWindow_exchange s h]
    obtain ⟨h0, h1, h2, h3⟩ := byteOf_wordOf (s.read (4 * w.toNat)) (s.read (4 * w.toNat + 1)) (s.read (4 * w.toNat + 2))
      (s.read (4 * w.toNat + 3))
    interval_cases i
    · exact h0
    · exact h1
    · exact h2
    · exact h3

end Sys2Proof.Proofs.Registers
end

section
/-! PROOFS. Mode changes (O46) and watch events (O47). -/

namespace Sys2Proof.Proofs.Lanes

open Sys2Proof Sys2Proof.Machine

/-! ## Mode changes -/

theorem monitorByte_eq (c : ModeCause) : finByte c.monitor = BitVec.ofNat 8 ((c.monitor.map Fin.val).getD 255) := by
  cases c <;> rfl

/-- The detail of a MODE record as four numbers (12.5). -/
theorem modeDetail_eq (a b : Byte) (c : ModeCause) :
    detail4 a b c.code (finByte c.monitor) =
      detailBytes a.toNat b.toNat c.code.toNat ((c.monitor.map Fin.val).getD 255) := by
  rw [← wordOf_detailBytes, monitorByte_eq, BitVec.ofNat_toNat, BitVec.ofNat_toNat, BitVec.ofNat_toNat]
  rfl

theorem isFree_base {m : BaseMode} : (LaneMode.base m).isFree = true ↔ m = .free := by cases m <;> decide

theorem isFree_base_false {m : BaseMode} : (LaneMode.base m).isFree = false ↔ m ≠ .free := by cases m <;> decide

/-- A base mode taken in place of another, with no tally to report. -/
theorem takeBase_untallied {i : LaneId} {m old : BaseMode} (c : ModeCause) (r : Bool) {s : State} (mode : (s.lane i).mode = .base old)
    (ne : old ≠ m) (untallied : ¬(old = .free ∧ m ≠ .free ∧ 0 < (s.lane i).tally)) :
    takeMode i (.base m) c r s =
      if r then
        emit (s.recordNow .mode (some i) (some (s.lane i).zone) {}
          (detailBytes old.code.toNat m.code.toNat c.code.toNat ((c.monitor.map Fin.val).getD 255)) zeroKey)
          (s.setLane i { s.lane i with mode := .base m })
      else s.setLane i { s.lane i with mode := .base m } := by
  rw [takeMode_untallied _ _ _ _ _ (by simpa [mode] using ne) (by rw [mode, isFree_base, isFree_base_false]; exact untallied), mode]
  simp only [LaneMode.code, modeDetail_eq]

/-- A base mode taken in place of FREE with a tally: the TALLY record comes first. -/
theorem takeBase_tallied {i : LaneId} {m old : BaseMode} (c : ModeCause) (r : Bool) {s : State} (mode : (s.lane i).mode = .base old)
    (ne : old ≠ m) (tallied : old = .free ∧ m ≠ .free ∧ 0 < (s.lane i).tally) :
    takeMode i (.base m) c r s =
      let left :=
        (emit (s.recordNow .tally (some i) (some (s.lane i).zone) {} (detailBytes (s.lane i).tally 1 0 0) zeroKey)
          (s.setLane i { s.lane i with tally := 0 })).setLane i { s.lane i with tally := 0, mode := .base m }
      if r then
        emit (s.recordNow .mode (some i) (some (s.lane i).zone) {}
          (detailBytes old.code.toNat m.code.toNat c.code.toNat ((c.monitor.map Fin.val).getD 255)) zeroKey) left
      else left := by
  rw [takeMode_tallied _ _ _ _ _ (by simpa [mode] using ne) (by rw [mode, isFree_base, isFree_base_false]; exact tallied), mode]
  simp only [LaneMode.code, modeDetail_eq]

theorem changeMode_beside {i : LaneId} {m : BaseMode} (c : ModeCause) {s : State} (base : (s.lane i).mode ≠ .emergency)
    (hold : s.hold i ≠ none) : changeMode i m c s = s.setLane i { s.lane i with pendingMode := some m } := by
  have held : (s.hold i).isSome = true := Option.isSome_iff_ne_none.2 hold
  simp only [changeMode, if_neg base, held, if_true]

theorem changeMode_at_once {i : LaneId} {m : BaseMode} (c : ModeCause) {s : State} (base : (s.lane i).mode ≠ .emergency)
    (free : s.hold i = none) : changeMode i m c s = takeMode i (.base m) c true s := by
  simp only [changeMode, if_neg base, free, Option.isSome_none, Bool.false_eq_true, if_false]

/-- A hold's removal with a pending mode, outside EMERGENCY. -/
theorem removeHold_pending {i : LaneId} {m : BaseMode} (r : Bool) {s : State} (wait : (s.lane i).pendingMode = some m)
    (base : (s.lane i).mode ≠ .emergency) :
    removeHold i r s = takeMode i (.base m) .pending r ((s.setHold i none).setLane i { s.lane i with pendingMode := none }) := by
  unfold removeHold
  simp only [State.setHold_lane, wait]
  exact if_neg base

/-- Settles O46: the branches of a mode change and of a removal, with the records that a change of mode makes. -/
theorem modeChanges : Obligations.ModeChanges := by
  unfold Obligations.ModeChanges
  intro i m old c recorded s l tallied modeRecord tallyRecord gone
  have base : ∀ {b}, l.mode = .base b → l.mode ≠ .emergency := fun h => by rw [h]; simp
  let bare := gone.setLane i { l with pendingMode := none }
  have lane : bare.lane i = { l with pendingMode := none } := State.setLane_lane_same _ _ _
  refine ⟨fun em => ?_, fun h held => changeMode_beside c h held, fun free mode => ?_, fun free mode ne untallied => ?_,
    fun free mode ne tally => ?_, fun wait => removeHold_plain i recorded s wait, fun wait em => ?_, fun wait mode => ?_,
    fun wait mode ne untallied => ?_, fun wait mode ne tally => ?_⟩
  · show changeMode i m c s = _
    simp only [changeMode]
    exact if_pos em
  · rw [changeMode_at_once c (base mode) free, takeMode_same _ _ _ _ _ mode]
  · rw [changeMode_at_once c (base mode) free, takeBase_untallied c true mode ne untallied]
    rfl
  · rw [changeMode_at_once c (base mode) free, takeBase_tallied c true mode ne tally]
    rfl
  · have wait' : (s.lane i).pendingMode = some m := wait
    have em' : (s.lane i).mode = .emergency := em
    unfold removeHold
    simp only [State.setHold_lane, wait', State.setLane_lane_same, State.setLane_setLane]
    exact if_pos em'
  · rw [removeHold_pending recorded wait (base mode), takeMode_same _ _ _ _ _ (by rw [State.setLane_lane_same]; exact mode)]
  · rw [removeHold_pending recorded wait (base mode)]
    show takeMode i (.base m) .pending recorded bare = _
    rw [takeBase_untallied .pending recorded (s := bare) (by rw [lane]; exact mode) ne (by rw [lane]; exact untallied), lane]
    simp only [bare, State.setLane_setLane]
    rfl
  · intro left
    rw [removeHold_pending recorded wait (base mode)]
    show takeMode i (.base m) .pending recorded bare = _
    rw [takeBase_tallied .pending recorded (s := bare) (by rw [lane]; exact mode) ne (by rw [lane]; exact tally), lane]
    simp only [bare, State.setLane_setLane]
    rfl

/-! ## Watch events -/

/-- Bit `t` of a set of terms is set exactly where term `t` is in it. -/
theorem termSet_getLsbD (ts : List (Fin 6)) (t : Fin 8) : (termSet ts).getLsbD t.val = decide (∃ y ∈ ts, y.val = t.val) := by
  have bits : ∀ (a b c d e f : Bool) (t : Fin 8),
      (BitVec.ofNat 8 (bitNat a * 2 ^ 0 + (bitNat b * 2 ^ 1 + (bitNat c * 2 ^ 2 + (bitNat d * 2 ^ 3 + (bitNat e * 2 ^ 4 +
        (bitNat f * 2 ^ 5 + 0))))))).getLsbD t.val = [a, b, c, d, e, f, false, false].getD t.val false := by decide
  refine (bits (decide ((0 : Fin 6) ∈ ts)) (decide ((1 : Fin 6) ∈ ts)) (decide ((2 : Fin 6) ∈ ts)) (decide ((3 : Fin 6) ∈ ts))
    (decide ((4 : Fin 6) ∈ ts)) (decide ((5 : Fin 6) ∈ ts)) t).trans ?_
  have named : ∀ k : Fin 6, (∃ y ∈ ts, y.val = k.val) ↔ k ∈ ts := fun k =>
    ⟨fun ⟨y, hy, e⟩ => Fin.ext e ▸ hy, fun h => ⟨k, h, rfl⟩⟩
  have beyond : ∀ n, 6 ≤ n → ¬∃ y ∈ ts, y.val = n := fun n h ⟨y, _, e⟩ => by have := y.isLt; omega
  fin_cases t
  · exact decide_eq_decide.2 (named 0).symm
  · exact decide_eq_decide.2 (named 1).symm
  · exact decide_eq_decide.2 (named 2).symm
  · exact decide_eq_decide.2 (named 3).symm
  · exact decide_eq_decide.2 (named 4).symm
  · exact decide_eq_decide.2 (named 5).symm
  · exact (decide_eq_false (beyond 6 (by decide))).symm
  · exact (decide_eq_false (beyond 7 (by decide))).symm

theorem mem_termOrder (t : Fin 6) : t ∈ termOrder := by revert t; decide

/-- The byte of the current term values has the value of each term in its bit, and 0 in the two bits that name none. -/
theorem currentTerms_getLsbD (n : Terms) :
    (∀ t : Fin 6, (termSet (termOrder.filter n.val)).getLsbD t.val = n.val t) ∧
      (termSet (termOrder.filter n.val)).getLsbD 6 = false ∧ (termSet (termOrder.filter n.val)).getLsbD 7 = false := by
  have beyond : ∀ t : Fin 8, 6 ≤ t.val → (termSet (termOrder.filter n.val)).getLsbD t.val = false := fun t h => by
    rw [termSet_getLsbD]
    exact decide_eq_false fun ⟨y, _, e⟩ => by have := y.isLt; omega
  refine ⟨fun t => ?_, beyond 6 (by decide), beyond 7 (by decide)⟩
  refine (termSet_getLsbD _ (t.castLE (by decide))).trans ?_
  have iff : (∃ y ∈ termOrder.filter n.val, y.val = (t.castLE (by decide : 6 ≤ 8)).val) ↔ n.val t = true := by
    constructor
    · rintro ⟨y, hy, e⟩
      rw [← Fin.ext (show y.val = t.val from e)]
      exact (List.mem_filter.1 hy).2
    · exact fun h => ⟨t, List.mem_filter.2 ⟨mem_termOrder t, h⟩, rfl⟩
  rw [Bool.eq_iff_iff, decide_eq_true_iff]
  exact iff

/-- The head of a list of terms in ascending number is the lowest of them. -/
theorem head_lowest {ts : List (Fin 6)} (sublist : ts.Sublist termOrder) (ne : ts ≠ []) :
    ∃ t ∈ ts, finByte ts.head? = BitVec.ofNat 8 t.val ∧ ∀ y ∈ ts, t ≤ y := by
  have ascending : ts.Pairwise (· ≤ ·) := List.Pairwise.sublist sublist (by decide)
  cases ts with
  | nil => exact absurd rfl ne
  | cons t ts =>
    refine ⟨t, List.mem_cons_self, rfl, fun y hy => ?_⟩
    rcases List.mem_cons.1 hy with rfl | hy
    · exact le_refl _
    · exact (List.pairwise_cons.1 ascending).1 y hy

theorem newly_sublist (w : WatchSpec) (p n : Terms) : (w.newly p n).Sublist termOrder :=
  List.filter_sublist.trans List.filter_sublist

/-- A match or a RAISE at an IDLE alert that is enabled: PENDING, with the ALERT record of the lane as it stands. -/
theorem reachAlert_idle {i : LaneId} (cause : Byte) (ts : List (Fin 6)) {s : State} (on : (s.lane i).alertOn = true)
    (idle : (s.lane i).alert = .idle) :
    reachAlert i cause ts s =
      emit (s.recordNow .alert (some i) (some (s.lane i).zone) {}
        (wordOf cause (s.lane i).watch.mode.code ((s.lane i).watch.reported ts) (termSet (termOrder.filter (s.terms i).val))) zeroKey)
        (s.setLane i { s.lane i with alert := .pending }) := by
  unfold reachAlert
  simp only [on, idle, Bool.true_eq_false, if_false, if_true, emitLane, State.record_recordNow, State.setLane_lane_same]
  rfl

theorem reachAlert_late {i : LaneId} (cause : Byte) (ts : List (Fin 6)) {s : State} (on : (s.lane i).alertOn = true)
    (busy : (s.lane i).alert ≠ .idle) : reachAlert i cause ts s = s.setLane i { s.lane i with overrun := true } := by
  unfold reachAlert
  simp only [on, Bool.true_eq_false, if_false, if_neg busy]

theorem reachAlert_off {i : LaneId} (cause : Byte) (ts : List (Fin 6)) {s : State} (off : (s.lane i).alertOn = false) :
    reachAlert i cause ts s = s := by
  unfold reachAlert
  simp only [off, if_true]

theorem watchEvent_matched {i : LaneId} {s : State} (on : s.ctl.part ≠ .settingUp)
    (matched : (s.lane i).watch.matched (s.lane i).prev (s.terms i) = true) :
    watchEvent i s = reachAlert i 0 ((s.lane i).watch.newly (s.lane i).prev (s.terms i)) (takeTerms i s) :=
  if_pos ⟨on, matched⟩

/-- Settles O47. -/
theorem watchEvents : Obligations.WatchEvents := by
  unfold Obligations.WatchEvents
  intro i s l n new
  have taken : (takeTerms i s).lane i = { l with prev := n } := State.setLane_lane_same _ _ _
  refine ⟨rfl, fun quiet => ?_, fun on matched enabled busy => ?_, fun on matched enabled idle => ?_⟩
  · by_cases event : s.ctl.part ≠ .settingUp ∧ l.watch.matched l.prev n = true
    · have off : l.alertOn = false := by
        rcases quiet with h | h | h
        · exact absurd h event.1
        · rw [event.2] at h; cases h
        · exact h
      rw [watchEvent_matched event.1 event.2, reachAlert_off _ _ (by rw [taken]; exact off)]
      rfl
    · exact if_neg event
  · rw [watchEvent_matched on matched, reachAlert_late _ _ (by rw [taken]; exact enabled) (by rw [taken]; exact busy), taken]
    exact State.setLane_setLane _ _ _ _
  · refine ⟨l.watch.reported new, termSet (termOrder.filter n.val), ?_, fun mode t => ?_, fun mode => ?_, currentTerms_getLsbD n⟩
    · have terms : (takeTerms i s).terms i = n := by
        simp only [State.terms, taken]
        rfl
      rw [watchEvent_matched on matched, reachAlert_idle _ _ (by rw [taken]; exact enabled) (by rw [taken]; exact idle), taken, terms,
        takeTerms, State.setLane_setLane]
      rfl
    · have set : l.watch.reported new = termSet new := by
        unfold WatchSpec.reported
        split
        · next first => exact absurd first mode
        · rfl
        · rfl
      rw [set, termSet_getLsbD]
    · have lowest : l.watch.reported new = finByte new.head? := by
        unfold WatchSpec.reported
        rw [mode]
      rw [lowest]
      obtain ⟨t, ht⟩ := Watch.newly_of_matched matched
      exact head_lowest (newly_sublist _ _ _) (List.ne_nil_of_mem ht)

end Sys2Proof.Proofs.Lanes
end

section
/-! PROOFS. Requests of the gate ring: a descriptor just taken and its return, and the five ALERT actions (O48). -/

namespace Sys2Proof.Proofs.Requests

open Sys2Proof Sys2Proof.Machine Sys2Proof.Proofs.Lanes

/-! ## Taken descriptors and their return -/

theorem running_eq_true {s : State} : s.running = true ↔ s.ctl.part = .running := by
  simp [State.running]

section Took

variable {s t : State} {ring : Ring} {k : ReqKind} {d : Desc}

theorem gateTaken_of_took {claims : Byte → Bool} (took : s.GateTook ring k d) (claim : claims (d.byte 0) = true) :
    s.gateTaken k claims = some d := by
  obtain ⟨part, up, -, work, kind⟩ := took
  simp only [State.gateTaken, work]
  exact if_pos ⟨running_eq_true.2 part, up, kind, claim⟩

theorem listTaken_of_took {o : Nat} {claims : Byte → Bool} (took : s.ListTook ring k d) (claim : claims (d.byte o) = true) :
    s.listTaken k o claims = some d := by
  obtain ⟨part, up, -, work, kind⟩ := took
  simp only [State.listTaken, work]
  exact if_pos ⟨running_eq_true.2 part, up, kind, claim⟩

theorem returnGate_eq {r : Reply} (cfg : t.cfg.gate = some ring) : returnGate d r t = examineGate (gateHandBack ring d r t) := by
  simp only [returnGate, cfg]

theorem returnList_eq {r : Reply} (cfg : t.cfg.list = some ring) : returnList d r t = examineList (listHandBack ring d r t) := by
  simp only [returnList, cfg]

theorem claimsAction_eq_true {c lo hi : Nat} {b : Byte} : claimsAction c lo hi b = true ↔ b.toNat = c ∨ b.toNat < lo ∨ hi < b.toNat := by
  simp [claimsAction]

theorem laneOf_ofNat (i : LaneId) : laneOf (BitVec.ofNat 8 i.val) = some i := by
  revert i
  decide

theorem laneOf_eq_none {b : Byte} : laneOf b = none ↔ 8 ≤ b.toNat := by
  unfold laneOf
  split
  · next h => simp [Nat.not_le.2 h]
  · next h => simpa using h

end Took

/-! ## ALERT -/

/-- The flag byte of an ALERT result. -/
theorem alertFlags_eq (l : Lane) :
    l.alertFlags = BitVec.ofNat 8 ((if l.alertOn then 1 else 0) + (if l.overrun then 2 else 0)) := by
  unfold Lane.alertFlags
  cases l.alertOn <;> cases l.overrun <;> rfl

theorem alertFlags_inj {l l' : Lane} : l'.alertFlags = l.alertFlags ↔ l'.alertOn = l.alertOn ∧ l'.overrun = l.overrun := by
  have table : ∀ a b c d : Bool, BitVec.ofNat 8 (bitNat c + 2 * bitNat d) = BitVec.ofNat 8 (bitNat a + 2 * bitNat b) ↔ c = a ∧ d = b := by
    decide
  exact table _ _ _ _

/-- The result of an ALERT request from the lane before and after it. -/
theorem alertReply_eq (l l' : Lane) :
    alertReply l l' =
      ⟨.done,
        [l.alert.code, BitVec.ofNat 8 ((if l.alertOn then 1 else 0) + (if l.overrun then 2 else 0)), l'.alert.code,
          BitVec.ofNat 8 ((if l'.alertOn then 1 else 0) + (if l'.overrun then 2 else 0)),
          if l'.alert = l.alert ∧ l'.alertOn = l.alertOn ∧ l'.overrun = l.overrun then 0 else 1], []⟩ := by
  unfold alertReply
  rw [alertFlags_eq, alertFlags_eq]
  have changed : flagByte (decide (l.alert ≠ l'.alert ∨ l.alertFlags ≠ l'.alertFlags)) =
      if l'.alert = l.alert ∧ l'.alertOn = l.alertOn ∧ l'.overrun = l.overrun then 0 else 1 := by
    by_cases same : l'.alert = l.alert ∧ l'.alertOn = l.alertOn ∧ l'.overrun = l.overrun
    · rw [if_pos same, same.1, alertFlags_inj.2 same.2]
      simp [flagByte]
    · have differ : ¬(l'.alert = l.alert ∧ l'.alertFlags = l.alertFlags) := by rwa [alertFlags_inj]
      rw [if_neg same]
      simp [flagByte, (not_and_or.1 differ).imp Ne.symm Ne.symm]
  rw [← changed, alertFlags_eq, alertFlags_eq]

section Alert

variable {s t : State} {ring : Ring} {d : Desc} {i : LaneId}

/-- An ALERT request whose action or lane has no meaning. -/
theorem alertRequest_malformed {c : Nat} {action : LaneId → State → State} (took : s.GateTook ring .alert d)
    (claim : (d.byte 0).toNat = c ∨ 5 ≤ (d.byte 0).toNat) (bad : 8 ≤ d.lane.toNat ∨ (d.byte 0).toNat ≠ c) :
    alertRequest c action s = examineGate (gateHandBack ring d ⟨.malformed, [], []⟩ s) := by
  unfold alertRequest
  rw [gateTaken_of_took took (claimsAction_eq_true.2 (claim.imp id .inr))]
  simp only
  split
  · next i lane =>
    have low : ¬8 ≤ d.lane.toNat := fun h => by rw [laneOf_eq_none.2 h] at lane; cases lane
    rw [if_neg (bad.resolve_left low)]
    exact returnGate_eq took.2.2.1
  · exact returnGate_eq took.2.2.1

/-- An ALERT request of a lane that exists, with the action the command carries out. -/
theorem alertRequest_done {c : Nat} {action : LaneId → State → State} (took : s.GateTook ring .alert d)
    (code : (d.byte 0).toNat = c) (lane : d.lane = BitVec.ofNat 8 i.val) (result : action i s = t) (cfg : t.cfg = s.cfg) :
    alertRequest c action s = examineGate (gateHandBack ring d (alertReply (s.lane i) (t.lane i)) t) := by
  unfold alertRequest
  rw [gateTaken_of_took took (claimsAction_eq_true.2 (.inl code))]
  simp only [lane, laneOf_ofNat, code, if_true, result]
  exact returnGate_eq (by rw [cfg]; exact took.2.2.1)

end Alert

/-- Settles O48. -/
theorem alertRequests : Obligations.AlertRequests := by
  unfold Obligations.AlertRequests
  intro s ring d took a back
  refine ⟨fun bad c named => ?_, fun i lane => ?_⟩
  · rcases named with ⟨rfl, h⟩ | ⟨rfl, h⟩ | ⟨rfl, h⟩ | ⟨rfl, h⟩ | ⟨rfl, h⟩
    · exact congrArg _ (alertRequest_malformed took h (bad.imp id fun _ => by omega))
    · exact congrArg _ (alertRequest_malformed took h (bad.imp id fun _ => by omega))
    · exact congrArg _ (alertRequest_malformed took h (bad.imp id fun _ => by omega))
    · exact congrArg _ (alertRequest_malformed took h (bad.imp id fun _ => by omega))
    · exact congrArg _ (alertRequest_malformed took (by omega) (bad.imp id fun _ => by omega))
  · intro l flags reply
    have answer : ∀ (action : LaneId → State → State) (l' : Lane) {c t}, a = c → action i s = t → t.cfg = s.cfg → t.lane i = l' →
        alertRequest c action s = examineGate (gateHandBack ring d (reply l'.alert l'.alertOn l'.overrun) t) := by
      intro action l' c t code result cfg after
      rw [alertRequest_done took code lane result cfg, after, alertReply_eq]
    have written : ∀ l', (s.setLane i l').lane i = l' := State.setLane_lane_same s i
    refine ⟨fun code pending => ?_, fun code other => ?_, fun code => ?_, fun code => ?_, fun code => ?_, fun code off => ?_,
      fun code on busy => ?_, fun code on idle => ?_⟩
    · exact congrArg _ (answer alertTakeAt { l with alert := .inService } code (if_pos pending) rfl (written _))
    · exact congrArg _ (answer alertTakeAt l code (if_neg other) rfl rfl)
    · exact congrArg _ (answer alertClearAt { l with alert := .idle, overrun := false } code rfl rfl (written _))
    · exact congrArg _ (answer alertEnableAt { l with alertOn := true } code rfl rfl (written _))
    · exact congrArg _ (answer alertDisableAt { l with alertOn := false } code rfl rfl (written _))
    · have := answer alertRaiseAt l code (reachAlert_off 1 [] off) rfl rfl
      rw [show l.alertOn = false from off] at this
      exact congrArg _ this
    · have := answer alertRaiseAt { l with overrun := true } code (reachAlert_late 1 [] on busy) rfl (written _)
      rw [show l.alertOn = true from on] at this
      exact congrArg _ this
    · have mark : l.watch.reported [] = if l.watch.mode = .first then 0xFF else 0 := by
        unfold WatchSpec.reported
        cases l.watch.mode <;> rfl
      have raised := reachAlert_idle 1 [] on idle
      rw [show (s.lane i).watch.reported [] = _ from mark] at raised
      obtain ⟨bits, bit6, bit7⟩ := currentTerms_getLsbD (s.terms i)
      refine ⟨_, bits, bit6, bit7, ?_⟩
      have := answer alertRaiseAt { l with alert := .pending } code raised (emit_cfg _ _) ((emit_lane _ _ _).trans (written _))
      rw [show l.alertOn = true from on] at this
      exact congrArg _ this

end Sys2Proof.Proofs.Requests
end

section
/-! PROOFS. Bytes in the exchange memory; the records of the journal ring (O29, O30) and of a batch, and the counts (O28). -/

namespace Sys2Proof.Proofs.Bytes

open Sys2Proof Sys2Proof.Machine Sys2Proof.Proofs.Registers

/-! ## Runs of bytes -/

/-- A run of bytes that is written reads back, and every other byte reads as before. -/
theorem read_writeBytes (bs : List Byte) {m : List Host.Cell} (a b : Nat) (wf : Memory.wf m) :
    Memory.read (Memory.writeBytes m a bs) b = if a ≤ b ∧ b < a + bs.length then bs.getD (b - a) 0 else Memory.read m b := by
  split
  · next inside =>
    have h := Memory.read_writeBytes_inside bs m a (b - a) wf (by omega)
    rw [show a + (b - a) = b by omega] at h
    rw [h, List.getD_eq_getElem]
  · next outside => exact Memory.read_writeBytes_outside bs m a b (by omega)

theorem word_of_bytes (v : Word) :
    (byteOf v 0).toNat + 256 * (byteOf v 1).toNat + 65536 * (byteOf v 2).toNat + 16777216 * (byteOf v 3).toNat = v.toNat := by
  have lt := v.isLt
  simp only [byteOf_toNat]
  omega

theorem half_of_bytes (n : Nat) : (BitVec.ofNat 8 n).toNat + 256 * (BitVec.ofNat 8 (n / 256)).toNat = n % 65536 := by
  simp only [BitVec.toNat_ofNat]
  omega

theorem halfOf_toNat (a b : Byte) : (halfOf a b).toNat = a.toNat + 256 * b.toNat := by
  have la := a.isLt
  have lb := b.isLt
  have or := Nat.shiftLeft_add_eq_or_of_lt la b.toNat
  have shift : (b.toNat % 2 ^ 16) <<< 8 % 2 ^ 16 = b.toNat <<< 8 := by rw [Nat.shiftLeft_eq, Nat.shiftLeft_eq]; omega
  simp only [halfOf, BitVec.toNat_or, BitVec.toNat_shiftLeft, BitVec.toNat_setWidth]
  rw [show a.toNat % 2 ^ 16 = a.toNat by omega, shift, Nat.or_comm, ← or, Nat.shiftLeft_eq]
  omega

/-! ## Journal records -/

section Journal

variable {s : State} {ring : Ring}

theorem body_length (r : Record) (gap : Nat) : (r.body gap).length = 31 := by
  simp [Record.body, halfBytes, wordBytes]

/-- The slot that a journal write fills, and every other byte. -/
theorem journalWrite_read (r : Record) (rest : List Record) (wf : Memory.wf s.xmem) (b : Nat) :
    (journalWrite ring r rest s).read b =
      if b = ring.slotAddr s.jrn.put then 0
      else if ring.slotAddr s.jrn.put < b ∧ b < ring.slotAddr s.jrn.put + 32 then
        (r.body s.jrn.gap).getD (b - (ring.slotAddr s.jrn.put + 1)) 0
      else s.read b := by
  rw [State.read_def, Keeping.journalWrite_xmem, read_writeBytes _ _ _ (Memory.writeBytes_wf _ _ _ wf), read_writeBytes _ _ _ wf,
    body_length]
  by_cases mark : b = ring.slotAddr s.jrn.put
  · subst mark
    simp
  · rw [if_neg mark, if_neg (by simp only [List.length_cons, List.length_nil]; omega)]
    split
    · next h => rw [if_pos (by omega)]
    · next h => rw [if_neg (by omega)]; rfl

theorem journalWrite_flagSet (r : Record) (rest : List Record) (f : NoticeFlag) :
    (journalWrite ring r rest s).flagSet f = (s.flagSet f || decide (f = .journalWritten)) := by
  unfold journalWrite
  exact notify_flagSet .journalWritten f _

theorem journalWrite_outside (r : Record) (rest : List Record) (wf : Memory.wf s.xmem) {b : Nat}
    (h : b < ring.slotAddr s.jrn.put ∨ ring.slotAddr s.jrn.put + 32 ≤ b) : (journalWrite ring r rest s).read b = s.read b := by
  rw [journalWrite_read r rest wf, if_neg (by omega), if_neg (by omega)]

theorem journalWrite_running (r : Record) (rest : List Record) : (journalWrite ring r rest s).running = s.running := rfl

/-- With no record waiting an examination does nothing. -/
theorem journalExamine_empty (empty : s.jrn.queue = []) : journalExamine s = s := by
  unfold journalExamine
  split
  · rw [journalDrain.eq_2]
    split
    · next waits => rw [empty] at waits; cases waits
    · rfl
  · rfl

theorem journalExamine_starved {r : Record} {rest : List Record} (running : s.ctl.part = .running) (cfg : s.cfg.journal = some ring)
    (queue : s.jrn.queue = r :: rest) (kept : s.read (ring.slotAddr s.jrn.put) ≠ 1) :
    journalExamine s = notify .starved (s.setJrn { s.jrn with poll := some s.cfg.poll }) := by
  unfold journalExamine
  rw [if_pos (Requests.running_eq_true.2 running), journalDrain.eq_2]
  simp only [cfg, queue]
  exact if_neg kept

theorem journalExamine_lent {r : Record} {rest : List Record} (running : s.ctl.part = .running) (cfg : s.cfg.journal = some ring)
    (queue : s.jrn.queue = r :: rest) (lent : s.read (ring.slotAddr s.jrn.put) = 1) :
    journalExamine s = journalExamine (journalWrite ring r rest s) := by
  have on := Requests.running_eq_true.2 running
  rw [journalExamine, if_pos on, journalDrain.eq_2]
  simp only [cfg, queue]
  rw [if_pos lent, journalExamine, journalWrite_running, if_pos on]
  rfl

theorem journalExamine_noRing (cfg : s.cfg.journal = none) : journalExamine s = s := by
  unfold journalExamine
  split
  · rw [journalDrain.eq_2]
    split
    · next ring _ _ h _ => rw [cfg] at h; cases h
    · rfl
  · rfl

theorem journalExamine_idle (idle : s.ctl.part ≠ .running) : journalExamine s = s :=
  if_neg fun on => idle (Requests.running_eq_true.1 on)

end Journal

/-- Settles O29. -/
theorem recordsAreQueuedWrittenOrCounted : Obligations.RecordsAreQueuedWrittenOrCounted := by
  unfold Obligations.RecordsAreQueuedWrittenOrCounted
  intro rec s wf joined
  have join : s.jrn.queue.length < 32 → emit rec s = if s.jrn.queue = [] then journalExamine joined else joined := fun room =>
    if_pos room
  refine ⟨fun full => if_neg (Nat.not_lt.2 full), fun room why => ?_, fun ring empty running cfg => ?_⟩
  · rw [join room]
    split
    · next empty =>
      rcases why with waits | idle | noRing
      · exact absurd empty waits
      · exact journalExamine_idle (s := joined) idle
      · exact journalExamine_noRing (s := joined) noRing
    · rfl
  · have queue : joined.jrn.queue = rec :: [] := by simp [joined, empty]
    have examined : emit rec s = journalExamine joined := (join (by rw [empty]; decide)).trans (if_pos empty)
    intro a t
    refine ⟨fun kept => examined.trans (journalExamine_starved (s := joined) running cfg queue kept), fun lent => ?_⟩
    have written : t = journalWrite ring rec [] joined := by
      show emit rec s = _
      rw [examined, journalExamine_lent (s := joined) running cfg queue lent]
      exact journalExamine_empty rfl
    have read : ∀ b, t.read b = if b = a then 0 else if a < b ∧ b < a + 32 then (rec.body s.jrn.gap).getD (b - (a + 1)) 0 else s.read b :=
      fun b => by rw [written]; exact journalWrite_read (s := joined) rec [] wf b
    have field : ∀ j, j < 31 → t.read (a + (j + 1)) = (rec.body s.jrn.gap).getD j 0 := fun j h => by
      rw [read, if_neg (by omega), if_pos (by omega)]
      congr 1
      omega
    refine ⟨by rw [read, if_pos rfl], field 0 (by decide), field 1 (by decide), field 2 (by decide), field 3 (by decide),
      field 4 (by decide), ?_, ?_, ?_, fun j h => ?_, fun b h => ?_, by rw [written]; rfl, fun f => ?_, ?_⟩
    · rw [State.readHalf]
      show (t.read (a + (5 + 1))).toNat + 256 * (t.read (a + (6 + 1))).toNat = _
      rw [field 5 (by decide), field 6 (by decide)]
      exact half_of_bytes _
    · rw [State.readWord]
      show (t.read (a + (7 + 1))).toNat + 256 * (t.read (a + (8 + 1))).toNat + 65536 * (t.read (a + (9 + 1))).toNat +
        16777216 * (t.read (a + (10 + 1))).toNat = _
      rw [field 7 (by decide), field 8 (by decide), field 9 (by decide), field 10 (by decide)]
      exact word_of_bytes _
    · rw [State.readWord]
      show (t.read (a + (11 + 1))).toNat + 256 * (t.read (a + (12 + 1))).toNat + 65536 * (t.read (a + (13 + 1))).toNat +
        16777216 * (t.read (a + (14 + 1))).toNat = _
      rw [field 11 (by decide), field 12 (by decide), field 13 (by decide), field 14 (by decide)]
      exact word_of_bytes _
    · have at_ := field (15 + j) (by omega)
      rw [show a + (15 + j + 1) = a + 16 + j by omega] at at_
      rw [at_, Nat.add_comm]
      rfl
    · rw [read, if_neg (by omega), if_neg (by omega)]
    · rw [written]; exact journalWrite_flagSet (s := joined) rec [] f
    · rw [written]; rfl

/-- Settles O30. -/
theorem journalExamination : Obligations.JournalExamination := by
  unfold Obligations.JournalExamination
  intro s ring head rest running up cfg queue poll wf a
  have taken : exec .journalPollExpiry s = .next (journalExamine s) := by
    simp only [exec, execJournalPollExpiry, whileUp, up, journalPollOut, poll, if_true, Bool.false_eq_true, if_false]
  refine ⟨fun kept => ?_, fun lent => ⟨_, ?_, rfl, rfl, ?_, fun b h => ?_, ?_, fun last => ?_⟩⟩
  · rw [taken, journalExamine_starved running cfg queue kept]
  · rw [taken, journalExamine_lent running cfg queue lent]
  · exact (journalWrite_read head rest wf a).trans (if_pos rfl)
  · exact journalWrite_outside head rest wf h
  · rw [journalWrite_flagSet]; simp
  · exact journalExamine_empty last

/-! ## Batch records and counts -/

theorem byteAt_eq_ofNat {bs : List Byte} {i n : Nat} (h : n < 256) : byteAt bs i = BitVec.ofNat 8 n ↔ (bs.getD i 0).toNat = n := by
  constructor
  · intro e
    show (byteAt bs i).toNat = n
    rw [e, BitVec.toNat_ofNat, Nat.mod_eq_of_lt h]
  · intro e
    apply BitVec.eq_of_toNat_eq
    rw [BitVec.toNat_ofNat, Nat.mod_eq_of_lt h]
    exact e

/-- A PUT record with its fields in range. -/
theorem parseRecord_put {bs : List Byte} (key : keyPasses (keyAt bs 16) = true) (action : byteAt bs 0 = 1)
    (tier : (byteAt bs 2).toNat < 4) (profile : (byteAt bs 3).toNat < 32) (returns : (byteAt bs 4).toNat < 16) :
    parseRecord bs =
      some (.put (keyAt bs 16) ⟨(byteAt bs 1).getLsbD 0, ⟨_, tier⟩, ⟨_, profile⟩, ⟨_, returns⟩, halfAt bs 6, wordAt bs 8⟩) := by
  unfold parseRecord
  simp only [key, action, tierOf, profileOf, returnsOf, tier, profile, returns, dite_true]
  rfl

theorem parseRecord_none {bs : List Byte} (drop : ¬(keyPasses (keyAt bs 16) = true ∧ byteAt bs 0 = 2))
    (put : ¬(keyPasses (keyAt bs 16) = true ∧ byteAt bs 0 = 1 ∧ (byteAt bs 2).toNat ≤ 3 ∧ (byteAt bs 3).toNat ≤ 31 ∧
      (byteAt bs 4).toNat ≤ 15)) : parseRecord bs = none := by
  unfold parseRecord
  simp only
  split
  · rfl
  · next key =>
    have key : keyPasses (keyAt bs 16) = true := by simpa using key
    rw [if_neg fun e => drop ⟨key, e⟩]
    split
    · next action =>
      split
      · next tier profile returns =>
        unfold tierOf at tier
        unfold profileOf at profile
        unfold returnsOf at returns
        split at tier
        · split at profile
          · split at returns
            · exact absurd ⟨key, action, by omega, by omega, by omega⟩ put
            · cases returns
          · cases profile
        · cases tier
      · rfl
    · rfl

theorem batchOffset_eq (d : Desc) :
    d.batchOffset = (d.byte 0).toNat + 256 * (d.byte 1).toNat + 65536 * (d.byte 2).toNat + 16777216 * (d.byte 3).toNat := by
  unfold Desc.batchOffset wordAt
  rw [Credentials.wordOf_toNat]
  simp only [Desc.byte, Nat.zero_add]
  omega

/-- Settles O28. -/
theorem batchRecordsAndCounts : Obligations.BatchRecordsAndCounts := by
  unfold Obligations.BatchRecordsAndCounts
  refine ⟨?records, ?places, ?counts⟩
  case places =>
    intro s d n offset
    rw [State.batchRecord, batchOffset_eq]
    rfl
  case counts =>
    intro c fields top
    have total : ∀ n : Nat, (byteOf (BitVec.ofNat 32 n) 0).toNat + 256 * (byteOf (BitVec.ofNat 32 n) 1).toNat +
        65536 * (byteOf (BitVec.ofNat 32 n) 2).toNat + 16777216 * (byteOf (BitVec.ofNat 32 n) 3).toNat = n % 4294967296 := fun n => by
      rw [word_of_bytes, BitVec.toNat_ofNat]
    refine ⟨rfl, rfl, fun j h => ?_, fun t => rfl⟩
    interval_cases j <;> exact ⟨half_of_bytes _, total _⟩
  case records =>
    intro bs b n key drop put
    refine ⟨fun h => ?_, fun h => ?_, fun noDrop noPut => ?_⟩
    · have action : byteAt bs 0 = 2 := (byteAt_eq_ofNat (by decide)).2 h.2
      have passes : keyPasses (keyAt bs 16) = true := h.1
      unfold parseRecord
      simp only [passes, action]
      rfl
    · obtain ⟨passes, action, tier, profile, returns⟩ := h
      refine ⟨_, parseRecord_put passes ((byteAt_eq_ofNat (by decide)).2 action) (by exact Nat.lt_succ_of_le tier)
        (by exact Nat.lt_succ_of_le profile) (by exact Nat.lt_succ_of_le returns), ?_, rfl, rfl, rfl, halfOf_toNat _ _, ?_⟩
      · show (b 1).getLsbD 0 = true ↔ _
        rw [BitVec.getLsbD, Nat.testBit_zero, decide_eq_true_iff]
      · show (wordAt bs 8).toNat = _
        rw [wordAt, Credentials.wordOf_toNat]
        simp only [byteAt, n, b, Nat.reduceAdd]
        omega
    · refine parseRecord_none (fun h => noDrop ⟨h.1, (byteAt_eq_ofNat (by decide)).1 h.2⟩) fun h => noPut ?_
      obtain ⟨passes, action, ranges⟩ := h
      exact ⟨passes, (byteAt_eq_ofNat (by decide)).1 action, ranges⟩

end Sys2Proof.Proofs.Bytes
end

section
/-! PROOFS. What a lookup finds and where it fails (O31), and what an insert, a drop and a write in place change (O32). -/

namespace Sys2Proof.Proofs.Table

open Sys2Proof Sys2Proof.Machine

/-! ## A walk over the words of a bucket -/

/-- How a walk over words ends. -/
inductive WalkEnd where
  | found (word : TableWord) (entry : Entry)
  | absent
  | failed

/-- A walk for a key over words in the order in which they are read (R22, R26). -/
def scanWords (t : TableMemory) (key : Key) : List (TableWord × Option Entry) → WalkEnd
  | [] => .absent
  | (w, none) :: rest => if t.fails w then .failed else scanWords t key rest
  | (w, some e) :: rest => if t.fails w then .failed else if e.key = key then .found w e else scanWords t key rest

/-- How a lookup's walk ended. -/
def walkEnd : Lookup → WalkEnd
  | .found loc e => .found loc.word e
  | .absent => .absent
  | .failed => .failed

section Walk

variable {t : TableMemory} {b : Nat} {key : Key}

theorem scanWords_append (l r : List (TableWord × Option Entry)) :
    scanWords t key (l ++ r) =
      match scanWords t key l with
      | .absent => scanWords t key r
      | .found w e => .found w e
      | .failed => .failed := by
  induction l with
  | nil => rfl
  | cons x l ih =>
    obtain ⟨w, e⟩ := x
    cases e with
    | none =>
      simp only [List.cons_append, scanWords]
      split
      · rfl
      · exact ih
    | some e =>
      simp only [List.cons_append, scanWords]
      split
      · rfl
      · split
        · rfl
        · exact ih

theorem scanSlots_scanWords (is : List (Fin 4)) :
    ((scanSlots t b key is).map walkEnd).getD .absent =
      scanWords t key (is.map (fun i => (TableWord.slot b i, (t.bucket b).slots.get i))) := by
  induction is with
  | nil => rfl
  | cons i is ih =>
    cases slot : (t.bucket b).slots.get i with
    | none =>
      simp only [scanSlots, List.map_cons, slot, scanWords]
      split
      · rfl
      · exact ih
    | some e =>
      simp only [scanSlots, List.map_cons, slot, scanWords]
      split
      · rfl
      · split
        · rfl
        · exact ih

theorem scanSlots_ne_absent (is : List (Fin 4)) : scanSlots t b key is ≠ some .absent := by
  induction is with
  | nil => simp [scanSlots]
  | cons i is ih =>
    unfold scanSlots
    split
    · simp
    · split
      · split
        · simp
        · exact ih
      · exact ih

theorem scanChain_scanWords (c : List (Nat × Entry)) :
    walkEnd (scanChain t b key c) = scanWords t key (c.map (fun x => (TableWord.place x.1, some x.2))) := by
  induction c with
  | nil => rfl
  | cons x c ih =>
    simp only [scanChain, List.map_cons, scanWords]
    split
    · rfl
    · split
      · rfl
      · exact ih

/-- A lookup ends as the walk over the words that R22 gives. -/
theorem lookup_scanWords (t : TableMemory) (b : Nat) (key : Key) : walkEnd (t.lookup b key) = scanWords t key (t.reads b) := by
  have slots := scanSlots_scanWords (t := t) (b := b) (key := key) slotOrder
  have reads : t.reads b =
      slotOrder.map (fun i => (TableWord.slot b i, (t.bucket b).slots.get i)) ++
        ((TableWord.head b, none) :: (t.bucket b).chain.map (fun c => (TableWord.place c.1, some c.2))) := rfl
  rw [reads, scanWords_append, ← slots]
  unfold TableMemory.lookup
  have present := scanSlots_ne_absent (t := t) (b := b) (key := key) slotOrder
  cases scan : scanSlots t b key slotOrder with
  | none =>
    simp only [Option.map_none, Option.getD_none, scanWords, ← scanChain_scanWords (b := b)]
    split <;> rfl
  | some r =>
    cases r with
    | found loc e => rfl
    | failed => rfl
    | absent => exact absurd scan present

/-- A walk fails exactly at a damaged word that it comes to. -/
theorem scanWords_failed_iff (l : List (TableWord × Option Entry)) :
    scanWords t key l = .failed ↔
      ∃ before w e rest, l = before ++ (w, e) :: rest ∧ (∀ x ∈ before, ∀ y, x.2 = some y → y.key ≠ key) ∧ w ∈ t.damaged := by
  induction l with
  | nil => simp [scanWords]
  | cons x l ih =>
    obtain ⟨w, e⟩ := x
    have fails : t.fails w = true ↔ w ∈ t.damaged := decide_eq_true_iff
    have first : (w ∈ t.damaged) → ∃ before v f rest, (w, e) :: l = before ++ (v, f) :: rest ∧
        (∀ x ∈ before, ∀ y, x.2 = some y → y.key ≠ key) ∧ v ∈ t.damaged :=
      fun h => ⟨[], w, e, l, rfl, fun _ hx => (by cases hx), h⟩
    have later : (∀ y, e = some y → y.key ≠ key) → (∃ before v f rest, l = before ++ (v, f) :: rest ∧
        (∀ x ∈ before, ∀ y, x.2 = some y → y.key ≠ key) ∧ v ∈ t.damaged) → ∃ before v f rest, (w, e) :: l = before ++ (v, f) :: rest ∧
        (∀ x ∈ before, ∀ y, x.2 = some y → y.key ≠ key) ∧ v ∈ t.damaged := by
      rintro pass ⟨before, v, f, rest, eq, other, bad⟩
      refine ⟨(w, e) :: before, v, f, rest, by rw [eq, List.cons_append], fun x hx => ?_, bad⟩
      rcases List.mem_cons.1 hx with rfl | hx
      · exact pass
      · exact other x hx
    have tail : w ∉ t.damaged → (∃ before v f rest, (w, e) :: l = before ++ (v, f) :: rest ∧
        (∀ x ∈ before, ∀ y, x.2 = some y → y.key ≠ key) ∧ v ∈ t.damaged) → (∀ y, e = some y → y.key ≠ key) ∧
        ∃ before v f rest, l = before ++ (v, f) :: rest ∧ (∀ x ∈ before, ∀ y, x.2 = some y → y.key ≠ key) ∧ v ∈ t.damaged := by
      rintro good ⟨before, v, f, rest, eq, other, bad⟩
      cases before with
      | nil => cases eq; exact absurd bad good
      | cons x before =>
        cases eq
        exact ⟨other _ List.mem_cons_self, before, v, f, rest, rfl, fun x hx => other x (List.mem_cons_of_mem _ hx), bad⟩
    cases e with
    | none =>
      rw [scanWords]
      by_cases bad : w ∈ t.damaged
      · rw [if_pos (fails.2 bad)]
        exact ⟨fun _ => first bad, fun _ => rfl⟩
      · rw [if_neg (fun h => bad (fails.1 h)), ih]
        exact ⟨later (fun _ h => by cases h), fun h => (tail bad h).2⟩
    | some y =>
      rw [scanWords]
      by_cases bad : w ∈ t.damaged
      · rw [if_pos (fails.2 bad)]
        exact ⟨fun _ => first bad, fun _ => rfl⟩
      · rw [if_neg (fun h => bad (fails.1 h))]
        by_cases same : y.key = key
        · rw [if_pos same]
          exact ⟨fun h => (by cases h), fun h => absurd same ((tail bad h).1 y rfl)⟩
        · rw [if_neg same, ih]
          exact ⟨later (fun z h => by cases h; exact same), fun h => (tail bad h).2⟩

/-- A walk that finds an entry came to its word with no entry of the key before it. -/
theorem scanWords_found {l : List (TableWord × Option Entry)} {w : TableWord} {e : Entry} (h : scanWords t key l = .found w e) :
    w ∉ t.damaged ∧ ∃ before rest, l = before ++ (w, some e) :: rest ∧ ∀ x ∈ before, ∀ y, x.2 = some y → y.key ≠ key := by
  induction l with
  | nil => cases h
  | cons x l ih =>
    obtain ⟨v, f⟩ := x
    have step : scanWords t key l = .found w e → (∀ y, f = some y → y.key ≠ key) →
        w ∉ t.damaged ∧ ∃ before rest, (v, f) :: l = before ++ (w, some e) :: rest ∧ ∀ x ∈ before, ∀ y, x.2 = some y → y.key ≠ key := by
      intro h pass
      obtain ⟨good, before, rest, eq, other⟩ := ih h
      refine ⟨good, (v, f) :: before, rest, by rw [eq, List.cons_append], fun x hx => ?_⟩
      rcases List.mem_cons.1 hx with rfl | hx
      · exact pass
      · exact other x hx
    cases f with
    | none =>
      rw [scanWords] at h
      split at h
      · cases h
      · exact step h (fun _ hy => by cases hy)
    | some y =>
      rw [scanWords] at h
      split at h
      · cases h
      · next good =>
        split at h
        · cases h
          exact ⟨by simpa [TableMemory.fails] using good, [], l, rfl, fun _ hx => by cases hx⟩
        · next other => exact step h (fun z hz => by cases hz; exact other)

/-- A walk ends absent exactly where no word holds the key and none is damaged. -/
theorem scanWords_absent_iff (l : List (TableWord × Option Entry)) :
    scanWords t key l = .absent ↔ ∀ x ∈ l, x.1 ∉ t.damaged ∧ ∀ y, x.2 = some y → y.key ≠ key := by
  induction l with
  | nil => simp [scanWords]
  | cons x l ih =>
    obtain ⟨w, e⟩ := x
    rw [List.forall_mem_cons, ← ih]
    cases e with
    | none => by_cases bad : w ∈ t.damaged <;> simp [scanWords, TableMemory.fails, bad]
    | some y => by_cases bad : w ∈ t.damaged <;> by_cases same : y.key = key <;> simp [scanWords, TableMemory.fails, bad, same]

theorem stores_iff_reads {e : Entry} : t.Stores b e ↔ ∃ x ∈ t.reads b, x.2 = some e := by
  have slots : (∃ i, (t.bucket b).slots.get i = some e) ↔
      (t.bucket b).slots.get 0 = some e ∨ (t.bucket b).slots.get 1 = some e ∨ (t.bucket b).slots.get 2 = some e ∨
        (t.bucket b).slots.get 3 = some e := by simp [Fin.exists_fin_succ]
  rw [TableMemory.Stores, mem_entries_iff, slots]
  simp [TableMemory.reads, or_assoc]

end Walk

/-- Settles O31: a lookup is the walk of `scanWords` over the bucket's words. -/
theorem lookupFindsTheStoredEntry : Obligations.LookupFindsTheStoredEntry := by
  unfold Obligations.LookupFindsTheStoredEntry
  intro t b key
  have walk := lookup_scanWords t b key
  refine ⟨?_, fun loc e found => ?_, ?_⟩
  · have failed : t.lookup b key = .failed ↔ scanWords t key (t.reads b) = .failed := by
      rw [← walk]
      cases t.lookup b key <;> simp [walkEnd]
    rw [failed, scanWords_failed_iff]
    constructor
    · rintro ⟨before, w, e, rest, eq, other, bad⟩
      exact ⟨w, e, ⟨before, rest, eq, other⟩, bad⟩
    · rintro ⟨w, e, ⟨before, rest, eq, other⟩, bad⟩
      exact ⟨before, w, e, rest, eq, other, bad⟩
  · rw [found] at walk
    obtain ⟨good, reaches⟩ := scanWords_found walk.symm
    obtain ⟨same, place⟩ := lookup_eq_found found
    refine ⟨same, ?_, fun distinct => (entryAt_of_lookup distinct found).2.1, ?_, reaches, good⟩
    · rw [TableMemory.Stores, mem_entries_iff]
      rcases place with ⟨i, -, slot⟩ | ⟨p, -, linked⟩
      · exact .inl ⟨i, slot⟩
      · exact .inr ⟨_, linked, rfl⟩
    · rcases place with ⟨i, at_, -⟩ | ⟨p, at_, -⟩
      · exact .inl ⟨i, at_⟩
      · exact .inr ⟨p, at_⟩
  · have absent : t.lookup b key = .absent ↔ scanWords t key (t.reads b) = .absent := by
      rw [← walk]
      cases t.lookup b key <;> simp [walkEnd]
    rw [absent, scanWords_absent_iff]
    constructor
    · intro h
      refine ⟨fun e stored => ?_, fun x hx => (h x hx).1⟩
      obtain ⟨x, hx, holds⟩ := stores_iff_reads.1 stored
      exact (h x hx).2 e holds
    · rintro ⟨other, good⟩ x hx
      exact ⟨good x hx, fun y holds => other y (stores_iff_reads.2 ⟨x, hx, holds⟩)⟩

/-! ## Inserts, drops and writes in place -/

section Changes

variable {t : TableMemory} {b : Nat} {x : Bucket}

theorem emptySlot_of_first {i : Fin 4} (empty : x.slots.get i = none) (before : ∀ j, j < i → x.slots.get j ≠ none) :
    x.emptySlot = some i := by
  have occupied : ∀ j, j < i → (x.slots.get j).isNone = false := fun j h => by
    simpa using Option.isSome_iff_ne_none.2 (before j h)
  have free : (x.slots.get i).isNone = true := by rw [empty]; rfl
  unfold Bucket.emptySlot slotOrder
  fin_cases i
  · exact List.find?_cons_of_pos free
  · rw [List.find?_cons_of_neg (by simp [occupied 0 (by decide)])]
    exact List.find?_cons_of_pos free
  · rw [List.find?_cons_of_neg (by simp [occupied 0 (by decide)]), List.find?_cons_of_neg (by simp [occupied 1 (by decide)])]
    exact List.find?_cons_of_pos free
  · rw [List.find?_cons_of_neg (by simp [occupied 0 (by decide)]), List.find?_cons_of_neg (by simp [occupied 1 (by decide)]),
      List.find?_cons_of_neg (by simp [occupied 2 (by decide)])]
    exact List.find?_cons_of_pos free

theorem emptySlot_eq_none_iff : x.emptySlot = none ↔ ∀ i, x.slots.get i ≠ none := by
  have every : ∀ i : Fin 4, i ∈ slotOrder := by decide
  unfold Bucket.emptySlot
  rw [List.find?_eq_none]
  refine ⟨fun h i => by simpa using h i (every i), fun h i _ => by simpa using h i⟩

theorem fails_iff (w : TableWord) : t.fails w = true ↔ w ∈ t.damaged := decide_eq_true_iff

/-- A write of another entry at a location reads back there and leaves every other location of the bucket. -/
theorem entryIn_written_same {l : Location} {e : Entry} (at_ : entryIn x l ≠ none) : entryIn (written x l e) l = some e := by
  cases l with
  | main c i => exact (vector_get_set _ _ _ _).trans (if_pos rfl)
  | overflow c p =>
    rw [entryIn_overflow] at at_
    show ((x.chain.map (fun c => if c.1 = p then (p, e) else c)).find? (fun c => decide (c.1 = p))).map Prod.snd = some e
    generalize x.chain = cs at at_ ⊢
    induction cs with
    | nil => exact absurd rfl at_
    | cons c cs ih =>
      by_cases same : c.1 = p
      · simp [same]
      · simp only [List.map_cons, if_neg same]
        rw [List.find?_cons_of_neg (by simpa using same)] at at_ ⊢
        exact ih at_

theorem entryIn_written_other {l m : Location} {e : Entry} (bucket : bucketOf m = bucketOf l) (ne : m ≠ l) :
    entryIn (written x l e) m = entryIn x m := by
  cases l with
  | main c i =>
    cases m with
    | main c' j =>
      have other : j ≠ i := fun h => ne (by rw [h, show c' = c from bucket])
      exact (vector_get_set _ _ _ _).trans (if_neg other)
    | overflow c' q => rfl
  | overflow c p =>
    cases m with
    | main c' j => rfl
    | overflow c' q =>
      have other : q ≠ p := fun h => ne (by rw [h, show c' = c from bucket])
      show ((x.chain.map (fun c => if c.1 = p then (p, e) else c)).find? (fun c => decide (c.1 = q))).map Prod.snd =
        (x.chain.find? (fun c => decide (c.1 = q))).map Prod.snd
      rw [List.find?_map]
      have same_test : ((fun c : Nat × Entry => decide (c.1 = q)) ∘ fun c : Nat × Entry => if c.1 = p then (p, e) else c) =
          fun c => decide (c.1 = q) := by
        funext c
        by_cases h : c.1 = p
        · simp [h]
        · simp [h]
      rw [same_test, Option.map_map]
      cases found : x.chain.find? (fun c => decide (c.1 = q)) with
      | none => rfl
      | some c =>
        have at_ : c.1 = q := by simpa using List.find?_some found
        simp [at_, other]

end Changes

/-- Settles O32. -/
theorem insertAndDropMoveOnePlace : Obligations.InsertAndDropMoveOnePlace := by
  unfold Obligations.InsertAndDropMoveOnePlace
  intro t b e wf x kept fails
  have bucket : ∀ (t' : TableMemory) (y : Bucket), t'.buckets = t.buckets → ∀ c, (t'.setBucket b y).bucket c =
      if c = b then y else t.bucket c := fun t' y same c => by
    rw [bucket_setBucket (same ▸ wf)]
    simp only [TableMemory.bucket, same]
  have here : ∀ (t' : TableMemory) (y : Bucket), t'.buckets = t.buckets → (t'.setBucket b y).bucket b = y := fun t' y same => by
    rw [bucket t' y same, if_pos rfl]
  have keep : ∀ (free : List Nat) (y : Bucket), kept ({ t with free := free }.setBucket b y) := fun free y =>
    ⟨fun c h => by rw [bucket { t with free := free } y rfl, if_neg h], rfl, rfl, rfl⟩
  have full_bucket : (∀ i, x.slots.get i ≠ none) → t.insert b e =
      if t.fails .freeHead then .failed
      else match t.free with
        | [] => .full
        | p :: rest => if t.fails (.place p) then .failed
          else .written ({ t with free := rest }.setBucket b { x with chain := x.chain ++ [(p, e)] }) := fun full => by
    have none_empty : (t.bucket b).emptySlot = none := emptySlot_eq_none_iff.2 full
    simp only [TableMemory.insert, none_empty]
    rfl
  refine ⟨fun i empty first => ?_, fun full good => ⟨fun none_free => ?_, fun p rest free => ?_⟩, ?_, fun i => ?_, fun p good => ?_,
    fun p => ?_, fun loc w at_ place => ?_⟩
  · refine ⟨t.setBucket b { x with slots := x.slots.set i.val (some e) i.isLt }, ?_, ?_, fun j ne => ?_, ?_, rfl, keep t.free _⟩
    · have slot : (t.bucket b).emptySlot = some i := emptySlot_of_first empty first
      simp only [TableMemory.insert, slot]
      rfl
    · rw [here t _ rfl]; exact (vector_get_set _ _ _ _).trans (if_pos rfl)
    · rw [here t _ rfl]; exact (vector_get_set _ _ _ _).trans (if_neg ne)
    · rw [here t _ rfl]
  · rw [full_bucket full, if_neg fun h => good (.inl ((fails_iff _).1 h)), none_free]
  · refine ⟨_, ?_, here { t with free := rest } ⟨x.slots, x.chain ++ [(p, e)]⟩ rfl, rfl, keep rest _⟩
    rw [full_bucket full, if_neg fun h => good (.inl ((fails_iff _).1 h)), free]
    exact if_neg fun h => good (.inr ⟨p, rest, free, (fails_iff _).1 h⟩)
  · constructor
    · intro failed
      have full : ∀ i, x.slots.get i ≠ none := by
        rw [← emptySlot_eq_none_iff]
        cases slot : x.emptySlot with
        | none => rfl
        | some i =>
          have slot' : (t.bucket b).emptySlot = some i := slot
          simp only [TableMemory.insert, slot'] at failed
          cases failed
      refine ⟨full, ?_⟩
      rw [full_bucket full] at failed
      split at failed
      · next bad => exact .inl ((fails_iff _).1 bad)
      · split at failed
        · cases failed
        · next p rest free =>
          split at failed
          · next bad => exact .inr ⟨p, rest, free, (fails_iff _).1 bad⟩
          · cases failed
    · rintro ⟨full, bad⟩
      rw [full_bucket full]
      split
      · rfl
      · next head =>
        obtain ⟨p, rest, free, bad⟩ := bad.resolve_left fun h => head ((fails_iff _).2 h)
        rw [free]
        exact if_pos ((fails_iff _).2 bad)
  · refine ⟨t.setBucket b { x with slots := x.slots.set i.val none i.isLt }, rfl, ?_, fun j ne => ?_, ?_, rfl, keep t.free _⟩
    · rw [here t _ rfl]; exact (vector_get_set _ _ _ _).trans (if_pos rfl)
    · rw [here t _ rfl]; exact (vector_get_set _ _ _ _).trans (if_neg ne)
    · rw [here t _ rfl]
  · refine ⟨{ t with free := p :: t.free }.setBucket b { x with chain := x.chain.filter (fun c => decide (c.1 ≠ p)) }, ?_, ?_, ?_, rfl,
      keep (p :: t.free) _⟩
    · exact if_neg fun h => good ((fails_iff _).1 h)
    · rw [here { t with free := p :: t.free } _ rfl]
    · rw [here { t with free := p :: t.free } _ rfl]
  · rw [← fails_iff]
    simp only [TableMemory.drop]
    split
    · next bad => exact ⟨fun _ => bad, fun _ => rfl⟩
    · next good => exact ⟨fun h => (by cases h), fun h => absurd h good⟩
  · intro u
    have loc_bucket : bucketOf loc = b := by rcases place with ⟨i, rfl⟩ | ⟨p, rfl⟩ <;> rfl
    have eq : u = t.setBucket b (written x loc w) := by
      have written_eq := writeEntry_eq t loc w
      rw [loc_bucket] at written_eq
      exact written_eq
    have entry : t.entryAt loc = entryIn x loc := by rw [entryAt_eq, loc_bucket]
    rw [eq]
    refine ⟨?_, fun m ne => ?_, ?_, rfl, keep t.free _⟩
    · rw [entryAt_setBucket wf, if_pos loc_bucket]
      exact entryIn_written_same (by rwa [← entry])
    · rw [entryAt_setBucket wf]
      split
      · next same =>
        rw [entryIn_written_other (same.trans loc_bucket.symm) ne, entryAt_eq, same]
      · rfl
    · rw [here t _ rfl]
      exact places_written loc w

end Sys2Proof.Proofs.Table
end

section
/-! PROOFS. The writes of a return (O26), and the evaluation of a zone's monitors at an occupancy change (O25). -/

namespace Sys2Proof.Proofs.Returns

open Sys2Proof Sys2Proof.Machine Sys2Proof.Proofs.Keeping Sys2Proof.Proofs.Registers Sys2Proof.Proofs.Bytes

/-! ## The results over the payload -/

section Overlay

variable {a : Nat}

/-- The memory after the results of a reply are written over the payload at `a`. -/
def overlaid (a : Nat) (o : List (Nat × List Byte)) (m : List Host.Cell) : List Host.Cell :=
  o.foldl (fun m w => Memory.writeBytes m (a + 8 + w.1) w.2) m

theorem foldl_writeBytes_xmem (o : List (Nat × List Byte)) (s : State) :
    (o.foldl (fun t w => t.writeBytes (a + 8 + w.1) w.2) s).xmem = overlaid a o s.xmem := by
  induction o generalizing s with
  | nil => rfl
  | cons w o ih => exact ih _

theorem overlaid_wf (o : List (Nat × List Byte)) {m : List Host.Cell} (wf : Memory.wf m) : Memory.wf (overlaid a o m) := by
  induction o generalizing m with
  | nil => exact wf
  | cons w o ih => exact ih (Memory.writeBytes_wf _ _ _ wf)

/-- A byte that no run covers reads as before. -/
theorem read_overlaid_outside (o : List (Nat × List Byte)) (m : List Host.Cell) {b : Nat}
    (outside : ∀ w ∈ o, b < a + 8 + w.1 ∨ a + 8 + w.1 + w.2.length ≤ b) : Memory.read (overlaid a o m) b = Memory.read m b := by
  induction o generalizing m with
  | nil => rfl
  | cons w o ih =>
    refine (ih (Memory.writeBytes m (a + 8 + w.1) w.2) fun x hx => outside x (List.mem_cons_of_mem _ hx)).trans ?_
    exact Memory.read_writeBytes_outside _ _ _ _ (outside w List.mem_cons_self)

/-- Each of the runs, which stand one after the other, reads back. -/
theorem read_overlaid_inside (o : List (Nat × List Byte)) {m : List Host.Cell} (wf : Memory.wf m)
    (ordered : o.Pairwise (fun v w => v.1 + v.2.length ≤ w.1)) {w : Nat × List Byte} (mem : w ∈ o) {j : Nat} (hj : j < w.2.length) :
    Memory.read (overlaid a o m) (a + 8 + w.1 + j) = w.2.getD j 0 := by
  induction o generalizing m with
  | nil => cases mem
  | cons x o ih =>
    obtain ⟨later, ordered⟩ := List.pairwise_cons.1 ordered
    rcases List.mem_cons.1 mem with rfl | mem
    · refine (read_overlaid_outside o _ fun y hy => .inl ?_).trans ?_
      · have := later y hy
        omega
      · rw [read_writeBytes _ _ _ wf, if_pos (by omega), show a + 8 + w.1 + j - (a + 8 + w.1) = j by omega]
    · exact ih (Memory.writeBytes_wf _ _ _ wf) ordered mem

end Overlay

/-! ## The writes of a return -/

section Return

variable {flag : NoticeFlag} {a : Nat} {n : Bool} {r : Reply} {s : State}

/-- The memory after a return's status, result area and results, before the owner mark. -/
def answered (a : Nat) (r : Reply) (m : List Host.Cell) : List Host.Cell :=
  overlaid a r.overlay (Memory.writeBytes (Memory.writeBytes m (a + 7) [r.status.code]) (a + 48) (padTo 16 r.result))

theorem writeReturn_xmem (owned : s.read a = 1) : (writeReturn flag a n r s).xmem = Memory.write (answered a r s.xmem) a 0 := by
  have memory : ∀ t : State, (if n = true then notify flag t else t).xmem = t.xmem := fun t => by cases n <;> rfl
  unfold writeReturn
  rw [if_pos owned, memory, State.writeBytes_xmem, foldl_writeBytes_xmem]
  rfl

theorem answered_wf (wf : Memory.wf s.xmem) : Memory.wf (answered a r s.xmem) :=
  overlaid_wf _ (Memory.writeBytes_wf _ _ _ (Memory.writeBytes_wf _ _ _ wf))

theorem writeReturn_read (wf : Memory.wf s.xmem) (owned : s.read a = 1) (b : Nat) :
    (writeReturn flag a n r s).read b = if b = a then 0 else Memory.read (answered a r s.xmem) b := by
  rw [State.read_def, writeReturn_xmem owned]
  exact Memory.read_write _ _ _ _ (answered_wf wf)

theorem writeReturn_flagSet (owned : s.read a = 1) (f : NoticeFlag) :
    (writeReturn flag a n r s).flagSet f = (s.flagSet f || (n && decide (f = flag))) := by
  have kept : ∀ t : State, t.ctl = s.ctl →
      (if n = true then notify flag t else t).flagSet f = (s.flagSet f || (n && decide (f = flag))) := fun t same => by
    cases n with
    | false =>
      show t.ctl.notice.getLsbD f.bit = _
      rw [same, Bool.false_and, Bool.or_false]
      rfl
    | true =>
      rw [if_pos rfl, notify_flagSet, State.flagSet, same, Bool.true_and]
      rfl
  unfold writeReturn
  rw [if_pos owned]
  refine kept _ ?_
  have overlay_ctl : ∀ (o : List (Nat × List Byte)) (t : State),
      (o.foldl (fun t w => t.writeBytes (a + 8 + w.1) w.2) t).ctl = t.ctl := fun o => by
    induction o with
    | nil => exact fun _ => rfl
    | cons w o ih => exact fun t => ih _
  rw [State.writeBytes, State.setXmem_ctl, overlay_ctl]
  simp only [State.writeBytes, State.setXmem_ctl]

theorem padTo_length (k : Nat) (bs : List Byte) : (padTo k bs).length = k := by simp [padTo]

theorem padTo_getD {k j : Nat} (bs : List Byte) (h : j < k) : (padTo k bs).getD j 0 = bs.getD j 0 := by
  rw [List.getD_eq_getElem _ _ (by rwa [padTo_length])]
  simp [padTo, byteAt]

/-- A byte outside the payload's results reads as the status and the result area leave it. -/
theorem read_answered (wf : Memory.wf s.xmem) {b : Nat}
    (outside : ∀ w ∈ r.overlay, b < a + 8 + w.1 ∨ a + 8 + w.1 + w.2.length ≤ b) :
    Memory.read (answered a r s.xmem) b =
      if a + 48 ≤ b ∧ b < a + 64 then r.result.getD (b - (a + 48)) 0 else if b = a + 7 then r.status.code else s.read b := by
  rw [answered, read_overlaid_outside _ _ outside, read_writeBytes _ _ _ (Memory.writeBytes_wf _ _ _ wf), padTo_length]
  by_cases area : a + 48 ≤ b ∧ b < a + 64
  · rw [if_pos ⟨area.1, by omega⟩, if_pos area, padTo_getD _ (by omega)]
  · rw [if_neg (by omega), if_neg area, read_writeBytes _ _ _ wf]
    by_cases status : b = a + 7
    · rw [if_pos status, if_pos (by simp [status]), status, Nat.sub_self]
      rfl
    · rw [if_neg status, if_neg (by simp only [List.length_singleton]; omega)]
      rfl

/-- A state that a frame of the journal leads to, its journal as before, differs in the memory and NOTICE alone. -/
theorem eq_of_journalFrame {t : State} (f : JournalFrame s t) (jrn : t.jrn = s.jrn) :
    t = (s.setXmem t.xmem).setCtl { s.ctl with notice := t.ctl.notice } := by
  obtain ⟨ctl, clk, cfg, gate, list, tab, adm, holds, lanes, zones, monitors, pending⟩ := f
  cases t
  cases s
  cases clk; cases cfg; cases gate; cases list; cases tab; cases adm; cases holds; cases lanes; cases zones; cases monitors
  cases pending; cases jrn
  simp only [State.setXmem, State.setCtl]
  congr 1

end Return

/-- Settles O26: every write but the owner mark lies beyond the owner mark, and the results lie between status and result area. -/
theorem returnOfADescriptor : Obligations.ReturnOfADescriptor := by
  unfold Obligations.ReturnOfADescriptor
  intro flag a n r s wf short within ordered
  have clear : ∀ b, b < a + 8 ∨ a + 48 ≤ b → ∀ w ∈ r.overlay, b < a + 8 + w.1 ∨ a + 8 + w.1 + w.2.length ≤ b := fun b hb w hw => by
    have := within w hw
    omega
  refine ⟨fun other => if_neg other, fun owned => ?_, fun ring d => ⟨rfl, ?_⟩⟩
  · refine ⟨?_, ?_, fun j hj => ?_, fun w hw j hj => ?_, fun b mark status area payload => ?_, writeReturn_flagSet owned,
      eq_of_journalFrame (writeReturn_frame _ _ _ _ _) (writeReturn_jrn _ _ _ _ _)⟩
    · rw [writeReturn_read wf owned, if_pos rfl]
    · rw [writeReturn_read wf owned, if_neg (by omega), read_answered wf (clear _ (by omega)), if_neg (by omega), if_pos rfl]
    · rw [writeReturn_read wf owned, if_neg (by omega), read_answered wf (clear _ (by omega)), if_pos (by omega),
        show a + 48 + j - (a + 48) = j by omega]
    · rw [writeReturn_read wf owned, if_neg (by omega)]
      exact read_overlaid_inside _ (Memory.writeBytes_wf _ _ _ (Memory.writeBytes_wf _ _ _ wf)) ordered hw hj
    · rw [writeReturn_read wf owned, if_neg mark, read_answered wf payload, if_neg (by omega), if_neg status]
  · unfold listHandBack
    simp only [writeReturn_list]
    rfl

/-! ## Monitors at an occupancy change -/

section Monitors

variable {z : ZoneId} {n : MonitorId} {s : State} {i : LaneId}

/-- A fold of steps that each keep a projection keeps it. -/
theorem foldl_keeps {α β : Type} (p : State → β) (f : State → α → State) (h : ∀ s x, p (f s x) = p s) (l : List α) (s : State) :
    p (l.foldl f s) = p s := by
  induction l generalizing s with
  | nil => rfl
  | cons x l ih => exact (ih _).trans (h s x)

theorem deliverLink_units (k : LinkAction) :
    (deliverLink n k z s).zones = s.zones ∧ (deliverLink n k z s).monitors = s.monitors := by
  unfold deliverLink
  split
  · exact ⟨rfl, rfl⟩
  · next d m _ =>
    refine ⟨foldl_keeps State.zones _ (fun t i => ?_) _ _, foldl_keeps State.monitors _ (fun t i => ?_) _ _⟩
    · split
      · exact (changeMode_laneFrame _ _ _ _).zones
      · rfl
    · split
      · exact (changeMode_laneFrame _ _ _ _).monitors
      · rfl

/-- A lane that a link action does not name stays as it is. -/
theorem deliverLink_lane {k : LinkAction} (unnamed : ∀ d m, k.target = some (d, m) → ¬((s.lane i).zone = z ∧ (s.lane i).direction = d)) :
    (deliverLink n k z s).lane i = s.lane i := by
  unfold deliverLink
  split
  · rfl
  · next d m target =>
    refine List.foldlRecOn (motive := fun t : State => t.lane i = s.lane i) laneOrder _ rfl fun t same j _ => ?_
    split
    · next named =>
      refine ((changeMode_laneFrame _ _ _ _).others i fun h => ?_).trans same
      rw [← h, same] at named
      exact unnamed d m target named
    · exact same

theorem monitorEvent_units (rising : Bool) :
    (monitorEvent n rising s).zones = s.zones ∧ (monitorEvent n rising s).monitors = s.monitors := by
  unfold monitorEvent
  simp only
  split
  · rw [(deliverLink_units _).1, (deliverLink_units _).2, emit_zones, emit_monitors]
    exact ⟨rfl, rfl⟩
  · exact deliverLink_units _

theorem monitorEvent_lane (rising : Bool)
    (unnamed : ∀ d m, (s.monitor n).link.target = some (d, m) →
      ¬((s.lane i).zone = (s.monitor n).zone ∧ (s.lane i).direction = d)) :
    (monitorEvent n rising s).lane i = s.lane i := by
  unfold monitorEvent
  simp only
  split
  · rw [deliverLink_lane (by rwa [emit_lane]), emit_lane]
  · exact deliverLink_lane unnamed

theorem evaluateMonitor_zones : (evaluateMonitor z s n).zones = s.zones := by
  unfold evaluateMonitor
  simp only
  split
  · split
    · exact (monitorEvent_units _).1
    · rfl
  · rfl

/-- An evaluation changes its monitor alone. -/
theorem evaluateMonitor_monitor (m : MonitorId) :
    (evaluateMonitor z s n).monitor m =
      if m = n ∧ (s.monitor n).enable = true ∧ (s.monitor n).zone = z then (s.monitor n).evaluate (s.zone z).occupancy
      else s.monitor m := by
  have set : ∀ x, (s.setMonitor n x).monitor m = if m = n then x else s.monitor m := fun x => vector_get_set _ _ _ _
  have event : ∀ b t, (monitorEvent n b t).monitor m = t.monitor m := fun b t => by
    rw [State.monitor, (monitorEvent_units _).2]
    rfl
  unfold evaluateMonitor
  simp only
  by_cases on : (s.monitor n).enable = true ∧ (s.monitor n).zone = z
  · rw [if_pos on]
    simp only [on, and_self, and_true]
    split
    · rw [event, set]
    · rw [set]
  · rw [if_neg on, if_neg fun h => on h.2]

theorem evaluate_settings (m : Monitor) (v : Nat) :
    (m.evaluate v).enable = m.enable ∧ (m.evaluate v).zone = m.zone ∧ (m.evaluate v).link = m.link ∧ (m.evaluate v).edge = m.edge ∧
      (m.evaluate v).recordOn = m.recordOn := by
  unfold Monitor.evaluate
  split
  · exact ⟨rfl, rfl, rfl, rfl, rfl⟩
  · split <;> exact ⟨rfl, rfl, rfl, rfl, rfl⟩

theorem evaluateMonitor_lane
    (unnamed : ∀ d m, (s.monitor n).link.target = some (d, m) → (s.monitor n).enable = true → (s.monitor n).zone = z →
      ¬((s.lane i).zone = z ∧ (s.lane i).direction = d)) :
    (evaluateMonitor z s n).lane i = s.lane i := by
  unfold evaluateMonitor
  simp only
  split
  · next on =>
    split
    · refine (monitorEvent_lane _ fun d m target named => ?_).trans rfl
      have same : (s.setMonitor n ((s.monitor n).evaluate (s.zone z).occupancy)).monitor n =
          (s.monitor n).evaluate (s.zone z).occupancy := (vector_get_set _ _ _ _).trans (if_pos rfl)
      rw [same] at target named
      obtain ⟨_, zone, link, _⟩ := evaluate_settings (s.monitor n) (s.zone z).occupancy
      rw [link] at target
      rw [zone, on.2] at named
      exact unnamed d m target on.1 on.2 named
    · rfl
  · rfl

/-- The evaluations of several monitors, each once, evaluate each of them that is enabled in the zone. -/
theorem evaluateMonitors_monitor {l : List MonitorId} (nodup : l.Nodup) (m : MonitorId) :
    (l.foldl (evaluateMonitor z) s).monitor m =
      if m ∈ l ∧ (s.monitor m).enable = true ∧ (s.monitor m).zone = z then (s.monitor m).evaluate (s.zone z).occupancy
      else s.monitor m := by
  induction l generalizing s with
  | nil => rw [if_neg fun h => absurd h.1 List.not_mem_nil]; rfl
  | cons n l ih =>
    obtain ⟨fresh, nodup⟩ := List.nodup_cons.1 nodup
    have zone : (evaluateMonitor z s n).zone z = s.zone z := by rw [State.zone, evaluateMonitor_zones]; rfl
    rw [List.foldl_cons, ih nodup, zone, evaluateMonitor_monitor]
    by_cases same : m = n
    · subst same
      rw [if_neg fun h => fresh h.1]
      simp only [List.mem_cons, true_or, true_and]
    · simp only [same, false_and, if_false, List.mem_cons, false_or]

end Monitors

/-- Settles O25. -/
theorem occupancyChangeEvaluatesMonitors : Obligations.OccupancyChangeEvaluatesMonitors := by
  unfold Obligations.OccupancyChangeEvaluatesMonitors
  intro z v s
  refine ⟨fun same => if_pos same, fun change => ?_⟩
  intro t deliver event evaluated names
  generalize stored_eq : s.setZone z { s.zone z with occupancy := v } = stored
  have stored_zone : ∀ y, stored.zone y = if y = z then { s.zone z with occupancy := v } else s.zone y := fun y => by
    rw [← stored_eq]
    exact vector_get_set _ _ _ _
  have t_eq : t = monitorOrder.foldl (evaluateMonitor z) stored := by rw [← stored_eq]; exact if_neg change
  have zones : ∀ l : List MonitorId, (l.foldl (evaluateMonitor z) stored).zones = stored.zones :=
    fun l => foldl_keeps State.zones _ (fun _ _ => evaluateMonitor_zones) l stored
  have t_zone : ∀ y, t.zone y = if y = z then { s.zone z with occupancy := v } else s.zone y := fun y => by
    rw [t_eq, State.zone, zones]
    exact stored_zone y
  have frame : UnitFrame s t := setOccupancy_frame z v s
  have lanes : ModesFrame s t := setOccupancy_modesFrame z v s
  have deliver_eq : ∀ n d m w, laneOrder.foldl
      (fun t i => if (t.lane i).zone = z ∧ (t.lane i).direction = d then changeMode i m (.link n) t else t) w = deliver n d m w :=
    fun _ _ _ _ => rfl
  have event_eq : ∀ w n m', w.monitor n = m' → m'.zone = z → (w.zone z).occupancy = v →
      monitorEvent n m'.output w = event n m' w := fun w n m' at_ zone occ => by
    have detail : detailHalf (BitVec.ofNat 8 n.val) (if m'.output = true then 0 else 1) v =
        detailBytes n.val (if m'.output = true then 0 else 1) v (v / 256) := by
      rw [← wordOf_detailBytes]
      cases m'.output <;> rfl
    unfold monitorEvent
    simp only [at_, zone, occ, State.record_recordNow, detail]
    cases link : m'.link <;> simp only [event, deliverLink, LinkAction.target, link, deliver_eq]
  have selects_iff : ∀ (m : Monitor) b, m.selects b = true ↔
      m.edge = .both ∨ (m.edge = .rise ∧ b = true) ∨ (m.edge = .fall ∧ b = false) := fun m b => by
    unfold Monitor.selects
    cases m.edge <;> simp
  have evaluated_eq : ∀ w n, (w.zone z).occupancy = v → evaluateMonitor z w n = evaluated w n := fun w n occ => by
    unfold evaluateMonitor
    simp only [occ, selects_iff]
    by_cases on : (w.monitor n).enable = true ∧ (w.monitor n).zone = z
    · have at_ : (w.setMonitor n ((w.monitor n).evaluate v)).monitor n = (w.monitor n).evaluate v :=
        (vector_get_set _ _ _ _).trans (if_pos rfl)
      have zone : ((w.monitor n).evaluate v).zone = z := (evaluate_settings _ v).2.1.trans on.2
      simp only [evaluated, if_pos on, event_eq _ n _ at_ zone occ]
    · simp only [evaluated, if_neg on]
  refine ⟨?_, (t_zone z).trans (if_pos rfl), fun y ne => (t_zone y).trans (if_neg ne), fun m => ?_, lanes, fun i free => ?_,
    frame.ctl, frame.holds, frame.tab, frame.gate, frame.list, frame.cfg, frame.clk, frame.adm, frame.pending⟩
  · have folds : ∀ (l : List MonitorId) (w : State), (w.zone z).occupancy = v → l.foldl (evaluateMonitor z) w = l.foldl evaluated w := by
      intro l
      induction l with
      | nil => exact fun _ _ => rfl
      | cons n l ih =>
        intro w occ
        have next : ((evaluateMonitor z w n).zone z).occupancy = v := by rw [State.zone, evaluateMonitor_zones]; exact occ
        rw [List.foldl_cons, List.foldl_cons, ih _ next, evaluated_eq w n occ]
    rw [t_eq]
    exact folds _ _ (by rw [stored_zone, if_pos rfl])
  · have every : m ∈ monitorOrder := by revert m; decide
    rw [t_eq, evaluateMonitors_monitor (by decide), stored_zone, if_pos rfl, ← stored_eq]
    simp only [every, true_and]
    rfl
  · have stored_monitor : ∀ m, stored.monitor m = s.monitor m := fun m => by rw [← stored_eq]; rfl
    have steps : t.lane i = stored.lane i := by
      rw [t_eq]
      refine (List.foldlRecOn (motive := fun w : State => w.lane i = stored.lane i ∧ ∀ m, (w.monitor m).enable = (s.monitor m).enable ∧
        (w.monitor m).zone = (s.monitor m).zone ∧ (w.monitor m).link = (s.monitor m).link) monitorOrder _
        ⟨rfl, fun m => by rw [stored_monitor]; exact ⟨rfl, rfl, rfl⟩⟩ fun w ⟨same, settings⟩ n _ => ⟨?_, fun m => ?_⟩).1
      · refine (evaluateMonitor_lane fun d m target on zone named => free n ?_).trans same
        have lane : w.lane i = s.lane i := same.trans (by rw [← stored_eq]; rfl)
        obtain ⟨enable_n, zone_n, link_n⟩ := settings n
        rw [lane] at named
        rw [link_n] at target
        refine ⟨enable_n ▸ on, zone_n ▸ zone, named.1, ?_⟩
        cases link : (s.monitor n).link <;> rw [link] at target <;> cases target
        · exact .inl ⟨rfl, named.2⟩
        · exact .inr (.inl ⟨rfl, named.2⟩)
        · exact .inr (.inr ⟨rfl, named.2⟩)
      · obtain ⟨enable_m, zone_m, link_m⟩ := settings m
        rw [evaluateMonitor_monitor]
        split
        · next h =>
          obtain ⟨enable_e, zone_e, link_e, _⟩ := evaluate_settings (w.monitor n) (w.zone z).occupancy
          rw [enable_e, zone_e, link_e, ← h.1]
          exact ⟨enable_m, zone_m, link_m⟩
        · exact ⟨enable_m, zone_m, link_m⟩
    exact steps.trans (by rw [← stored_eq]; rfl)

end Sys2Proof.Proofs.Returns
end

section
/-! PROOFS. What a lane event does: conditioning (O42), the passage tracker (O43), completed turns (O44), FIRE (O45), and how a hold
ends (O50). -/

namespace Sys2Proof.Proofs.Events

open Sys2Proof Sys2Proof.Machine Sys2Proof.Proofs.Keeping Sys2Proof.Proofs.Lanes Sys2Proof.Proofs.Returns

section Rules

variable {i : LaneId} {s : State} {c : Lane} {pins : Levels} {x : Bool}

/-! ## Lanes of an event -/

/-- A lane is as before but for its levels, its tracker, its modes and tally, its previous terms and its alert. -/
def EventLane (l l' : Lane) : Prop :=
  l' = { l with
    level := l'.level, tracker := l'.tracker, mode := l'.mode, pendingMode := l'.pendingMode, afterEmergency := l'.afterEmergency,
    tally := l'.tally, prev := l'.prev, alert := l'.alert, overrun := l'.overrun }

/-- A lane is as before but for its previous terms and its alert. -/
def WatchLane (l l' : Lane) : Prop := l' = { l with prev := l'.prev, alert := l'.alert, overrun := l'.overrun }

theorem EventLane.trans {l l' l'' : Lane} (a : EventLane l l') (b : EventLane l' l'') : EventLane l l'' := by
  unfold EventLane at a b ⊢
  rw [b, a]

theorem EventLane.of_modes {l l' : Lane} (h : ModesOnly l l') : EventLane l l' := by
  unfold ModesOnly at h
  unfold EventLane
  rw [h]

theorem EventLane.of_watch {l l' : Lane} (h : WatchLane l l') : EventLane l l' := by
  unfold WatchLane at h
  unfold EventLane
  rw [h]

theorem watchEvent_watchLane (i : LaneId) (s : State) : WatchLane (s.lane i) ((watchEvent i s).lane i) := by
  have taken : (takeTerms i s).lane i = { s.lane i with prev := s.terms i } := State.setLane_lane_same _ _ _
  unfold watchEvent
  simp only
  split
  · unfold reachAlert WatchLane
    simp only
    split
    · rw [taken]
    · split
      · rw [emitLane_lane, State.setLane_lane_same, taken]
      · rw [State.setLane_lane_same, taken]
  · rw [taken]
    rfl

theorem fireRise_modesFrame (i : LaneId) (s : State) : ModesFrame s (fireRise i s) := by
  unfold fireRise
  split
  · exact ModesFrame.refl s
  · next m _ =>
    have kept : ModesFrame s (s.setLane i { s.lane i with afterEmergency := some m }) := setLane_modesFrame s i _ rfl
    exact (kept.trans (takeMode_modesFrame _ _ _ _ _)).trans (endHold_modesFrame _ _ _)

theorem fireFall_modesFrame (i : LaneId) (s : State) : ModesFrame s (fireFall i s) := by
  unfold fireFall
  split
  · have kept : ModesFrame s (s.setLane i { s.lane i with afterEmergency := none }) := setLane_modesFrame s i _ rfl
    exact kept.trans (takeMode_modesFrame _ _ _ _ _)
  · exact ModesFrame.refl s

/-- A FIRE level that stays is no rise and no fall. -/
theorem fireArrives_idle (b : Bool) (s : State) : s.fireArrives i b b = s := by
  unfold State.fireArrives
  cases b <;> rfl

theorem fireArrives_modesFrame (i : LaneId) (was now : Bool) (s : State) : ModesFrame s (s.fireArrives i was now) := by
  cases was <;> cases now
  · rw [fireArrives_idle]; exact ModesFrame.refl s
  · rw [← fireRise_fireArrives]; exact fireRise_modesFrame i s
  · rw [← fireFall_fireArrives]; exact fireFall_modesFrame i s
  · rw [fireArrives_idle]; exact ModesFrame.refl s

/-- What an event's last steps leave of its lane. -/
theorem eventEnds_lane (was now : Levels) (s : State) :
    EventLane (s.lane i) ((s.eventEnds i was now).lane i) ∧ ((s.eventEnds i was now).lane i).level = (s.lane i).level ∧
      ((s.eventEnds i was now).lane i).tracker = (s.lane i).tracker := by
  have fire := fireArrives_modesFrame i was.fire now.fire s i
  have watch := watchEvent_watchLane i (s.fireArrives i was.fire now.fire)
  refine ⟨(EventLane.of_modes fire).trans (.of_watch watch), ?_, ?_⟩
  · show ((watchEvent i _).lane i).level = _
    rw [watch, fire]
  · show ((watchEvent i _).lane i).tracker = _
    rw [watch, fire]

theorem eventEnds_others (was now : Levels) (s : State) {j : LaneId} (other : j ≠ i) :
    ModesOnly (s.lane j) ((s.eventEnds i was now).lane j) := by
  show ModesOnly _ ((watchEvent i _).lane j)
  rw [(watchEvent_laneFrame i _).others j other]
  exact fireArrives_modesFrame i was.fire now.fire s j

/-- What an event leaves of the lanes. -/
theorem levelsChange_lanes (new : Levels) (s : State) :
    EventLane (s.lane i) ((levelsChange i new s).lane i) ∧ ((levelsChange i new s).lane i).level = new ∧
      ∀ j, j ≠ i → ModesOnly (s.lane j) ((levelsChange i new s).lane j) := by
  rw [levelsChange_eventEnds]
  simp only
  generalize seen_eq : (s.setLane i { s.lane i with level := new }).beamArrives i (s.lane i).level.beam new.beam = seen
  have seen_lane : ∀ j, seen.lane j = if j = i then { s.lane i with level := new } else s.lane j := fun j => by
    rw [← seen_eq, beamArrives_lane, State.setLane_lane]
  have moved : ∀ w : State, w = seen ∨ (∃ p, w = trackerMove i p seen) →
      EventLane (s.lane i) (w.lane i) ∧ (w.lane i).level = new ∧ ∀ j, j ≠ i → ModesOnly (s.lane j) (w.lane j) := by
    rintro w (rfl | ⟨p, rfl⟩)
    · rw [seen_lane, if_pos rfl]
      exact ⟨rfl, rfl, fun j other => by rw [seen_lane, if_neg other]; exact ModesOnly.refl _⟩
    · obtain ⟨t, frame⟩ := trackerMove_lanes i p seen
      have here : (setTracker i t seen).lane i = { s.lane i with level := new, tracker := t } := by
        rw [setTracker, State.setLane_lane_same, seen_lane, if_pos rfl]
      refine ⟨?_, ?_, fun j other => ?_⟩
      · have modes := frame i
        rw [here] at modes
        exact EventLane.trans (l' := { s.lane i with level := new, tracker := t }) rfl (.of_modes modes)
      · rw [trackerMove_level, seen_lane, if_pos rfl]
      · have modes := frame j
        rwa [setTracker, State.setLane_lane_other _ _ _ _ other, seen_lane, if_neg other] at modes
  have ends : ∀ w : State, EventLane (s.lane i) (w.lane i) ∧ (w.lane i).level = new ∧ (∀ j, j ≠ i → ModesOnly (s.lane j) (w.lane j)) →
      EventLane (s.lane i) ((w.eventEnds i (s.lane i).level new).lane i) ∧ ((w.eventEnds i (s.lane i).level new).lane i).level = new ∧
        ∀ j, j ≠ i → ModesOnly (s.lane j) ((w.eventEnds i (s.lane i).level new).lane j) := fun w ⟨lane, level, others⟩ => by
    obtain ⟨lane', level', _⟩ := eventEnds_lane (i := i) (s.lane i).level new w
    exact ⟨lane.trans lane', level'.trans level, fun j other => (others j other).trans (eventEnds_others _ _ w other)⟩
  refine ends _ (moved _ ?_)
  split
  · exact .inr ⟨_, rfl⟩
  · exact .inl rfl

/-! ## Conditioning -/

/-- The agreement counts after a sample of the pins. -/
def sampledAgree (l : Lane) : Agreement :=
  ⟨(conditionInput l.level.armA l.agree.armA l.pins.armA).2, (conditionInput l.level.armB l.agree.armB l.pins.armB).2,
    (conditionInput l.level.beam l.agree.beam l.pins.beam).2, (conditionInput l.level.fire l.agree.fire l.pins.fire).2⟩

/-- The levels after a sample of the pins. -/
def sampledLevel (l : Lane) : Levels :=
  ⟨(conditionInput l.level.armA l.agree.armA l.pins.armA).1, (conditionInput l.level.armB l.agree.armB l.pins.armB).1,
    (conditionInput l.level.beam l.agree.beam l.pins.beam).1, (conditionInput l.level.fire l.agree.fire l.pins.fire).1⟩

theorem takeSample_eq (i : LaneId) (s : State) :
    takeSample i s =
      deliverLevels i (sampledLevel (s.lane i)) (s.setLane i { s.lane i with agree := sampledAgree (s.lane i), sampleMs := 0 }) := rfl

theorem pinsChange_raw (raw : (s.lane i).period = .raw) :
    pinsChange i pins x s = deliverLevels i pins (s.setLane i { s.lane i with pins := pins }) := by
  simp only [pinsChange, raw]

theorem pinsChange_idle (period : (s.lane i).period ≠ .raw) : pinsChange i pins false s = s.setLane i { s.lane i with pins := pins } := by
  unfold pinsChange
  cases p : (s.lane i).period <;> first | exact absurd p period | rfl

theorem pinsChange_sample (period : (s.lane i).period ≠ .raw) :
    pinsChange i pins true s =
      let l := { s.lane i with pins := pins }
      deliverLevels i (sampledLevel l) (s.setLane i { l with agree := sampledAgree l, sampleMs := 0 }) := by
  have sample : pinsChange i pins true s = takeSample i (s.setLane i { s.lane i with pins := pins }) := by
    unfold pinsChange
    cases p : (s.lane i).period <;> first | exact absurd p period | rfl
  rw [sample, takeSample_eq, State.setLane_lane_same, State.setLane_setLane]

theorem exec_laneEvent (i : LaneId) (pins : Levels) (x : Bool) (s : State) :
    exec (.laneEvent i pins x) s =
      .next (if s.ctl.resetActive = true then s.setLane i { s.lane i with pins := pins } else pinsChange i pins x s) := rfl

theorem exec_laneEvent_live (live : s.ctl.resetActive = false) : exec (.laneEvent i pins x) s = .next (pinsChange i pins x s) := by
  rw [exec_laneEvent, live, if_neg Bool.false_ne_true]

/-- The lane of levels that arrive is as before but for its inputs. -/
theorem arrives_lane (arr : s.Arrives i pins x c) :
    c = { s.lane i with pins := pins, level := c.level, agree := c.agree, sampleMs := c.sampleMs } := by
  obtain ⟨_, ⟨_, h⟩ | ⟨_, _, h, _⟩⟩ := arr
  · rw [h]
  · rw [h]

/-- Where levels arrive, the lane takes them from its old levels. -/
theorem pinsChange_arrives (arr : s.Arrives i pins x c) :
    pinsChange i pins x s = deliverLevels i c.level (s.setLane i { c with level := (s.lane i).level }) := by
  obtain ⟨_, ⟨raw, h⟩ | ⟨period, sampled, h, a, b, beam, fire⟩⟩ := arr
  · rw [pinsChange_raw raw, h]
  · rw [sampled, pinsChange_sample period]
    have ea := a.eq
    have eb := b.eq
    have ebeam := beam.eq
    have efire := fire.eq
    have level : sampledLevel { s.lane i with pins := pins } = c.level := by
      simp only [sampledLevel, ← ea, ← eb, ← ebeam, ← efire]
    have agree : sampledAgree { s.lane i with pins := pins } = c.agree := by
      simp only [sampledAgree, ← ea, ← eb, ← ebeam, ← efire]
    simp only [level, agree]
    rw [h]

/-- The state once step 1 of the event has taken in the BEAM level that arrives. -/
def beamTaken (i : LaneId) (c : Lane) (s : State) : State := (s.setLane i c).beamArrives i (s.lane i).level.beam c.level.beam

theorem beamTaken_lane : (beamTaken i c s).lane i = c := by
  rw [beamTaken, beamArrives_lane, State.setLane_lane_same]

/-- Levels that arrive and agree with those before are no event. -/
theorem exec_arrives_same (arr : s.Arrives i pins x c) (same : c.level = (s.lane i).level) :
    exec (.laneEvent i pins x) s = .next (s.setLane i c) := by
  rw [exec_laneEvent_live arr.1, pinsChange_arrives arr, deliverLevels, State.setLane_lane_same, if_pos same.symm, ← same]

/-- Levels that arrive and change act in the order of one event (R115). -/
theorem exec_arrives (arr : s.Arrives i pins x c) (change : c.level ≠ (s.lane i).level) :
    exec (.laneEvent i pins x) s =
      .next ((if (s.lane i).enabled = true ∧ ((s.lane i).level.armA ≠ c.level.armA ∨ (s.lane i).level.armB ≠ c.level.armB) then
        trackerMove i (armPosition c.level) (beamTaken i c s) else beamTaken i c s).eventEnds i (s.lane i).level c.level) := by
  rw [exec_laneEvent_live arr.1, pinsChange_arrives arr, deliverLevels, State.setLane_lane_same, if_neg change.symm,
    levelsChange_eventEnds]
  have enabled : c.enabled = (s.lane i).enabled := by rw [arrives_lane arr]
  rw [← enabled]
  simp only [State.setLane_lane_same, State.setLane_setLane]
  rfl

/-- Levels that arrive with the arms as they stand leave the tracker alone. -/
theorem exec_arrives_still (arr : s.Arrives i pins x c) (change : c.level ≠ (s.lane i).level)
    (still : ¬((s.lane i).enabled = true ∧ ((s.lane i).level.armA ≠ c.level.armA ∨ (s.lane i).level.armB ≠ c.level.armB))) :
    exec (.laneEvent i pins x) s = .next ((beamTaken i c s).eventEnds i (s.lane i).level c.level) := by
  rw [exec_arrives arr change, if_neg still]

theorem exec_arrives_moving (arr : s.Arrives i pins x c) (change : c.level ≠ (s.lane i).level)
    (moves : (s.lane i).enabled = true ∧ ((s.lane i).level.armA ≠ c.level.armA ∨ (s.lane i).level.armB ≠ c.level.armB)) :
    exec (.laneEvent i pins x) s =
      .next ((trackerMove i (armPosition c.level) (beamTaken i c s)).eventEnds i (s.lane i).level c.level) := by
  rw [exec_arrives arr change, if_pos moves]

end Rules

/-- Settles O45. -/
theorem fireLine : Obligations.FireLine := by
  unfold Obligations.FireLine
  intro i pins x m c s arr
  have at_c := arrives_lane arr
  have fire_only : ∀ b, (s.lane i).level.fire = !b → c.level = { (s.lane i).level with fire := b } →
      exec (.laneEvent i pins x) s = .next (watchEvent i ((s.setLane i c).fireArrives i (!b) b)) := fun b was level => by
    have change : c.level ≠ (s.lane i).level := fun h => by
      have := congrArg Levels.fire (level.symm.trans h)
      rw [was] at this
      cases b <;> cases this
    rw [exec_arrives_still arr change (by rw [level]; simp), beamTaken, beamArrives_idle _ _ _ _ (by rw [level]; simp),
      State.eventEnds, level, was]
  have mode : c.mode = (s.lane i).mode := by rw [at_c]
  have after : c.afterEmergency = (s.lane i).afterEmergency := by rw [at_c]
  have zone : c.zone = (s.lane i).zone := by rw [at_c]
  have tally : c.tally = (s.lane i).tally := by rw [at_c]
  refine ⟨fun low level base => ?_, fun high level emergency kept => ?_⟩
  · rw [fire_only true low level]
    rw [base] at mode
    simp only [State.fireArrives, State.setLane_lane_same, State.setLane_setLane, mode, zone]
    rfl
  · rw [fire_only false high level]
    rw [emergency] at mode
    rw [kept] at after
    simp only [State.fireArrives, State.setLane_lane_same, State.setLane_setLane, mode, after, zone, tally]
    rfl

/-- What levels that are delivered leave of the lanes. -/
theorem deliverLevels_lanes (i : LaneId) (new : Levels) (s : State) :
    EventLane (s.lane i) ((deliverLevels i new s).lane i) ∧ ((deliverLevels i new s).lane i).level = new ∧
      (∀ j, j ≠ i → ModesOnly (s.lane j) ((deliverLevels i new s).lane j)) ∧ ((s.lane i).level = new → deliverLevels i new s = s) := by
  unfold deliverLevels
  split
  · next same => exact ⟨rfl, same, fun j _ => ModesOnly.refl _, fun _ => rfl⟩
  · next change =>
    obtain ⟨lane, level, others⟩ := levelsChange_lanes (i := i) new s
    exact ⟨lane, level, others, fun same => absurd same change⟩

/-- The inputs of a lane are set, and the levels that this brings are delivered: what is left of the lanes and of all else. -/
theorem deliverLevels_inputs (i : LaneId) (new : Levels) (pins : Levels) (agree : Agreement) (ms : Nat) (s : State) :
    let t := deliverLevels i new (s.setLane i { s.lane i with pins := pins, agree := agree, sampleMs := ms })
    let n := t.lane i
    n.pins = pins ∧ n.level = new ∧ n.agree = agree ∧ n.sampleMs = ms ∧
      (new = (s.lane i).level → t = s.setLane i { s.lane i with pins := pins, agree := agree, sampleMs := ms }) ∧
      n = { s.lane i with
        pins := n.pins, level := n.level, agree := n.agree, sampleMs := n.sampleMs, tracker := n.tracker, mode := n.mode,
        pendingMode := n.pendingMode, afterEmergency := n.afterEmergency, tally := n.tally, prev := n.prev, alert := n.alert,
        overrun := n.overrun } ∧
      (∀ j, j ≠ i → ModesOnly (s.lane j) (t.lane j)) ∧
      EventFrame i s t := by
  intro t n
  obtain ⟨lane, level, others, quiet⟩ := deliverLevels_lanes i new (s.setLane i { s.lane i with pins := pins, agree := agree, sampleMs := ms })
  rw [State.setLane_lane_same] at lane quiet
  have at_pins : n.pins = pins := by
    show ((deliverLevels i new _).lane i).pins = pins
    rw [lane]
  have at_agree : n.agree = agree := by
    show ((deliverLevels i new _).lane i).agree = agree
    rw [lane]
  have at_ms : n.sampleMs = ms := by
    show ((deliverLevels i new _).lane i).sampleMs = ms
    rw [lane]
  refine ⟨at_pins, level, at_agree, at_ms, fun same => quiet same.symm, ?_, fun j other => ?_,
    (setLane_eventFrame s i i _).trans (deliverLevels_eventFrame i new _)⟩
  · rw [at_pins, at_agree, at_ms]
    exact lane
  · have := others j other
    rwa [State.setLane_lane_other _ _ _ _ other] at this

/-- Settles O42. -/
theorem inputConditioning : Obligations.InputConditioning := by
  unfold Obligations.InputConditioning
  intro i pins sampled s l
  refine ⟨fun active => by rw [exec_laneEvent, if_pos active], fun live => ?_⟩
  refine ⟨pinsChange i pins sampled s, exec_laneEvent_live live, ?_⟩
  by_cases raw : l.period = .raw
  · rw [pinsChange_raw raw]
    obtain ⟨at_pins, level, agree, ms, quiet, lane, others, frame⟩ := deliverLevels_inputs i pins pins l.agree l.sampleMs s
    refine ⟨at_pins, fun _ => ⟨level, agree⟩, fun h => absurd raw h, fun h => absurd raw h, fun same => ?_, lane, others, frame.hold,
      by rw [frame.tab], frame.gate, frame.list, frame.cfg, frame.adm, frame.clk⟩
    exact (quiet (level.symm.trans same)).trans (by rw [agree, ms])
  · cases sampled with
    | false =>
      rw [pinsChange_idle raw]
      have lane : (s.setLane i { s.lane i with pins := pins }).lane i = { s.lane i with pins := pins } := State.setLane_lane_same _ _ _
      refine ⟨?_, fun h => absurd h raw, fun _ _ => rfl, fun _ h => absurd h (by decide), fun _ => ?_, ?_, fun j other => ?_,
        fun j _ => rfl, rfl, rfl, rfl, rfl, rfl, rfl⟩
      · rw [lane]
      · rw [lane]
      · rw [lane]
      · rw [State.setLane_lane_other _ _ _ _ other]
    | true =>
      rw [pinsChange_sample raw]
      obtain ⟨at_pins, level, agree, ms, quiet, lane, others, frame⟩ := deliverLevels_inputs i (sampledLevel { l with pins := pins }) pins
        (sampledAgree { l with pins := pins }) 0 s
      refine ⟨at_pins, fun h => absurd h raw, fun _ h => absurd h (by decide), fun _ _ => ?_, fun same => ?_, lane, others, frame.hold,
        by rw [frame.tab], frame.gate, frame.list, frame.cfg, frame.adm, frame.clk⟩
      · simp only
        rw [level, agree]
        exact ⟨ms, conditionInput_conditioned _ _ _, conditionInput_conditioned _ _ _, conditionInput_conditioned _ _ _,
          conditionInput_conditioned _ _ _⟩
      · exact (quiet (level.symm.trans same)).trans (by rw [agree, ms])

end Sys2Proof.Proofs.Events
end

section
/-! PROOFS. The passage tracker (O43), completed turns (O44), and how a hold ends (O50). -/

namespace Sys2Proof.Proofs.Events

open Sys2Proof Sys2Proof.Machine Sys2Proof.Proofs.Keeping Sys2Proof.Proofs.Lanes Sys2Proof.Proofs.Returns

section Tracker

variable {i : LaneId} {s : State} {p : Fin 4}

/-! ## The tracker -/

/-- The tracker after a move to the position `p` (6.3). -/
def nextTracker (old : Tracker) (p : Fin 4) : Tracker :=
  if p = old.position then old
  else if old.state = .fault then (if p = 0 then ⟨.rest, 0, 0⟩ else ⟨.fault, p, 0⟩)
  else if p = old.position + 2 then ⟨.fault, p, 0⟩
  else if p = 0 then ⟨.rest, 0, 0⟩
  else if p = old.position + 1 then ⟨.turning, p, old.turn + 1⟩
  else ⟨.turning, p, old.turn - 1⟩

theorem position_cases (p q : Fin 4) : p = q ∨ p = q + 2 ∨ p = q + 1 ∨ p = q + 3 := by revert p q; decide

theorem position_apart (q : Fin 4) : q + 2 ≠ q ∧ q + 1 ≠ q ∧ q + 3 ≠ q ∧ q + 2 ≠ q + 1 ∧ q + 2 ≠ q + 3 ∧ q + 3 ≠ q + 1 := by
  revert q; decide

theorem trackerMove_stay (stay : p = (s.lane i).tracker.position) : trackerMove i p s = s := if_pos stay.symm

theorem trackerMove_fault (moved : p ≠ (s.lane i).tracker.position) (fault : (s.lane i).tracker.state = .fault) :
    trackerMove i p s = setTracker i (nextTracker (s.lane i).tracker p) s := by
  unfold trackerMove
  simp only [if_neg moved.symm, if_pos fault, nextTracker, if_neg moved]
  rfl

theorem trackerMove_jump (live : (s.lane i).tracker.state ≠ .fault) (jump : p = (s.lane i).tracker.position + 2) :
    trackerMove i p s = trackerJump i p s := by
  obtain ⟨stay, _, _, up, down, _⟩ := position_apart (s.lane i).tracker.position
  subst jump
  unfold trackerMove
  simp only [if_neg stay.symm, if_neg live, if_neg up, if_neg down]

theorem trackerMove_up (live : (s.lane i).tracker.state ≠ .fault) (up : p = (s.lane i).tracker.position + 1) :
    trackerMove i p s = trackerStep i p true s := by
  obtain ⟨_, stay, _⟩ := position_apart (s.lane i).tracker.position
  subst up
  unfold trackerMove
  simp only [if_neg stay.symm, if_neg live, if_true]

theorem trackerMove_down (live : (s.lane i).tracker.state ≠ .fault) (down : p = (s.lane i).tracker.position + 3) :
    trackerMove i p s = trackerStep i p false s := by
  obtain ⟨_, _, stay, _, _, up⟩ := position_apart (s.lane i).tracker.position
  subst down
  unfold trackerMove
  simp only [if_neg stay.symm, if_neg live, if_neg up, if_true]

/-- A step of one position is up to the next position or down to the one before. -/
theorem trackerMove_step (live : (s.lane i).tracker.state ≠ .fault)
    (near : p = (s.lane i).tracker.position + 1 ∨ p = (s.lane i).tracker.position + 3) :
    trackerMove i p s = trackerStep i p (decide (p = (s.lane i).tracker.position + 1)) s := by
  rcases near with up | down
  · rw [trackerMove_up live up, decide_eq_true up]
  · obtain ⟨_, _, _, _, _, apart⟩ := position_apart (s.lane i).tracker.position
    rw [trackerMove_down live down, decide_eq_false (fun h => apart (down.symm.trans h))]

/-- A step that does not come to rest turns the tracker, and one that leaves REST stops the release timer's unit. -/
theorem trackerStep_turning (up : Bool) (moved : p ≠ 0) :
    trackerStep i p up s =
      let t := (s.lane i).tracker
      let turned := setTracker i ⟨.turning, p, if up then t.turn + 1 else t.turn - 1⟩ s
      if t.state = .rest then suspendTimer i turned else turned := by
  simp only [trackerStep, if_neg moved]

theorem nextTracker_step (live : (s.lane i).tracker.state ≠ .fault)
    (near : p = (s.lane i).tracker.position + 1 ∨ p = (s.lane i).tracker.position + 3) :
    nextTracker (s.lane i).tracker p =
      if p = 0 then ⟨.rest, 0, 0⟩
      else ⟨.turning, p,
        if decide (p = (s.lane i).tracker.position + 1) = true then (s.lane i).tracker.turn + 1 else (s.lane i).tracker.turn - 1⟩ := by
  obtain ⟨_, up, down, far_up, far_down, apart⟩ := position_apart (s.lane i).tracker.position
  have moved : p ≠ (s.lane i).tracker.position := by rcases near with rfl | rfl <;> assumption
  have far : p ≠ (s.lane i).tracker.position + 2 := by
    rcases near with rfl | rfl
    · exact far_up.symm
    · exact far_down.symm
  simp only [nextTracker, if_neg moved, if_neg live, if_neg far, decide_eq_true_eq]
  split
  · rfl
  · split
    · rfl
    · rfl

/-- A step home that makes no full turn brings the tracker to rest. -/
theorem trackerStep_home (up : Bool) (forward : (if up = true then (s.lane i).tracker.turn + 1 else (s.lane i).tracker.turn - 1) ≠ 4)
    (back : (if up = true then (s.lane i).tracker.turn + 1 else (s.lane i).tracker.turn - 1) ≠ -4) :
    trackerStep i 0 up s = setTracker i ⟨.rest, 0, 0⟩ s := by
  simp only [trackerStep, if_true, if_neg forward, if_neg back]
  rfl

theorem setTracker_tracker (t : Tracker) : ((setTracker i t s).lane i).tracker = t := by rw [setTracker, State.setLane_lane_same]

theorem trackerStep_tracker (up : Bool) :
    ((trackerStep i p up s).lane i).tracker =
      if p = 0 then ⟨.rest, 0, 0⟩
      else ⟨.turning, p, if up = true then (s.lane i).tracker.turn + 1 else (s.lane i).tracker.turn - 1⟩ := by
  unfold trackerStep
  simp only
  generalize (if up = true then (s.lane i).tracker.turn + 1 else (s.lane i).tracker.turn - 1) = turn
  split
  · split
    · rw [(completeTurn_modesFrame _ _ _).tracker, setTracker_tracker]
      rfl
    · split
      · rw [(completeTurn_modesFrame _ _ _).tracker, setTracker_tracker]
        rfl
      · rw [setTracker_tracker]
        rfl
  · split
    · rw [State.lane, suspendTimer_lanes]
      exact setTracker_tracker _
    · exact setTracker_tracker _

/-- A record made now depends on the clock alone. -/
theorem recordNow_clk {t : State} (clk : t.clk = s.clk) (k : RecordKind) (lane : Option LaneId) (zone : Option ZoneId) (f : RecordFlags)
    (d : Word) (key : Key) : t.recordNow k lane zone f d key = s.recordNow k lane zone f d key := by
  rw [State.recordNow, State.recordNow, clk]

theorem ofInt_byte (n : Int) : BitVec.ofInt 8 n = BitVec.ofNat 8 (n % 256).toNat := by
  apply BitVec.eq_of_toNat_eq
  rw [BitVec.toNat_ofInt, BitVec.toNat_ofNat]
  omega

/-- A jump makes the FAULT record of the positions, the state and the turn before, and ends a STANDING hold. -/
theorem trackerJump_eq (live : (s.lane i).tracker.state ≠ .fault) :
    trackerJump i p s =
      let old := (s.lane i).tracker
      endHold i .fault (emit
        (s.recordNow .fault (some i) (some (s.lane i).zone) {}
          (detailBytes old.position.val p.val (if old.state = .rest then 0 else 1)
            (if old.state = .turning then (old.turn % 256).toNat else 0)) zeroKey)
        (setTracker i ⟨.fault, p, 0⟩ s)) := by
  have code : (s.lane i).tracker.state.code = BitVec.ofNat 8 (if (s.lane i).tracker.state = .rest then 0 else 1) := by
    cases state : (s.lane i).tracker.state with
    | rest => rfl
    | turning => rfl
    | fault => exact absurd state live
  have turn : (if (s.lane i).tracker.state = .turning then BitVec.ofInt 8 (s.lane i).tracker.turn else 0) =
      BitVec.ofNat 8 (if (s.lane i).tracker.state = .turning then ((s.lane i).tracker.turn % 256).toNat else 0) := by
    split
    · exact ofInt_byte _
    · rfl
  have zone : ((setTracker i ⟨.fault, p, 0⟩ s).lane i).zone = (s.lane i).zone := by rw [setTracker, State.setLane_lane_same]
  simp only [trackerJump, emitLane, zone, State.record_recordNow, code, turn, detail4, wordOf_detailBytes]
  rfl

theorem trackerMove_tracker (i : LaneId) (p : Fin 4) (s : State) :
    ((trackerMove i p s).lane i).tracker = nextTracker (s.lane i).tracker p := by
  by_cases stay : p = (s.lane i).tracker.position
  · rw [trackerMove_stay stay, nextTracker, if_pos stay]
  by_cases fault : (s.lane i).tracker.state = .fault
  · rw [trackerMove_fault stay fault, setTracker_tracker]
  rcases (position_cases p (s.lane i).tracker.position).resolve_left stay with jump | near
  · rw [trackerMove_jump fault jump, trackerJump, nextTracker, if_neg stay, if_neg fault, if_pos jump]
    rw [(endHold_modesFrame _ _ _).tracker, emitLane_lane, setTracker_tracker]
  · rw [trackerMove_step fault near, trackerStep_tracker, nextTracker_step fault near]

/-- Step 1 of an event does not look at the tracker. -/
theorem beamArrives_setLane {c : Lane} (was now : Bool) (same : c.retrigger = (s.lane i).retrigger) :
    (s.beamArrives i was now).setLane i c = (s.setLane i c).beamArrives i was now := by
  unfold State.beamArrives
  rw [State.setLane_hold]
  cases s.hold i with
  | none => rfl
  | some h =>
    simp only [State.setLane_lane_same, same]
    split <;> rfl

/-- Step 1 of an event leaves a STANDING hold STANDING. -/
theorem beamArrives_standing (was now : Bool) : ((s.beamArrives i was now).standingHold i).isSome = (s.standingHold i).isSome := by
  unfold State.beamArrives
  cases hold : s.hold i with
  | none => rfl
  | some h =>
    dsimp only
    by_cases rise : was = false ∧ now = true ∧ h.phase = .standing
    · have kept : (h.beamArrives (s.lane i).retrigger).phase = h.phase := by unfold Hold.beamArrives; split <;> rfl
      rw [if_pos rise]
      simp only [State.standingHold, State.setHold_hold_same, hold, Option.filter_some, Hold.standing, kept, rise.2.2]
      rfl
    · rw [if_neg rise]

theorem beamArrives_clk (was now : Bool) : (s.beamArrives i was now).clk = s.clk := by
  unfold State.beamArrives
  cases s.hold i with
  | none => rfl
  | some h => simp only; split <;> rfl

theorem standingHold_isSome : (s.standingHold i).isSome = true ↔ ∃ h, s.hold i = some h ∧ h.phase = .standing := by
  rw [Option.isSome_iff_exists]
  simp only [standingHold_eq_some_iff]

end Tracker

/-- Settles O43. -/
theorem trackerFollowsTheArms : Obligations.TrackerFollowsTheArms := by
  unfold Obligations.TrackerFollowsTheArms
  intro i pins x c s arr l old p moves next seen placed does
  have at_c := arrives_lane arr
  have tracker : c.tracker = old := by rw [at_c]
  have zone : c.zone = l.zone := by rw [at_c]
  have seen_lane : seen.lane i = c := beamTaken_lane
  have seen_clk : seen.clk = s.clk := beamArrives_clk _ _
  have seen_tracker : (seen.lane i).tracker = old := by rw [seen_lane, tracker]
  have next_eq : nextTracker old p = next := rfl
  have changed : moves → c.level ≠ l.level := fun m h => by
    rcases m.2 with m | m
    · exact m (congrArg Levels.armA h)
    · exact m (congrArg Levels.armB h)
  have does_move : moves → does (trackerMove i p seen) := fun m => exec_arrives_moving arr (changed m) ⟨m.1, m.2.imp Ne.symm Ne.symm⟩
  have does_still : c.level ≠ l.level → ¬moves → does seen := fun change still =>
    exec_arrives_still arr change fun h => still ⟨h.1, h.2.imp Ne.symm Ne.symm⟩
  have ended : ∀ w : State, ((w.eventEnds i l.level c.level).lane i).tracker = (w.lane i).tracker := fun w => (eventEnds_lane _ _ w).2.2
  have unheld : (∀ h, s.hold i = some h → h.phase ≠ .standing) → seen.standingHold i = none := fun none_standing => by
    rw [← Option.not_isSome_iff_eq_none]
    show ¬((State.beamArrives i _ _ (s.setLane i c)).standingHold i).isSome = true
    rw [beamArrives_standing, standingHold_isSome]
    exact fun ⟨h, hold, standing⟩ => none_standing h hold standing
  clear_value seen next
  have set_eq : ∀ t, setTracker i t seen = placed t := fun t => by rw [setTracker, seen_lane]
  refine ⟨?_, exec_arrives_same arr, fun change still => ?_, fun m moved fault => ?_, fun m live jump => ?_,
    fun m turning home back => ?_, fun m turning away near => ?_, fun m rest away near => ?_⟩
  · by_cases change : c.level = l.level
    · refine ⟨_, exec_arrives_same arr change, fun _ => ?_, fun m => absurd change (changed m)⟩
      rw [State.setLane_lane_same, tracker]
    · by_cases m : moves
      · refine ⟨_, does_move m, fun still => absurd m still, fun _ => ?_⟩
        rw [ended, trackerMove_tracker, seen_tracker, next_eq]
      · refine ⟨_, does_still change m, fun _ => ?_, fun h => absurd h m⟩
        rw [ended, seen_tracker]
  · by_cases m : moves
    · have moved := does_move m
      rwa [trackerMove_stay (by rw [seen_tracker]; exact still.resolve_left fun h => h m)] at moved
    · exact does_still change m
  · have moved' := does_move m
    rwa [trackerMove_fault (by rwa [seen_tracker]) (by rwa [seen_tracker]), seen_tracker, set_eq, next_eq] at moved'
  · have moved := does_move m
    rw [trackerMove_jump (by rwa [seen_tracker]) (by rwa [seen_tracker]), trackerJump_eq (by rwa [seen_tracker])] at moved
    simp only [seen_lane, tracker, zone, set_eq, recordNow_clk seen_clk] at moved
    exact moved
  · have live : old.state ≠ .fault := by rw [turning]; decide
    have near : p = old.position + 1 ∨ p = old.position + 3 := by
      rw [home]
      rcases back with ⟨at_, _⟩ | ⟨at_, _⟩ <;> rw [at_] <;> decide
    have turn : (if decide (p = old.position + 1) = true then old.turn + 1 else old.turn - 1) = 0 := by
      rw [home]
      rcases back with ⟨at_, turn⟩ | ⟨at_, turn⟩ <;> rw [at_, turn] <;> decide
    have moved := does_move m
    have rest : next = ⟨.rest, 0, 0⟩ := by rw [← next_eq, nextTracker_step live near, if_pos home]
    rw [trackerMove_step (by rwa [seen_tracker]) (by rwa [seen_tracker]), seen_tracker, home] at moved
    rw [home] at turn
    rwa [trackerStep_home _ (by rw [seen_tracker, turn]; decide) (by rw [seen_tracker, turn]; decide), set_eq, ← rest] at moved
  · have live : old.state ≠ .fault := by rw [turning]; decide
    have moved := does_move m
    rw [trackerMove_step (by rwa [seen_tracker]) (by rwa [seen_tracker]), trackerStep_turning _ away, seen_tracker] at moved
    have turned : next = ⟨.turning, p, if decide (p = old.position + 1) = true then old.turn + 1 else old.turn - 1⟩ := by
      have step := nextTracker_step live near
      rwa [if_neg away, next_eq] at step
    simp only [set_eq] at moved
    rwa [← turned, turning, if_neg (by decide)] at moved
  · have live : old.state ≠ .fault := by rw [rest]; decide
    have moved := does_move m
    rw [trackerMove_step (by rwa [seen_tracker]) (by rwa [seen_tracker]), trackerStep_turning _ away, seen_tracker] at moved
    have turned : next = ⟨.turning, p, if decide (p = old.position + 1) = true then old.turn + 1 else old.turn - 1⟩ := by
      have step := nextTracker_step live near
      rwa [if_neg away, next_eq] at step
    simp only [set_eq] at moved
    rw [← turned, rest, if_pos rfl] at moved
    have holds : (placed next).standingHold i = seen.standingHold i := rfl
    refine ⟨fun none_standing => ?_, fun h hold standing => ?_⟩
    · rwa [suspendTimer, holds, unheld none_standing] at moved
    · rwa [suspendTimer, holds, standingHold_eq_some_iff.2 ⟨hold, standing⟩] at moved

end Sys2Proof.Proofs.Events
end

section
/-! PROOFS. Completed turns (O44), and how a hold ends (O50). -/

namespace Sys2Proof.Proofs.Events

open Sys2Proof Sys2Proof.Machine Sys2Proof.Proofs.Keeping Sys2Proof.Proofs.Lanes Sys2Proof.Proofs.Returns

section Persons

variable {i : LaneId} {s : State} {z : ZoneId}

/-! ## A person enters or leaves a zone -/

/-- A count taken into its range (R150). -/
def counted (n : Int) : Nat := (max 0 (min 65535 n)).toNat

theorem counted_eq {n : Nat} (h : n ≤ 65535) : counted n = n := by unfold counted; omega

/-- What a person who enters or leaves adds to the occupancy. -/
def personShift (up : Bool) : Int := if up = true then 1 else -1

theorem movePerson_eq (up : Bool) (bound : (s.zone z).occupancy ≤ 65535) :
    movePerson z up s = setOccupancy z (counted ((s.zone z).occupancy + personShift up)) s := by
  unfold movePerson counted personShift saturate
  generalize (s.zone z).occupancy = n at bound
  congr 1
  cases up with
  | false =>
    simp only [Bool.false_eq_true, if_false]
    omega
  | true =>
    rw [if_pos rfl, if_pos rfl]
    by_cases room : n < Config.countLimit
    · rw [if_pos room]
      rw [Config.countLimit] at room
      omega
    · rw [if_neg room]
      rw [Config.countLimit] at room
      omega

theorem moveClamped_eq (up : Bool) (bound : (s.zone z).occupancy ≤ 65535) :
    s.moveClamped z up = decide (((s.zone z).occupancy : Int) + personShift up < 0 ∨ 65535 < ((s.zone z).occupancy : Int) + personShift up) := by
  unfold State.moveClamped personShift
  generalize (s.zone z).occupancy = n at bound
  cases up with
  | false =>
    rw [if_neg Bool.false_ne_true, if_neg Bool.false_ne_true]
    exact decide_eq_decide.2 (by omega)
  | true =>
    rw [if_pos rfl, if_pos rfl]
    exact decide_eq_decide.2 (by rw [Config.countLimit]; omega)

theorem setOccupancy_zone (z y : ZoneId) (v : Nat) (s : State) :
    (setOccupancy z v s).zone y = if y = z then { s.zone z with occupancy := v } else s.zone y := by
  obtain ⟨same, other⟩ := occupancyChangeEvaluatesMonitors z v s
  by_cases h : (s.zone z).occupancy = v
  · rw [same h]
    split
    · next e => rw [e, ← h]
    · rfl
  · obtain ⟨_, here, elsewhere, _⟩ := other h
    split
    · next e => rw [e]; exact here
    · next ne => exact elsewhere y ne

/-! ## A completed turn -/

/-- Step 1 of an event changes the holds alone. -/
theorem beamArrives_units (i : LaneId) (was now : Bool) (s : State) :
    (∀ y, (s.beamArrives i was now).zone y = s.zone y) ∧ (s.beamArrives i was now).clk = s.clk ∧
      (s.beamArrives i was now).ctl = s.ctl := by
  unfold State.beamArrives
  cases s.hold i with
  | none => exact ⟨fun _ => rfl, rfl, rfl⟩
  | some h =>
    dsimp only
    split
    · exact ⟨fun _ => rfl, rfl, rfl⟩
    · exact ⟨fun _ => rfl, rfl, rfl⟩

/-- The tracker of a turn that its last step completes. -/
def lastQuarter (forward : Bool) : Tracker := if forward = true then ⟨.turning, 3, 3⟩ else ⟨.turning, 1, -3⟩

theorem trackerMove_completes {forward : Bool} (last : (s.lane i).tracker = lastQuarter forward) :
    trackerMove i 0 s = completeTurn i forward (setTracker i ⟨.rest, 0, 0⟩ s) := by
  cases forward with
  | true =>
    have tracker : (s.lane i).tracker = ⟨.turning, 3, 3⟩ := last
    rw [trackerMove_up (by rw [tracker]; decide) (by rw [tracker]; decide), trackerStep]
    simp only [tracker, if_true]
    rfl
  | false =>
    have tracker : (s.lane i).tracker = ⟨.turning, 1, -3⟩ := last
    rw [trackerMove_down (by rw [tracker]; decide) (by rw [tracker]; decide), trackerStep]
    simp only [tracker, if_true]
    rfl

theorem completeTurn_standing (forward : Bool) (standing : ∃ h, s.hold i = some h ∧ h.phase = .standing) :
    completeTurn i forward s = endHold i (if forward = true then .commit else .notPassed) s := if_pos (standingHold_isSome.2 standing)

theorem completeTurn_anonymous (forward : Bool) (free : ¬∃ h, s.hold i = some h ∧ h.phase = .standing) :
    completeTurn i forward s = anonymousPassage i forward s := if_neg fun h => free (standingHold_isSome.1 h)

/-- A passage enters the lane's zone, or leaves it. -/
def entersZone (forward : Bool) (d : Direction) : Bool := if forward = true then d.enters else !d.enters

theorem personShift_entersZone (forward : Bool) (d : Direction) :
    personShift (entersZone forward d) = if forward = decide (d = .entry) then 1 else -1 := by
  cases forward <;> cases d <;> rfl

theorem anonymousPassage_settingUp {forward : Bool} (setting : s.ctl.part = .settingUp) : anonymousPassage i forward s = s := by
  simp only [anonymousPassage, if_pos setting]

theorem anonymousPassage_free (live : s.ctl.part ≠ .settingUp) (free : s.passesFree i = true) :
    anonymousPassage i true s = countFree i (movePerson (s.lane i).zone (entersZone true (s.lane i).direction) s) := by
  simp only [anonymousPassage, if_neg live, if_true, if_pos free]
  rfl

theorem anonymousPassage_recorded {forward : Bool} (live : s.ctl.part ≠ .settingUp) (barred : ¬(forward = true ∧ s.passesFree i = true)) :
    anonymousPassage i forward s =
      passageRecord (if forward = true then .forced else .reverse) i
        (s.moveClamped (s.lane i).zone (entersZone forward (s.lane i).direction))
        (movePerson (s.lane i).zone (entersZone forward (s.lane i).direction) s) := by
  cases forward with
  | true =>
    simp only [anonymousPassage, if_neg live, if_true, if_neg fun h => barred ⟨rfl, h⟩]
    rfl
  | false =>
    simp only [anonymousPassage, if_neg live, Bool.false_eq_true, if_false]
    rfl

theorem countFree_below (below : (s.lane i).tally < 49) :
    countFree i s = s.setLane i { s.lane i with tally := (s.lane i).tally + 1 } := by
  simp only [countFree, State.setLane_lane_same, Config.tallyReport]
  rw [if_neg (by omega)]

theorem countFree_report (full : (s.lane i).tally = 49) :
    countFree i s =
      emit (s.recordNow .tally (some i) (some (s.lane i).zone) {} (detailBytes 50 0 0 0) zeroKey)
        (s.setLane i { s.lane i with tally := 0 }) := by
  have detail : detail4 (BitVec.ofNat 8 50) 0 0 0 = detailBytes 50 0 0 0 := wordOf_detailBytes 50 0 0 0
  simp only [countFree, State.setLane_lane_same, Config.tallyReport, full, if_true, reportTally, emitLane, State.setLane_setLane,
    State.record_recordNow, detail, Nat.reduceAdd, Nat.le_refl]
  rfl

theorem passageRecord_eq (k : RecordKind) (clamped : Bool) :
    passageRecord k i clamped s =
      emit (s.recordNow k (some i) (some (s.lane i).zone) { clamped := clamped }
        (detailCount (s.lane i).mode.code.toNat (s.zone (s.lane i).zone).occupancy) zeroKey) s := by
  have detail : ∀ (c : Byte) n, detailHalf c 0 n = detailCount c.toNat n := fun c n => by
    rw [detailCount, ← wordOf_detailBytes, BitVec.ofNat_toNat, BitVec.setWidth_eq]
    rfl
  simp only [passageRecord, emitLane, detail, State.record_recordNow]

theorem passesFree_iff (enabled : (s.lane i).enabled = true) :
    s.passesFree i = true ↔ s.ctl.part = .running ∧ ((s.lane i).mode = .base .free ∨ (s.lane i).mode = .emergency) := by
  have free : (s.lane i).mode.isFree = true ↔ (s.lane i).mode = .base .free ∨ (s.lane i).mode = .emergency := by
    cases (s.lane i).mode with
    | emergency => simp [LaneMode.isFree]
    | base m => simp [isFree_base]
  simp only [State.passesFree, enabled, State.running, Bool.and_eq_true, decide_eq_true_eq, and_true, free]

end Persons

/-- Settles O44. -/
theorem completedTurns : Obligations.CompletedTurns := by
  unfold Obligations.CompletedTurns
  intro i pins x forward c s arr bounded enabled last away low_a low_b l v standing n w count free does
  have at_c := arrives_lane arr
  have home : armPosition c.level = 0 := by rw [armPosition, low_a, low_b]
  have arms : l.level.armA ≠ c.level.armA ∨ l.level.armB ≠ c.level.armB := by
    rw [low_a, low_b]
    by_contra same
    push Not at same
    exact away (by rw [armPosition, same.1, same.2])
  have change : c.level ≠ l.level := fun h => by
    rcases arms with arm | arm
    · exact arm (congrArg Levels.armA h.symm)
    · exact arm (congrArg Levels.armB h.symm)
  have v_eq : setTracker i ⟨.rest, 0, 0⟩ (beamTaken i c s) = v := by
    have same : ({ c with tracker := ⟨.rest, 0, 0⟩ } : Lane).retrigger = ((s.setLane i c).lane i).retrigger := by
      rw [State.setLane_lane_same]
    rw [setTracker, beamTaken_lane, beamTaken, beamArrives_setLane _ _ same, State.setLane_setLane]
  have v_lane : v.lane i = { c with tracker := ⟨.rest, 0, 0⟩ } := by
    show (State.beamArrives i _ _ _).lane i = _
    rw [beamArrives_lane, State.setLane_lane_same]
  have v_standing : (∃ h, v.hold i = some h ∧ h.phase = .standing) ↔ standing := by
    rw [← standingHold_isSome]
    show ((State.beamArrives i _ _ _).standingHold i).isSome = true ↔ _
    rw [beamArrives_standing, standingHold_isSome]
    rfl
  have v_zone : v.zone l.zone = s.zone l.zone := (beamArrives_units i _ _ _).1 _
  have v_clk : v.clk = s.clk := (beamArrives_units i _ _ _).2.1
  have v_ctl : v.ctl = s.ctl := (beamArrives_units i _ _ _).2.2
  have done : does (completeTurn i forward v) := by
    have moved := exec_arrives_moving arr change ⟨enabled, arms⟩
    rwa [home, trackerMove_completes (by rw [beamTaken_lane, at_c]; exact last), v_eq] at moved
  clear_value v
  have enabled_v : (v.lane i).enabled = true := by rw [v_lane, at_c]; exact enabled
  have zone_v : (v.lane i).zone = l.zone := by rw [v_lane, at_c]
  have direction_v : (v.lane i).direction = l.direction := by rw [v_lane, at_c]
  have mode_v : (v.lane i).mode = l.mode := by rw [v_lane, at_c]
  have bound : (v.zone l.zone).occupancy ≤ 65535 := by rw [v_zone]; exact (bounded _).2
  have n_eq : ((v.zone l.zone).occupancy : Int) + personShift (entersZone forward l.direction) = n := by
    rw [v_zone, personShift_entersZone]
  have w_eq : movePerson l.zone (entersZone forward l.direction) v = w := by rw [movePerson_eq _ bound, n_eq]; rfl
  have w_lane : (w.lane i).zone = l.zone := by
    have modes := setOccupancy_modesFrame l.zone (max 0 (min 65535 n)).toNat v i
    show ((setOccupancy _ _ v).lane i).zone = _
    rw [modes, zone_v]
  have w_zone : (w.zone l.zone).occupancy = (max 0 (min 65535 n)).toNat := by
    show ((setOccupancy _ _ v).zone _).occupancy = _
    rw [setOccupancy_zone, if_pos rfl]
  have w_clk : w.clk = s.clk := (setOccupancy_clk _ _ v).trans v_clk
  have passes : v.passesFree i = true ↔ free := by rw [passesFree_iff enabled_v, v_ctl, mode_v]
  refine ⟨fun standing => ?_, fun unheld setting => ?_, fun unheld forwards free below => ?_, fun unheld forwards free full => ?_,
    fun unheld live barred => ?_⟩
  · rwa [completeTurn_standing forward (v_standing.2 standing)] at done
  · rwa [completeTurn_anonymous forward fun h => unheld (v_standing.1 h), anonymousPassage_settingUp (by rw [v_ctl]; exact setting)] at done
  · have live : v.ctl.part ≠ .settingUp := by rw [v_ctl, free.1]; decide
    subst forwards
    rwa [completeTurn_anonymous true fun h => unheld (v_standing.1 h), anonymousPassage_free live (passes.2 free), zone_v, direction_v,
      w_eq, countFree_below below] at done
  · have live : v.ctl.part ≠ .settingUp := by rw [v_ctl, free.1]; decide
    subst forwards
    rwa [completeTurn_anonymous true fun h => unheld (v_standing.1 h), anonymousPassage_free live (passes.2 free), zone_v, direction_v,
      w_eq, countFree_report full, w_lane, recordNow_clk w_clk] at done
  · rwa [completeTurn_anonymous forward fun h => unheld (v_standing.1 h),
      anonymousPassage_recorded (by rwa [v_ctl]) (by rwa [passes]), zone_v, direction_v, moveClamped_eq _ bound, n_eq, w_eq,
      passageRecord_eq, w_lane, w_zone, recordNow_clk w_clk] at done

end Sys2Proof.Proofs.Events
end

section
/-! PROOFS. How a hold ends (O50). -/

namespace Sys2Proof.Proofs.Endings

open Sys2Proof Sys2Proof.Machine Sys2Proof.Proofs.Keeping Sys2Proof.Proofs.Lanes Sys2Proof.Proofs.Returns Sys2Proof.Proofs.Events

section Endings

variable {i : LaneId} {s : State} {h : Hold} {o : HoldOutcome}

/-- What an outcome adds to the occupancy of the hold's zone (5.3). -/
def outcomeShift (o : HoldOutcome) (d : Direction) : Int :=
  match o, d with
  | .commit, .entry => 1
  | .commit, .exit => -1
  | .notPassed, .entry => -1
  | .notPassed, .exit => 1
  | _, _ => 0

theorem outcomeShift_moves {d : Direction} {up : Bool} (moves : o.moves d = some up) : outcomeShift o d = personShift up := by
  cases o <;> cases d <;> cases moves <;> rfl

theorem outcomeShift_none {d : Direction} (moves : o.moves d = none) : outcomeShift o d = 0 := by
  cases o <;> cases d <;> cases moves <;> rfl

theorem needsClosing_iff :
    h.needsClosing o = true ↔ (∃ k loc t, h.kind = .credential k loc t) ∧ (o = .commit ∨ h.mark.isSome = true ∨ h.revoke.isSome = true) := by
  unfold Hold.needsClosing
  cases h.kind with
  | manual => simp
  | credential k loc t => simp [or_assoc]

theorem endHold_standing (hold : s.hold i = some h) (standing : h.phase = .standing) :
    endHold i o s =
      if h.needsClosing o then
        (s.setHold i (some { h with phase := .closing o })).setTab { s.tab with port := s.tab.port ++ [.closing i] }
      else finishHold i { h with phase := .closing o } o Closing.plain (s.setHold i (some { h with phase := .closing o })) := by
  simp only [endHold, standingHold_eq_some_iff.2 ⟨hold, standing⟩]
  rfl

theorem releaseReserved_eq (h : Hold) (s : State) :
    releaseReserved h s =
      if h.direction = .entry then s.setZone h.zone { s.zone h.zone with reserved := (s.zone h.zone).reserved - 1 } else s := by
  unfold releaseReserved
  cases h.direction <;> rfl

theorem releaseReserved_occupancy (h : Hold) (s : State) :
    ((releaseReserved h s).zone h.zone).occupancy = (s.zone h.zone).occupancy := by
  rw [releaseReserved_eq]
  split
  · rw [State.setZone_zone_same]
  · rfl

/-- A hold is closed with its reservation released, the occupancy moved within its range, and its outcome's record (5.3). -/
theorem finishHold_eq (c : Closing) (bound : (s.zone h.zone).occupancy ≤ 65535) :
    finishHold i h o c s =
      let n : Int := (s.zone h.zone).occupancy + outcomeShift o h.direction
      let w := setOccupancy h.zone (counted n) (releaseReserved h s)
      removeHold i true (emit (outcomeRecord i h o c (decide (n < 0 ∨ 65535 < n)) w) w) := by
  have occupancy := releaseReserved_occupancy h s
  unfold finishHold
  cases moves : o.moves h.direction with
  | none =>
    have same : setOccupancy h.zone (counted (s.zone h.zone).occupancy) (releaseReserved h s) = releaseReserved h s := by
      rw [counted_eq bound, ← occupancy]
      exact setOccupancy_same _ _
    have inside : decide (((s.zone h.zone).occupancy : Int) < 0 ∨ 65535 < ((s.zone h.zone).occupancy : Int)) = false :=
      decide_eq_false (by omega)
    simp only [outcomeShift_none moves, Int.add_zero, same, inside]
  | some up =>
    have bound' : ((releaseReserved h s).zone h.zone).occupancy ≤ 65535 := by rwa [occupancy]
    simp only [movePerson_eq up bound', moveClamped_eq up bound', occupancy, outcomeShift_moves moves]

end Endings

section Records

variable {i : LaneId} {s w : State} {h : Hold} {c : Closing} {b : Bool}

/-- The key of a hold's records. -/
theorem recordKey_eq (h : Hold) : h.recordKey = (match h.kind with | .credential key _ _ => key | .manual => zeroKey) := by
  unfold Hold.recordKey Hold.key
  cases h.kind <;> rfl

theorem detailHalf_count (a n : Nat) : detailHalf (BitVec.ofNat 8 a) 0 n = detailCount a n := by
  rw [detailCount, ← wordOf_detailBytes]
  rfl

theorem commitDetail_eq (count returns tier : Nat) (cluster : Option Byte) :
    detail4 (BitVec.ofNat 8 count) (BitVec.ofNat 8 returns) (BitVec.ofNat 8 tier) (cluster.getD 0xFF) =
      detailBytes count returns tier ((cluster.map BitVec.toNat).getD 255) := by
  rw [← wordOf_detailBytes]
  cases cluster with
  | none => rfl
  | some x =>
    simp only [Option.map_some, Option.getD_some, BitVec.ofNat_toNat, BitVec.setWidth_eq]
    rfl

end Records

/-- Settles O50. -/
theorem holdEndings : Obligations.HoldEndings := by
  unfold Obligations.HoldEndings
  intro i s bounded l
  refine ⟨fun o none_standing => ?_, fun h o hold standing => ?_, fun h o c plain => ?_, fun h hold standing running live rest => ?_,
    fun idle => ?_, fun h pins x c hold standing arr low level => ?_⟩
  · refine endHold_none i o s ?_
    rw [← Option.not_isSome_iff_eq_none, standingHold_isSome]
    exact fun ⟨h, hold, standing⟩ => none_standing h hold standing
  · intro closing asks
    rw [endHold_standing hold standing]
    exact ⟨fun a => if_pos (needsClosing_iff.2 a), fun a => if_neg fun n => a (needsClosing_iff.1 n)⟩
  · intro z n n' released clamped record
    have bound : (s.zone h.zone).occupancy ≤ 65535 := (bounded h.zone).2
    have released_eq : releaseReserved h s = released := releaseReserved_eq h s
    have n_eq : ((s.zone h.zone).occupancy : Int) + outcomeShift o h.direction = n := rfl
    have n'_eq : counted n = n' := rfl
    have still : outcomeShift o h.direction = 0 → clamped = false := fun shift =>
      decide_eq_false (by
        rw [← n_eq, shift, Int.add_zero]
        omega)
    rw [finishHold_eq c bound]
    simp only [released_eq, n_eq, n'_eq]
    have w_clk : (setOccupancy z n' released).clk = s.clk := by
      rw [setOccupancy_clk, ← released_eq]
      exact (releaseReserved_frame h s).clk
    have w_zone : ((setOccupancy z n' released).zone h.zone).occupancy = n' := by rw [setOccupancy_zone, if_pos rfl]
    show removeHold i true (emit (outcomeRecord i h o c clamped (setOccupancy z n' released)) (setOccupancy z n' released)) = _
    congr 2
    have now : ∀ k lane zone f d key, (setOccupancy z n' released).record k lane zone f d key = s.recordNow k lane zone f d key :=
      fun _ _ _ _ _ _ => by rw [State.record_recordNow, recordNow_clk w_clk]
    have key := recordKey_eq h
    have detail : ∀ a, detailHalf (BitVec.ofNat 8 a) 0 n' = detailCount a n' := fun a => detailHalf_count a n'
    clear_value clamped n'
    cases o with
    | commit =>
      cases kind : h.kind with
      | credential k loc tier =>
        simp only [kind] at key
        simp only [outcomeRecord, kind, now, commitDetail_eq, key, record]
        rfl
      | manual =>
        simp only [outcomeRecord, kind, now, w_zone, record, plain kind]
        rw [← wordOf_detailBytes]
        rfl
    | lapsed => simp only [outcomeRecord, now, key, record, still rfl]; rfl
    | notPassed => simp only [outcomeRecord, now, key, record, w_zone, ← detail]; rfl
    | emergency => simp only [outcomeRecord, now, key, record, w_zone, still rfl, ← detail]; rfl
    | fault => simp only [outcomeRecord, now, key, record, w_zone, still rfl, ← detail]; rfl
  · intro out
    have counting : s.countingHold i = some h := by
      have up : s.portUp = true := by simp [State.portUp, State.running, running, live]
      rw [State.countingHold, if_pos ⟨up, rest⟩]
      exact standingHold_eq_some_iff.2 ⟨hold, standing⟩
    have lapsed : lapse i h s = if out.hold i = none then watchEvent i out else out := by
      show (if (out.hold i).isNone then watchEvent i out else out) = _
      cases out.hold i <;> rfl
    show execReleaseTimerExpiry i s = _
    simp only [execReleaseTimerExpiry, counting, lapsed]
  · have counting : s.countingHold i = none := by
      rw [State.countingHold]
      split
      · next counts =>
        rcases idle with stopped | moving | unheld
        · exact absurd (portUp_running counts.1) stopped
        · exact absurd counts.2 moving
        · rw [State.standingHold, unheld]
          rfl
      · rfl
    show execReleaseTimerExpiry i s = _
    simp only [execReleaseTimerExpiry, counting]
  · have change : c.level ≠ l.level := fun same => by
      have risen := congrArg Levels.beam (same.symm.trans level)
      rw [low] at risen
      cases risen
    have still : ¬((s.lane i).enabled = true ∧ ((s.lane i).level.armA ≠ c.level.armA ∨ (s.lane i).level.armB ≠ c.level.armB)) := by
      rw [level]
      exact fun moves => moves.2.elim (fun m => m rfl) (fun m => m rfl)
    have fire : c.level.fire = (s.lane i).level.fire := by rw [level]
    have retrigger : c.retrigger = l.retrigger := by rw [arrives_lane arr]
    have beam : c.level.beam = true := by rw [level]
    have taken : beamTaken i c s = (s.setLane i c).setHold i (some (h.beamArrives l.retrigger)) := by
      simp only [beamTaken, State.beamArrives, State.setLane_hold, hold, State.setLane_lane_same, retrigger]
      exact if_pos ⟨low, beam, standing⟩
    rw [exec_arrives_still arr change still, State.eventEnds, fire, fireArrives_idle, taken]

end Sys2Proof.Proofs.Endings
end

section
/-! PROOFS. MANUAL requests (O51), and the first look at a PRESENT (O52). -/

namespace Sys2Proof.Proofs.Admission

open Sys2Proof Sys2Proof.Machine Sys2Proof.Proofs.Requests

/-! ## The lane checks -/

theorem locked_iff (l : Lane) : l.locked = true ↔ l.watch.lock = true ∧ (l.alert = .pending ∨ l.alert = .inService) := by
  unfold Lane.locked
  cases l.alert <;> simp

section LaneChecks

variable {s : State} {i : LaneId}

/-- Checks 1 to 4 are the table's. -/
theorem laneReason_checks4 (s : State) (i : LaneId) : s.laneReason i false = s.laneChecks4 i := by
  unfold State.laneReason State.laneChecks4
  simp only [← locked_iff, Bool.false_eq_true, false_and, if_false]
  by_cases disabled : (s.lane i).enabled = false
  · rw [if_pos disabled, if_pos disabled]
  · rw [if_neg disabled, if_neg disabled]
    cases (s.lane i).mode with
    | emergency => simp
    | base m => cases m <;> simp

/-- Checks 1 to 5 are the table's. -/
theorem laneReason_checks5 (s : State) (i : LaneId) : s.laneReason i true = s.laneChecks5 i := by
  have four := laneReason_checks4 s i
  have five : s.laneReason i true =
      match s.laneReason i false with
      | some r => some r
      | none => if (s.hold i).isSome = true then some .laneBusy else none := by
    unfold State.laneReason
    simp only [Bool.false_eq_true, false_and, if_false, true_and]
    split
    · rfl
    · split
      · rfl
      · split
        · rfl
        · split
          · rfl
          · split <;> rfl
  rw [five, four, State.laneChecks5] <;> cases s.laneChecks4 i <;> rfl

end LaneChecks

/-! ## MANUAL -/

/-- A hold that is created reserves a place where its lane is an ENTRY lane. -/
theorem createHold_eq (i : LaneId) (k : HoldKind) (s : State) :
    createHold i k s =
      let l := s.lane i
      let held := s.setHold i (some ⟨k, l.direction, l.zone, .standing, l.holdTime, 0, l.holdTime, 0,
        if s.clk.valid then s.clk.value else 0, false, none, none⟩)
      let z := s.zone l.zone
      if l.direction = .entry then held.setZone l.zone { z with reserved := z.reserved + 1 } else held := by
  have taken : ∀ (h : Hold) (t : State), takeReserved h t =
      if h.direction = .entry then t.setZone h.zone { t.zone h.zone with reserved := (t.zone h.zone).reserved + 1 } else t := fun h t => by
    unfold takeReserved
    cases h.direction <;> rfl
  unfold createHold
  simp only [taken]
  rfl

section Manual

variable {s : State} {ring : Ring} {d : Desc} {i : LaneId}

theorem byte_eq_iff {b : Byte} {n : Nat} (small : n < 256) : b = BitVec.ofNat 8 n ↔ b.toNat = n := by
  constructor
  · rintro rfl
    rw [BitVec.toNat_ofNat]
    omega
  · rintro rfl
    exact ((BitVec.ofNat_toNat 8 b).trans (by rfl)).symm

/-- A MANUAL request that names no action or no lane. -/
theorem manual_malformed (took : s.GateTook ring .manual d) (bad : 8 ≤ d.lane.toNat ∨ 2 ≤ (d.byte 0).toNat) :
    ((d.byte 0).toNat ≠ 1 → execManualRelease s = .next (examineGate (gateHandBack ring d ⟨.malformed, [], []⟩ s))) ∧
      ((d.byte 0).toNat ≠ 0 → execManualEscort s = .next (examineGate (gateHandBack ring d ⟨.malformed, [], []⟩ s))) := by
  have returned : returnGate d (Reply.bare .malformed) s = examineGate (gateHandBack ring d ⟨.malformed, [], []⟩ s) :=
    returnGate_eq took.2.2.1
  have low : ∀ {i}, laneOf d.lane = some i → 2 ≤ (d.byte 0).toNat := fun lane => bad.resolve_left fun h => by
    rw [laneOf_eq_none.2 h] at lane
    cases lane
  constructor
  · intro other
    have claim : claimsAction 0 0 1 (d.byte 0) = true := claimsAction_eq_true.2 (by omega)
    simp only [execManualRelease, gateTaken_of_took took claim, returned]
    cases lane : laneOf d.lane with
    | none => rfl
    | some i =>
      have named : d.byte 0 ≠ 0 := fun h => by
        have big := low lane
        rw [h] at big
        exact absurd big (by decide)
      simp only [if_neg named]
  · intro other
    have claim : claimsAction 1 0 1 (d.byte 0) = true := claimsAction_eq_true.2 (by omega)
    simp only [execManualEscort, gateTaken_of_took took claim, returned]
    cases lane : laneOf d.lane with
    | none => rfl
    | some i =>
      have named : d.byte 0 ≠ 1 := fun h => by
        have big := low lane
        rw [h] at big
        exact absurd big (by decide)
      simp only [if_neg named]

theorem execManualRelease_at (took : s.GateTook ring .manual d) (code : (d.byte 0).toNat = 0) (lane : d.lane = BitVec.ofNat 8 i.val) :
    execManualRelease s = .next (manualReleaseAt d i s) := by
  have named : d.byte 0 = 0 := (byte_eq_iff (by decide)).2 code
  simp only [execManualRelease, gateTaken_of_took took (claimsAction_eq_true.2 (.inl code)), lane, laneOf_ofNat, if_pos named]

theorem execManualEscort_at (took : s.GateTook ring .manual d) (code : (d.byte 0).toNat = 1) (lane : d.lane = BitVec.ofNat 8 i.val) :
    execManualEscort s = .next (manualEscortAt d i s) := by
  have named : d.byte 0 = 1 := (byte_eq_iff (by decide)).2 code
  simp only [execManualEscort, gateTaken_of_took took (claimsAction_eq_true.2 (.inl code)), lane, laneOf_ofNat, if_pos named]

end Manual

theorem createHold_cfg (i : LaneId) (k : HoldKind) (s : State) : (createHold i k s).cfg = s.cfg := by
  rw [createHold_eq]
  dsimp only
  split <;> rfl

/-- Settles O51. -/
theorem manualRequests : Obligations.ManualRequests := by
  unfold Obligations.ManualRequests
  refine ⟨fun i s live => ?_, fun s ring d took => ⟨fun bad => manual_malformed took bad, fun i lane => ?_⟩⟩
  · show Host.Outcome.next (whileUp _ s) = _
    simp only [whileUp, live, Bool.false_eq_true, if_false]
  · intro l refusal h held z reserved
    have cfg : s.cfg.gate = some ring := took.2.2.1
    refine ⟨fun code r reason => ?_, fun code reason => ?_, fun code r reason => ?_, fun code reason => ?_⟩
    · rw [laneReason_checks5] at reason
      show execManualRelease s = _
      simp only [execManualRelease_at took code lane, manualReleaseAt, reason, returnGate_eq cfg]
      rfl
    · rw [laneReason_checks5] at reason
      have created : createHold i .manual s = reserved := createHold_eq i .manual s
      have cfg' : (watchEvent i reserved).cfg.gate = some ring := by rw [watchEvent_cfg, ← created, createHold_cfg, cfg]
      show execManualRelease s = _
      simp only [execManualRelease_at took code lane, manualReleaseAt, reason, created, returnGate_eq cfg']
      rfl
    · rw [laneReason_checks4] at reason
      show execManualEscort s = _
      simp only [execManualEscort_at took code lane, manualEscortAt, reason, returnGate_eq cfg]
      rfl
    · rw [laneReason_checks4] at reason
      show execManualEscort s = _
      have cfg' : (s.setLane i { l with token := some ⟨l.escortTime, 0⟩ }).cfg.gate = some ring := cfg
      have replaced : manualReply none l.zone l.token.isSome = ⟨.done, [1, 0, BitVec.ofNat 8 l.zone.val, if l.token = none then 0 else 1], []⟩ := by
        cases token : l.token <;> simp [manualReply, flagByte, decisionCode, Reason.code]
      simp only [execManualEscort_at took code lane, manualEscortAt, reason]
      rw [returnGate_eq cfg', replaced]

/-! ## PRESENT -/

theorem bit_bitNat (b : Bool) (n : Nat) : (if b = true then n else 0) = n * bitNat b := by cases b <;> simp [bitNat]

/-- The return of a decision lays out its fields. -/
theorem finding_reply (f : Finding) (z : ZoneId) :
    f.reply z = presentReply f.reason z f.tier f.entry f.holding f.noClock f.bypassed := by
  have zero : ∀ {n} (o : Option (Fin n)), finByteZero o = BitVec.ofNat 8 ((o.map Fin.val).getD 0) := fun o => by cases o <;> rfl
  unfold Finding.reply presentReply Finding.presence
  simp only [bit_bitNat, Nat.one_mul, zero]
  rfl

section Present

variable {s : State} {ring : Ring} {d : Desc} {i : LaneId}

theorem execPresent_eq (took : s.GateTook ring .present d) : execPresent s = .next (presentDesc d s) := by
  have taken : s.gateTaken .present claimsAll = some d := gateTaken_of_took took rfl
  simp only [execPresent, taken]

theorem refusePresent_eq (cfg : s.cfg.gate = some ring) (r : Reason) :
    refusePresent d i r s =
      examineGate (gateHandBack ring d (presentReply (some r) (s.lane i).zone none none none false false) s) := by
  rw [refusePresent, returnGate_eq cfg, finding_reply]

/-- A PRESENT at a lane that lets it through does what its credential's normalisation gives. -/
theorem presentDesc_normalise (lane : d.lane = BitVec.ofNat 8 i.val) (free : s.laneReason i true = none) :
    presentDesc d s =
      match normalise s.adm.scheme (d.byte 0) (d.byte 1) ((d.payload.drop 2).take 32) with
      | .malformed => returnGate d (Reply.bare .malformed) s
      | .unreadable => refusePresent d i .unreadable s
      | .badCheck => refusePresent d i .badCheck s
      | .key k => askLookup d k s := by
  rw [laneReason_checks5] at free
  simp only [presentDesc, lane, laneOf_ofNat, free] <;> rfl

/-- The credential's bytes, as the descriptor's payload holds them. -/
theorem credential_bytes (length : d.payload.length = 40) {len : Nat} (short : len ≤ 32) :
    ((d.payload.drop 2).take 32).take len = (List.range len).map (fun j => d.byte (2 + j)) := by
  apply List.ext_getElem
  · simp only [List.length_take, List.length_drop, List.length_map, List.length_range]
    omega
  · intro j hj _
    have inside : j < len := by
      simp only [List.length_take] at hj
      omega
    simp only [List.getElem_take, List.getElem_drop, List.getElem_map, List.getElem_range, Desc.byte, byteAt]
    rw [List.getD_eq_getElem _ _ (by omega)]

theorem normalise_malformed (scheme : CheckScheme) {kind len : Byte} (payload : List Byte)
    (bad : (kind ≠ 1 ∧ kind ≠ 2) ∨ 32 < len.toNat) : normalise scheme kind len payload = .malformed := if_pos bad

theorem normalise_barcode (scheme : CheckScheme) {len : Byte} (payload : List Byte) (short : len.toNat ≤ 32) :
    normalise scheme 1 len payload =
      let bs := payload.take len.toNat
      if barcodeAccepted bs then
        if scheme = .mod10 ∧ mod10Passes (digitsOf bs) = false then .badCheck else .key (packBarcode (digitsOf bs))
      else .unreadable := by
  unfold normalise
  rw [if_neg fun bad => bad.elim (fun k => k.1 rfl) (fun l => by omega), if_pos rfl]

theorem normalise_card (scheme : CheckScheme) {len : Byte} (payload : List Byte) (short : len.toNat ≤ 32) :
    normalise scheme 2 len payload =
      let bs := payload.take len.toNat
      if cardAccepted bs then .key (packCard bs) else .unreadable := by
  unfold normalise
  rw [if_neg fun bad => bad.elim (fun k => k.2 rfl) (fun l => by omega), if_neg (by decide)]

theorem barcodeAccepted_iff (bs : List Byte) :
    barcodeAccepted bs = true ↔ 6 ≤ bs.length ∧ bs.length ≤ 28 ∧ ∀ b ∈ bs, 0x30 ≤ b.toNat ∧ b.toNat ≤ 0x39 := by
  simp [barcodeAccepted, isDigit, and_assoc]

end Present

/-- Settles O52. -/
theorem presentTakesTheFirstLook : Obligations.PresentTakesTheFirstLook := by
  unfold Obligations.PresentTakesTheFirstLook
  intro s ring d took length back
  have cfg : s.cfg.gate = some ring := took.2.2.1
  have present : exec .present s = .next (presentDesc d s) := execPresent_eq took
  refine ⟨fun far => ?_, fun i lane => ?_⟩
  · rw [present, presentDesc, laneOf_eq_none.2 far]
    exact congrArg _ (returnGate_eq cfg)
  · intro len bytes digits barcode card refuse ask
    have refused : ∀ r, Host.Outcome.next (refusePresent d i r s) = refuse r := fun r => congrArg _ (refusePresent_eq cfg r)
    have bytes_length : bytes.length = len := by simp [bytes]
    have taken : len ≤ 32 → ((d.payload.drop 2).take 32).take (d.byte 1).toNat = bytes := credential_bytes length
    have barcode_iff : barcodeAccepted bytes = true ↔ barcode := by rw [barcodeAccepted_iff, bytes_length]
    have card_iff : cardAccepted bytes = true ↔ card := by
      unfold cardAccepted
      rw [bytes_length, decide_eq_true_iff]
    refine ⟨fun r reason => ?_, fun free bad => ?_, fun free kind short => ?_, fun free kind short => ?_⟩
    · rw [laneReason_checks5] at reason
      rw [present, ← refused]
      simp only [presentDesc, lane, laneOf_ofNat, reason]
    · rw [present, presentDesc_normalise lane free, normalise_malformed _ _ bad]
      exact congrArg _ (returnGate_eq cfg)
    · have normal := normalise_barcode s.adm.scheme (len := d.byte 1) ((d.payload.drop 2).take 32) short
      simp only [taken short] at normal
      rw [present, presentDesc_normalise lane free, kind, normal]
      refine ⟨fun other => ?_, fun is_barcode scheme fails => ?_, fun is_barcode passes => ?_⟩
      · rw [if_neg fun h => other (barcode_iff.1 h)]
        exact refused .unreadable
      · rw [if_pos (barcode_iff.2 is_barcode), if_pos ⟨scheme, fails⟩]
        exact refused .badCheck
      · rw [if_pos (barcode_iff.2 is_barcode), if_neg fun bad => ?_]
        · rfl
        · rcases passes with none_scheme | pass
          · rw [none_scheme] at bad
            cases bad.1
          · exact absurd (pass.symm.trans bad.2) (by decide)
    · have normal := normalise_card s.adm.scheme (len := d.byte 1) ((d.payload.drop 2).take 32) short
      simp only [taken short] at normal
      rw [present, presentDesc_normalise lane free, kind, normal]
      refine ⟨fun other => ?_, fun is_card => ?_⟩
      · rw [if_neg fun h => other (card_iff.1 h)]
        exact refused .unreadable
      · rw [if_pos (card_iff.2 is_card)]
        rfl

end Sys2Proof.Proofs.Admission
end

section
/-! PROOFS. Admission lookups (O53, O54). -/

namespace Sys2Proof.Proofs.Admission

open Sys2Proof Sys2Proof.Machine Sys2Proof.Proofs.Keeping Sys2Proof.Proofs.Requests Sys2Proof.Proofs.Events

section Checks

variable {s : State} {i : LaneId} {e : Entry} {key : Key}

/-! ## The holding lane -/

/-- The holding lane is the lowest lane that holds the key. -/
theorem heldAt_lowest {j : LaneId} (held : s.HeldAt key j) (lowest : ∀ k, s.HeldAt key k → j ≤ k) : s.heldAt key = some j := by
  have sorted : laneOrder.Pairwise (· < ·) := by decide
  cases found : s.heldAt key with
  | none => exact absurd held (heldAt_eq_none_iff.1 found j)
  | some k =>
    obtain ⟨-, before, after, split, others⟩ := List.find?_eq_some_iff_append.1 found
    have low := lowest k (heldAt_eq_some found)
    have every := mem_laneOrder j
    rw [split] at every sorted
    rcases List.mem_append.1 every with early | late
    · have free := others j early
      rw [Bool.not_eq_true', decide_eq_false_iff_not] at free
      exact absurd held free
    · rcases List.mem_cons.1 late with rfl | late
      · rfl
      · have above := (List.pairwise_cons.1 (List.pairwise_append.1 sorted).2.1).1 j late
        exact absurd low (not_le.2 above)

/-! ## The time window (check 14) -/

theorem windowCheck_early (early : s.beforeOpen e) : s.windowCheck (s.adm.profiles.get e.profile) = (some .tooEarly, false) := by
  obtain ⟨valid, opens, before⟩ := early
  unfold State.windowCheck
  rw [if_neg (by rw [opens]; simp), if_neg (by rw [valid]; decide), if_pos]
  refine ⟨opens, ?_⟩
  rw [State.now, if_pos valid, BitVec.slt_eq_decide, decide_eq_true_iff]
  exact before

theorem windowCheck_late (early : ¬s.beforeOpen e) (late : s.afterClose e) :
    s.windowCheck (s.adm.profiles.get e.profile) = (some .tooLate, false) := by
  obtain ⟨valid, closes, after⟩ := late
  unfold State.windowCheck
  rw [if_neg (by rw [closes]; simp), if_neg (by rw [valid]; decide), if_neg, if_pos]
  · refine ⟨closes, ?_⟩
    rw [State.now, if_pos valid, BitVec.slt_eq_decide, decide_eq_false_iff_not]
    exact not_lt.2 after
  · rintro ⟨opens, before⟩
    rw [State.now, if_pos valid, BitVec.slt_eq_decide, decide_eq_true_iff] at before
    exact early ⟨valid, opens, before⟩

/-- A window that lets the key through notes whether it lacked a clock. -/
theorem windowCheck_inside (early : ¬s.beforeOpen e) (late : ¬s.afterClose e) :
    s.windowCheck (s.adm.profiles.get e.profile) =
      (none, decide (s.clk.valid = false ∧ ((s.adm.profiles.get e.profile).noOpen = false ∨ (s.adm.profiles.get e.profile).noClose = false))) := by
  unfold State.windowCheck
  by_cases open_ended : (s.adm.profiles.get e.profile).noOpen = true ∧ (s.adm.profiles.get e.profile).noClose = true
  · rw [if_pos open_ended, decide_eq_false]
    rw [open_ended.1, open_ended.2]
    simp
  · rw [if_neg open_ended]
    have bounded : (s.adm.profiles.get e.profile).noOpen = false ∨ (s.adm.profiles.get e.profile).noClose = false := by
      rw [Classical.not_and_iff_not_or_not, Bool.not_eq_true, Bool.not_eq_true] at open_ended
      exact open_ended
    by_cases unset : s.clk.valid = false
    · rw [if_pos unset, decide_eq_true ⟨unset, bounded⟩]
    · have valid : s.clk.valid = true := by simpa using unset
      rw [if_neg unset, if_neg, if_neg, decide_eq_false fun h => unset h.1]
      · rintro ⟨closes, after⟩
        rw [State.now, if_pos valid, BitVec.slt_eq_decide, decide_eq_false_iff_not] at after
        exact late ⟨valid, closes, not_lt.1 after⟩
      · rintro ⟨opens, before⟩
        rw [State.now, if_pos valid, BitVec.slt_eq_decide, decide_eq_true_iff] at before
        exact early ⟨valid, opens, before⟩

/-! ## Checks 12 to 15 -/

theorem entryGrantCheck_passes (pass : s.EntryGrantPasses i e) : entryGrantCheck (s.lane i) e = none := by
  unfold entryGrantCheck
  rcases pass with ⟨grant, fresh⟩ | grant | ⟨grant, token⟩
  · rw [grant]; exact if_pos fresh
  · rw [grant]
  · rw [grant]; exact if_pos token

/-- An entry lane's checks, past the grant, on an entry that is not INSIDE. -/
theorem tierChecks_entry {tier : Fin 4} (entry : (s.lane i).direction = .entry) (outside : e.state ≠ .inside)
    (pass : s.EntryGrantPasses i e) :
    s.tierChecks i e tier =
      let w := if tier.val < 2 then (none, false) else s.windowCheck (s.adm.profiles.get e.profile)
      if w.1 ≠ none then w
      else if tier.val = 3 ∧ (s.zone (s.lane i).zone).noRoom = true then (some .zoneFull, w.2)
      else w := by
  simp only [State.tierChecks, entry, if_neg outside, entryGrantCheck_passes pass]

theorem tierChecks_refuses {r : Reason} (refuses : Refuses s i e r) :
    s.tierChecks i e (s.effectiveTier i e) =
      (some r, decide (r = .zoneFull ∧ s.clk.valid = false ∧
        ((s.adm.profiles.get e.profile).noOpen = false ∨ (s.adm.profiles.get e.profile).noClose = false))) := by
  cases refuses with
  | alreadyIn entry inside => simp [State.tierChecks, entry, inside]
  | entryNever entry outside grant => simp [State.tierChecks, entry, outside, entryGrantCheck, grant]
  | used entry outside grant spent => simp [State.tierChecks, entry, outside, entryGrantCheck, grant, spent]
  | needEscort entry outside grant token => simp [State.tierChecks, entry, outside, entryGrantCheck, grant, token]
  | tooEarly entry outside pass tier early =>
    rw [tierChecks_entry entry outside pass]
    simp [Nat.not_lt.2 tier, windowCheck_early early]
  | tooLate entry outside pass tier early late =>
    rw [tierChecks_entry entry outside pass]
    simp [Nat.not_lt.2 tier, windowCheck_late early late]
  | zoneFull entry outside pass tier early late capacity room =>
    have full : (s.zone (s.lane i).zone).noRoom = true := decide_eq_true ⟨capacity, room⟩
    rw [tierChecks_entry entry outside pass, tier]
    simp [windowCheck_inside early late, full]
  | notInside exit outside => simp [State.tierChecks, exit, outside]
  | exitNever exit inside grant => simp [State.tierChecks, exit, inside, exitGrantCheck, grant]
  | exitKind exit inside grant =>
    rcases grant with grant | grant
    · simp [State.tierChecks, exit, inside, exitGrantCheck, grant]
    · simp [State.tierChecks, exit, inside, exitGrantCheck, grant]
  | exitSpent exit inside grant spent => simp [State.tierChecks, exit, inside, exitGrantCheck, grant, spent]

/-- An entry that no check refuses passes the grant of its lane. -/
theorem entryGrantPasses_of_free (free : ∀ r, ¬Refuses s i e r) (entry : (s.lane i).direction = .entry) (outside : e.state ≠ .inside) :
    s.EntryGrantPasses i e := by
  cases grant : e.grant (s.lane i).zone with
  | never => exact absurd (.entryNever entry outside grant) (free _)
  | once => exact .inl ⟨grant, by_contra fun spent => free _ (.used entry outside grant spent)⟩
  | returning => exact .inr (.inl grant)
  | escort =>
    refine .inr (.inr ⟨grant, ?_⟩)
    cases token : (s.lane i).token with
    | none => exact absurd (.needEscort entry outside grant token) (free _)
    | some t => rfl

theorem tierChecks_free (free : ∀ r, ¬Refuses s i e r) :
    s.tierChecks i e (s.effectiveTier i e) =
      (none, decide ((s.lane i).direction = .entry ∧ 2 ≤ (s.effectiveTier i e).val ∧ s.clk.valid = false ∧
        ((s.adm.profiles.get e.profile).noOpen = false ∨ (s.adm.profiles.get e.profile).noClose = false))) := by
  cases direction : (s.lane i).direction with
  | exit =>
    have inside : e.state = .inside := by_contra fun outside => free _ (.notInside direction outside)
    have grant : exitGrantCheck (s.lane i) e = none := by
      unfold exitGrantCheck
      cases grant : e.grant (s.lane i).zone with
      | never => exact absurd (.exitNever direction inside grant) (free _)
      | once => exact absurd (.exitKind direction inside (.inl grant)) (free _)
      | escort => exact absurd (.exitKind direction inside (.inr grant)) (free _)
      | returning => exact if_neg fun spent => free _ (.exitSpent direction inside grant spent)
    simp [State.tierChecks, direction, inside, grant]
  | entry =>
    have outside : e.state ≠ .inside := fun inside => free _ (.alreadyIn direction inside)
    have pass := entryGrantPasses_of_free free direction outside
    rw [tierChecks_entry direction outside pass]
    by_cases tier : 2 ≤ (s.effectiveTier i e).val
    · have early : ¬s.beforeOpen e := fun early => free _ (.tooEarly direction outside pass tier early)
      have late : ¬s.afterClose e := fun late => free _ (.tooLate direction outside pass tier early late)
      have room : ¬((s.effectiveTier i e).val = 3 ∧ (s.zone (s.lane i).zone).noRoom = true) := fun ⟨three, full⟩ => by
        obtain ⟨capacity, full⟩ := of_decide_eq_true full
        exact free _ (.zoneFull direction outside pass (Fin.ext three) early late capacity full)
      simp only [if_neg (Nat.not_lt.2 tier), windowCheck_inside early late, if_neg room, ne_eq, not_true_eq_false, if_false, tier, true_and]
    · have room : ¬((s.effectiveTier i e).val = 3 ∧ (s.zone (s.lane i).zone).noRoom = true) := fun h => by omega
      simp only [if_pos (Nat.not_le.1 tier), if_neg room, ne_eq, not_true_eq_false, if_false, tier, false_and, and_false, decide_false]

end Checks

section Lookup

variable {s : State} {ring : Ring} {d : Desc} {i : LaneId} {key : Key}

/-! ## The decision of a lookup -/

theorem laneReason_not_tableError {r : Reason} {b : Bool} (reason : s.laneReason i b = some r) : r ≠ .tableError := by
  rintro rfl
  unfold State.laneReason at reason
  split at reason
  · cases reason
  · split at reason
    · cases reason
    · split at reason
      · cases reason
      · split at reason
        · cases reason
        · split at reason
          · cases reason
          · split at reason <;> cases reason

theorem judge_lane {r : Reason} (reason : s.laneReason i true = some r) : s.judge i key = ⟨{ reason := some r }, none⟩ := by
  rw [laneReason_checks5] at reason
  simp only [State.judge, reason]

theorem judge_excluded (free : s.laneReason i true = none) (valid : s.tab.filter = .valid) (absent : filterIndex key ∉ s.tab.presence) :
    s.judge i key = ⟨{ reason := some .unknown }, none⟩ := by
  rw [laneReason_checks5] at free
  simp only [State.judge, free]
  exact if_pos ⟨valid, absent⟩

/-- A lookup that the filter does not exclude decides on what the walk finds. -/
theorem judge_walk (free : s.laneReason i true = none) (may : s.tab.filter ≠ .valid ∨ filterIndex key ∈ s.tab.presence) :
    s.judge i key =
      match s.lookup key with
      | .failed => ⟨{ reason := some .tableError, bypassed := decide (s.tab.filter ≠ .valid) }, none⟩
      | .absent => ⟨{ reason := some .unknown, bypassed := decide (s.tab.filter ≠ .valid) }, none⟩
      | .found loc e => s.judgeEntry i key (decide (s.tab.filter ≠ .valid)) loc e := by
  rw [laneReason_checks5] at free
  simp only [State.judge, free]
  rw [if_neg fun h => may.elim (fun m => m h.1) h.2] <;> rfl

/-- An entry that may be admitted is judged by its tier. -/
theorem judgeEntry_tier {b : Bool} {loc : Location} {e : Entry} (stands : e.state ≠ .revoked) (unheld : ∀ j, ¬s.HeldAt key j) :
    s.judgeEntry i key b loc e =
      let tier := s.effectiveTier i e
      let c := if tier = 0 then (none, false) else s.tierChecks i e tier
      ⟨{ reason := c.1, tier := some tier, entry := some e, noClock := c.2, bypassed := b }, if c.1 = none then some loc else none⟩ := by
  simp only [State.judgeEntry, if_neg stands, heldAt_eq_none_iff.2 unheld]
  rfl

/-- A decision that refuses for another reason than a failing word changes nothing. -/
theorem applyVerdict_refused {v : Verdict} (location : v.location = none) (reason : v.finding.reason ≠ some .tableError) :
    applyVerdict i key v s = s := by
  simp only [applyVerdict, location, if_neg reason]

/-- The record of a failing word. -/
theorem tableFault_eq (op : TableOp) (bucket : Nat) (lane : Option LaneId) (zone : Option ZoneId) (key : Key) (s : State) :
    tableFault op bucket lane zone key s =
      emit (s.recordNow .tableFault lane zone {} (detailBytes bucket (bucket / 256) (bucket / 65536) op.code.toNat) key)
        (notify .tableFault s) := by
  have detail : detail4 (BitVec.ofNat 8 bucket) (BitVec.ofNat 8 (bucket / 256)) (BitVec.ofNat 8 (bucket / 65536)) op.code =
      detailBytes bucket (bucket / 256) (bucket / 65536) op.code.toNat := by
    rw [← wordOf_detailBytes, BitVec.ofNat_toNat, BitVec.setWidth_eq]
    rfl
  simp only [tableFault, detail, State.record_recordNow]
  rw [recordNow_clk (notify_clk _ _)]

/-- A lookup at the port is carried out whole, on the table as the damage named leaves it. -/
theorem exec_admissionLookup (bad : List TableWord) (waits : s.LookupAtPort ring d i key) :
    exec (.admissionLookup bad) s = .next (lookupOperation d i key (popPort (damage bad s))) := by
  obtain ⟨part, up, -, port, work, lane⟩ := waits
  have serves : s.portUp = true := by simp [State.portUp, State.running, part, up]
  obtain ⟨rest, front⟩ : ∃ rest, s.tab.port = .lookup :: rest := by
    cases queue : s.tab.port with
    | nil => rw [queue] at port; cases port
    | cons x rest => rw [queue] at port; cases port; exact ⟨rest, rfl⟩
  have due : s.lookupDue = some (d, i, key) := by
    simp only [State.lookupDue, front, work, lane, laneOf_ofNat]
    rfl
  show execAdmissionLookup bad s = _
  simp only [execAdmissionLookup, if_pos serves, due]

/-- A refusal is returned with what the decision read. -/
theorem lookup_refused {u : State} {f : Finding} (cfg : u.cfg.gate = some ring) (judged : u.judge i key = ⟨f, none⟩)
    (reason : f.reason ≠ some .tableError) :
    lookupOperation d i key u =
      examineGate (gateHandBack ring d
        (presentReply f.reason (u.lane i).zone f.tier f.entry f.holding f.noClock f.bypassed) u) := by
  simp only [lookupOperation, judged]
  rw [applyVerdict_refused rfl reason, returnGate_eq cfg, finding_reply]

end Lookup

/-- Settles O54. -/
theorem lookupRefuses : Obligations.LookupRefuses := by
  unfold Obligations.LookupRefuses
  intro bad s ring d i key waits u z bypass bucket refuse
  have cfg : u.cfg.gate = some ring := waits.2.2.1
  have whole : exec (.admissionLookup bad) s = .next (lookupOperation d i key u) := exec_admissionLookup bad waits
  have lane : (u.lane i).zone = z := rfl
  have same_reason : u.laneReason i true = s.laneReason i true := rfl
  have same_filter : u.tab.filter = s.tab.filter ∧ u.tab.presence = s.tab.presence := ⟨rfl, rfl⟩
  have same_checks : ∀ e tier, u.tierChecks i e tier = s.tierChecks i e tier := fun _ _ => rfl
  have same_tier : ∀ e, u.effectiveTier i e = s.effectiveTier i e := fun _ => rfl
  have same_holds : ∀ j, u.HeldAt key j ↔ s.HeldAt key j := fun _ => Iff.rfl
  have same_clk : u.clk = s.clk := rfl
  have bucket_eq : u.bucketOf key = bucket := rfl
  clear_value u
  have answer : ∀ f : Finding, u.judge i key = ⟨f, none⟩ → ∀ r, f.reason = some r → r ≠ .tableError →
      exec (.admissionLookup bad) s = refuse r f.tier f.entry f.holding f.noClock f.bypassed u := fun f judged r reason other => by
    have refused := lookup_refused (d := d) cfg judged (by rw [reason]; exact fun h => other (Option.some.inj h))
    rw [whole, refused, reason, lane]
  refine ⟨fun r reason => ?_, fun free valid absent => ?_, fun free may => ⟨fun absent => ?_, fun failed => ?_, fun loc e found => ?_⟩⟩
  · exact answer _ (judge_lane (by rw [same_reason, reason])) r rfl (laneReason_not_tableError reason)
  · refine answer _ (judge_excluded (by rw [same_reason, free]) ?_ ?_) _ rfl (by decide)
    · rw [same_filter.1, valid]
    · rwa [same_filter.2]
  all_goals have walk := judge_walk (i := i) (key := key) (same_reason.trans free) (by rwa [same_filter.1, same_filter.2])
  · rw [absent, same_filter.1] at walk
    exact answer _ walk _ rfl (by decide)
  · rw [failed, same_filter.1] at walk
    have fault : applyVerdict i key (u.judge i key) u = tableFault .admission bucket (some i) (some z) key u := by
      rw [walk]
      simp only [applyVerdict, if_true, lane, bucket_eq]
    have cfg' : (tableFault .admission bucket (some i) (some z) key u).cfg.gate = some ring := by
      rw [tableFault_eq, emit_cfg, notify_cfg, cfg]
    rw [whole, lookupOperation]
    simp only [fault]
    rw [returnGate_eq cfg', finding_reply, walk, lane, tableFault_eq, recordNow_clk same_clk]
    rfl
  · have judged : u.judge i key = u.judgeEntry i key bypass loc e := by
      rw [walk, found, same_filter.1]
    refine ⟨fun revoked => ?_, fun stands j held lowest => ?_, fun stands unheld tier r refuses => ?_⟩
    · rw [State.judgeEntry, if_pos revoked] at judged
      exact answer _ judged .revoked rfl (by decide)
    · have holder : u.heldAt key = some j := heldAt_lowest ((same_holds j).2 held) fun k h => lowest k ((same_holds k).1 h)
      rw [State.judgeEntry, if_neg stands, holder] at judged
      exact answer _ judged .inUse rfl (by decide)
    · have checks := tierChecks_refuses refuses
      have other : r ≠ .tableError := by rintro rfl; cases refuses
      rw [judgeEntry_tier stands fun j h => unheld j ((same_holds j).1 h)] at judged
      simp only [same_tier, same_checks, if_neg tier, checks] at judged
      exact answer _ judged r rfl other

/-- An entry that the checks let through is admitted at its location. -/
theorem judgeEntry_admits {s : State} {i : LaneId} {key : Key} {b : Bool} {loc : Location} {e : Entry} (stands : e.state ≠ .revoked)
    (unheld : ∀ j, ¬s.HeldAt key j) (admits : s.effectiveTier i e = 0 ∨ ∀ r, ¬Refuses s i e r) :
    s.judgeEntry i key b loc e =
      ⟨{ reason := none, tier := some (s.effectiveTier i e), entry := some e,
         noClock := decide ((s.lane i).direction = .entry ∧ 2 ≤ (s.effectiveTier i e).val ∧ s.clk.valid = false ∧
          ((s.adm.profiles.get e.profile).noOpen = false ∨ (s.adm.profiles.get e.profile).noClose = false)),
         bypassed := b }, some loc⟩ := by
  rw [judgeEntry_tier stands unheld]
  by_cases zero : s.effectiveTier i e = 0
  · have low : ¬(2 ≤ (s.effectiveTier i e).val) := by rw [zero]; decide
    simp only [if_pos zero, low, false_and, and_false, decide_false, if_true]
  · simp only [if_neg zero, tierChecks_free (admits.resolve_left zero), if_true]

/-- The hold of an admitted key, with the escort token that the grant consumes. -/
theorem makeHold_eq (i : LaneId) (key : Key) (loc : Location) (tier : Fin 4) (e : Entry) (s : State) :
    makeHold i key loc tier e s =
      watchEvent i (createHold i (.credential key loc tier) (s.setLane i { s.lane i with
        token := if (s.lane i).direction = .entry ∧ tier ≠ 0 ∧ e.grant (s.lane i).zone = .escort then none else (s.lane i).token })) := by
  unfold makeHold State.usesToken
  by_cases uses : (s.lane i).direction = .entry ∧ tier ≠ 0 ∧ e.grant (s.lane i).zone = .escort
  · simp only [decide_eq_true uses, if_pos uses, if_true]
  · have same : s.setLane i { s.lane i with token := (s.lane i).token } = s := setLane_self s i
    simp only [decide_eq_false uses, if_neg uses, Bool.false_eq_true, if_false, same]

/-- Settles O53. -/
theorem lookupAdmits : Obligations.LookupAdmits := by
  unfold Obligations.LookupAdmits
  intro bad s ring d i key loc e waits u l tier free may found stands unheld admits h usesToken v z w
  have whole : exec (.admissionLookup bad) s = .next (lookupOperation d i key u) := exec_admissionLookup bad waits
  have judged : u.judge i key = s.judgeEntry i key (decide (s.tab.filter ≠ .valid)) loc e := by
    rw [judge_walk (i := i) (key := key) (s := u) free may, found]
    rfl
  rw [judgeEntry_admits stands unheld admits] at judged
  have created : createHold i (.credential key loc tier)
      (u.setLane i { u.lane i with token := if usesToken then none else l.token }) = w := by
    rw [createHold_eq]
    simp only [State.setLane_lane_same]
    rfl
  have cfg : (watchEvent i w).cfg.gate = some ring := by
    rw [watchEvent_cfg, ← created, createHold_cfg]
    exact waits.2.2.1
  have made : makeHold i key loc tier e u = watchEvent i w := by
    rw [makeHold_eq]
    exact congrArg _ created
  rw [whole, lookupOperation, judged]
  have applied : ∀ f : Finding, f.tier = some tier → f.entry = some e → applyVerdict i key ⟨f, some loc⟩ u = watchEvent i w :=
    fun f at_tier at_entry => by simp only [applyVerdict, at_tier, at_entry, made]
  dsimp only
  rw [applied _ rfl rfl, returnGate_eq cfg, finding_reply]
  rfl

end Sys2Proof.Proofs.Admission
end

section
/-! PROOFS. A closing operation at the table port (O55). -/

namespace Sys2Proof.Proofs.Admission

open Sys2Proof Sys2Proof.Machine Sys2Proof.Proofs.Keeping Sys2Proof.Proofs.Table Sys2Proof.Proofs.Requests Sys2Proof.Proofs.Events

section Closing

variable {s : State} {i : LaneId} {h : Hold} {o : HoldOutcome} {key : Key} {loc : Location} {tier : Fin 4}

theorem contested_iff : h.contested o = true ↔ o = .commit ∧ h.direction = .entry ∧ ∃ m, h.mark = some m ∧ m.inside = true := by
  unfold Hold.contested
  cases h.mark <;> simp [and_assoc]

/-- The entry that a commit leaves, and another outcome's entry as it stands (R98, R99). -/
theorem commitEntry_eq (i : LaneId) (o : HoldOutcome) (d : Direction) (now : Word) (e : Entry) :
    (if o = .commit then commitEntry i d now e else e) =
      match o, d with
      | .commit, .entry =>
        { e with
          state := .inside, count := if e.count < 255 then e.count + 1 else e.count, lastLane := some i, lastTime := some now,
          remote := none }
      | .commit, .exit =>
        { e with
          state := .outside, returns := if e.returns = 0 then 0 else e.returns - 1, lastLane := some i, lastTime := some now,
          remote := none }
      | _, _ => e := by
  have spent : ∀ r : Fin 16, (⟨r.val - 1, by have := r.isLt; omega⟩ : Fin 16) = if r = 0 then 0 else r - 1 := by decide
  cases o <;> cases d <;> first | rfl | (simp only [if_true, commitEntry, spent])

/-- A pending mark is written unless it is contested or the entry is REVOKED (R102). -/
theorem markStep_eq (mark : Option PendingMark) {b : Bool} {p : Prop} [Decidable p] (same : b = decide p) (e : Entry) :
    (match mark with
      | none => e
      | some m => if b then e else markEntry m e) =
      match mark with
      | none => e
      | some m =>
        if p ∨ e.state = .revoked then e
        else
          { e with
            state := if m.inside then .inside else .outside, count := if m.inside then (if e.count < 255 then e.count + 1 else e.count) else e.count,
            lastLane := none, lastTime := some m.time, remote := some m.cluster } := by
  cases mark with
  | none => rfl
  | some m =>
    simp only [same, decide_eq_true_eq]
    by_cases contested : p
    · rw [if_pos contested, if_pos (.inl contested)]
    · rw [if_neg contested, markEntry]
      by_cases revoked : e.state = .revoked
      · rw [if_pos revoked, if_pos (.inr revoked)]
      · rw [if_neg revoked, if_neg (show ¬(p ∨ e.state = .revoked) from not_or.2 ⟨contested, revoked⟩)]
        rfl

/-- The steps of a closing operation on the entry: the commit, the pending mark, the pending revoke (R97). -/
theorem closeEntry_steps (i : LaneId) (h : Hold) (o : HoldOutcome) (now : Word) (e : Entry) :
    closeEntry i h o now e =
      let committed := if o = .commit then commitEntry i h.direction now e else e
      let marked := match h.mark with
        | none => committed
        | some m => if h.contested o then committed else markEntry m committed
      match h.revoke with
      | none => marked
      | some .revoke => { marked with state := .revoked }
      | some .restore => if marked.state = .revoked then { marked with state := .outside } else marked := by
  unfold closeEntry revokeEntry
  cases h.revoke with
  | none => rfl
  | some a => cases a <;> rfl

end Closing

/-- Settles O55. -/
theorem closingWritesTheHeldEntry : Obligations.ClosingWritesTheHeldEntry := by
  unfold Obligations.ClosingWritesTheHeldEntry
  intro bad s i h o key loc tier waits u now bucket
  obtain ⟨part, up, port, hold, phase, kind⟩ := waits
  have serves : s.portUp = true := by simp [State.portUp, State.running, part, up]
  have due : s.closingDue = some (i, h, o, key, loc) := by
    cases queue : s.tab.port with
    | nil => rw [queue] at port; cases port
    | cons x rest =>
      rw [queue] at port
      cases port
      simp only [State.closingDue, queue, hold, phase, kind]
  have whole : exec (.closingOperation bad) s =
      if u.tab.memory.fails loc.word then .next (closeFailed i h o key u)
      else match u.heldEntry key loc with
        | none => .fault (.entryMissing i)
        | some e => .next (closeWritten i h o loc e u) := by
    show execClosingOperation bad s = _
    simp only [execClosingOperation, if_pos serves, due] <;> rfl
  have same_entry : u.tab.memory.entryAt loc = s.tab.memory.entryAt loc := by cases loc <;> rfl
  have same_clk : u.clk = s.clk := rfl
  have bucket_eq : u.bucketOf key = bucket := rfl
  have now_eq : u.now = now := rfl
  rw [whole]
  clear_value u
  refine ⟨fun fails => ?_, fun sound missing => ?_, fun e sound stored at_key => ?_⟩
  · rw [if_pos ((fails_iff _).2 fails), closeFailed, tableFault_eq, recordNow_clk same_clk, bucket_eq]
    rfl
  · have none_held : u.heldEntry key loc = none := by
      rw [State.heldEntry, same_entry, Option.filter_eq_none_iff]
      exact fun e stored held => missing e stored (of_decide_eq_true held)
    rw [if_neg (fun f => sound ((fails_iff _).1 f)), none_held]
  · intro up committed contested marked final
    have held : u.heldEntry key loc = some e := by
      rw [State.heldEntry, same_entry, stored, Option.filter_some, if_pos (decide_eq_true at_key)]
    rw [if_neg (fun f => sound ((fails_iff _).1 f)), held]
    have contested_eq : h.contested o = decide contested := Bool.eq_iff_iff.2 (by rw [decide_eq_true_iff]; exact contested_iff)
    have final_eq : closeEntry i h o u.now e = final := by
      have committed_eq : (if o = .commit then commitEntry i h.direction now e else e) = committed := commitEntry_eq i o h.direction now e
      rw [now_eq, closeEntry_steps, committed_eq]
      exact congrArg (fun x : Entry => show Entry from match h.revoke with
        | none => x
        | some .revoke => { x with state := EntryState.revoked }
        | some .restore => if x.state = EntryState.revoked then { x with state := EntryState.outside } else x) (markStep_eq h.mark contested_eq committed)
    simp only [closeWritten, final_eq, Hold.closingOf, contested_eq, decide_eq_true_eq]

end Sys2Proof.Proofs.Admission
end

section
/-! PROOFS. LOAD, its buffer and its chain (O56), and a batch record at the table port (O57). -/

namespace Sys2Proof.Proofs.Loads

open Sys2Proof Sys2Proof.Machine Sys2Proof.Proofs.Keeping Sys2Proof.Proofs.Requests Sys2Proof.Proofs.Bytes Sys2Proof.Proofs.Admission

section Chain

variable {s : State} {ring : Ring} {d : Desc}

/-! ## The open chain -/

theorem returnKept_list (st : Status) (b : Bool) (s : State) : (returnKept st b s).list = s.list := by
  unfold returnKept
  split
  · exact writeReturn_list _ _ _ _ _
  · rfl

theorem returnKept_kept {st : Status} {b : Bool} {k : Machine.Kept} (cfg : s.cfg.list = some ring) (kept : s.list.kept = some k) :
    returnKept st b s =
      writeReturn .listReturned (ring.base + 64 * k.index) k.notify
        ⟨st, k.counts.resultBytes, if b then [(0, s.list.totals.totalBytes)] else []⟩ s := by
  simp only [returnKept, cfg, kept]
  rfl

theorem returnKept_none {st : Status} {b : Bool} (kept : s.list.kept = none) : returnKept st b s = s := by
  simp only [returnKept, kept]

theorem breakChain_closed (closed : s.list.chainOpen = false) : breakChain s = s := if_neg (by rw [closed]; decide)

theorem breakChain_open (chain : s.list.chainOpen = true) :
    breakChain s = (returnKept .chainBroken true s).setList s.list.closeChain := by
  unfold breakChain
  rw [if_pos chain]
  simp only [returnKept_list]

theorem breakChain_list (chain : s.list.chainOpen = true) : (breakChain s).list = s.list.closeChain := by
  rw [breakChain_open chain]
  rfl

theorem breakChain_cfg (s : State) : (breakChain s).cfg = s.cfg := (breakChain_frame s).cfg

/-! ## Malformed records -/

section Skip

variable {n m fuel : Nat} {c : Counts}

/-- Records that are malformed up to a well-formed one are skipped and counted. -/
theorem skipMalformed_found (room : m < n + fuel) (after : n ≤ m) (bad : ∀ j, n ≤ j → j < m → s.batchRecord d j = none)
    (good : s.batchRecord d m ≠ none) : skipMalformed s d fuel n c = (m, { c with malformed := c.malformed + (m - n) }) := by
  induction fuel generalizing n c with
  | zero => omega
  | succ fuel ih =>
    unfold skipMalformed
    by_cases here : n = m
    · subst here
      obtain ⟨r, record⟩ := Option.ne_none_iff_exists'.1 good
      simp only [record, Nat.sub_self, Nat.add_zero]
    · rw [bad n (Nat.le_refl n) (by omega)]
      simp only
      rw [ih (by omega) (by omega) fun j low high => bad j (by omega) high]
      simp only [Counts.bump]
      rw [show c.malformed + 1 + (m - (n + 1)) = c.malformed + (m - n) by omega]

/-- Malformed records to the end of the buffer are all counted. -/
theorem skipMalformed_end (bad : ∀ j, n ≤ j → j < n + fuel → s.batchRecord d j = none) :
    skipMalformed s d fuel n c = (n + fuel, { c with malformed := c.malformed + fuel }) := by
  induction fuel generalizing n c with
  | zero => rfl
  | succ fuel ih =>
    unfold skipMalformed
    rw [bad n (Nat.le_refl n) (by omega)]
    simp only
    rw [ih fun j low high => bad j (by omega) (by omega)]
    simp only [Counts.bump]
    rw [show n + 1 + fuel = n + (fuel + 1) by omega, show c.malformed + 1 + fuel = c.malformed + (fuel + 1) by omega]

end Skip

/-! ## The chain mark -/

theorem ofCode_isSome (b : Byte) : (ChainMark.ofCode b).isSome = true ↔ b.toNat ≤ 3 := by
  revert b
  decide

theorem recordCount_eq (d : Desc) : d.recordCount = (d.byte 4).toNat + 256 * (d.byte 5).toNat := halfOf_toNat _ _

/-- The fields of a LOAD that the place of its buffer asks for (R43). -/
def Placed (d : Desc) : Prop :=
  1 ≤ d.recordCount ∧ d.recordCount ≤ 1024 ∧ d.batchOffset % 32 = 0 ∧ 64 ≤ d.batchOffset ∧
    d.batchOffset + 32 * d.recordCount ≤ 0x40000

theorem loadMark_placed (placed : Placed d) : d.loadMark = ChainMark.ofCode d.chain := if_pos placed

theorem loadMark_none (bad : ¬(Placed d ∧ d.chain.toNat ≤ 3)) : d.loadMark = none := by
  unfold Desc.loadMark
  split
  · next placed =>
    rw [← Option.not_isSome_iff_eq_none, ofCode_isSome]
    exact fun mark => bad ⟨placed, mark⟩
  · rfl

theorem execLoad_eq (took : s.ListTook ring .load d) : exec .load s = .next (loadDesc d s) := by
  have taken : s.listTaken .load 0 claimsAll = some d := listTaken_of_took took rfl
  show execLoad s = _
  simp only [execLoad, taken]

/-- A LOAD of a later place in the chain goes on where a chain is open. -/
theorem loadDesc_later (placed : Placed d) (mark : d.chain = 2 ∨ d.chain = 3) :
    loadDesc d s = if s.list.chainOpen then continueBuffer d 0 Counts.zero (continueChain s) else returnList d (Reply.bare .orphan) s := by
  rcases mark with mark | mark
  · have code : d.loadMark = some .middle := by rw [loadMark_placed placed, mark]; rfl
    simp only [loadDesc, code]
  · have code : d.loadMark = some .last := by rw [loadMark_placed placed, mark]; rfl
    simp only [loadDesc, code]

/-! ## The end of the buffer -/

theorem finishBuffer_keep {c : Counts} (mark : d.chain = 1 ∨ d.chain = 2) : finishBuffer d c s = keepDescriptor d c s := by
  rcases mark with mark | mark
  · have code : ChainMark.ofCode d.chain = some .first := by rw [mark]; rfl
    simp only [finishBuffer, code]
  · have code : ChainMark.ofCode d.chain = some .middle := by rw [mark]; rfl
    simp only [finishBuffer, code]

end Chain

/-- Settles O56. -/
theorem loadsAndChains : Obligations.LoadsAndChains := by
  unfold Obligations.LoadsAndChains
  intro s ring cfg closed keptBack
  refine ⟨breakChain_closed, fun chain kept => ?_, fun k chain kept => ?_, fun d took => ?_, fun d n c short => ⟨?_, ?_⟩, fun d c => ?_,
    fun w running live idle wait => ?_⟩
  · rw [breakChain_open chain, returnKept_none kept]
    rfl
  · rw [breakChain_open chain, returnKept_kept cfg kept]
    show _ = (keptBack _ _ k).setList { (keptBack _ _ k).list with chainOpen := false, kept := none, totals := _, wait := none }
    have list : (keptBack .chainBroken [(0, s.list.totals.totalBytes)] k).list = s.list := writeReturn_list _ _ _ _ _
    rw [list]
    rfl
  · intro offset count well opened buffer
    have offset_eq : d.batchOffset = offset := batchOffset_eq d
    have count_eq : d.recordCount = count := recordCount_eq d
    have well_iff : well ↔ Placed d ∧ d.chain.toNat ≤ 3 := by
      simp only [Placed, offset_eq, count_eq, well]
      tauto
    have cfg' : (breakChain s).cfg.list = some ring := by rw [breakChain_cfg, cfg]
    have load := execLoad_eq took
    refine ⟨fun bad => ?_, fun good mark => ?_, fun good mark => ?_, fun good mark unopened => ?_, fun good mark chain => ?_⟩
    · rw [load, loadDesc, loadMark_none fun h => bad (well_iff.2 h)]
      exact congrArg _ (returnList_eq cfg')
    · have code : d.loadMark = some .alone := by rw [loadMark_placed (well_iff.1 good).1, mark]; rfl
      rw [load, loadDesc, code]
      rfl
    · have code : d.loadMark = some .first := by rw [loadMark_placed (well_iff.1 good).1, mark]; rfl
      rw [load, loadDesc, code]
      rfl
    · rw [load, loadDesc_later (well_iff.1 good).1 mark, if_neg (by rw [unopened]; decide)]
      exact congrArg _ (returnList_eq cfg)
    · rw [load, loadDesc_later (well_iff.1 good).1 mark, if_pos chain]
      intro after
      have returned : returnKept .done false s = after := by
        cases kept : s.list.kept with
        | none =>
          rw [returnKept_none kept]
          simp only [after, kept]
        | some k =>
          rw [returnKept_kept cfg kept]
          simp only [after, kept]
          rfl
      simp only [continueChain, returned]
      rfl
  · intro m low high bad good
    have skipped := skipMalformed_found (fuel := d.recordCount - n) (c := c) (by omega) low bad good
    simp only [continueBuffer, skipped, if_neg (Nat.not_le.2 high)]
  · intro bad
    have skipped := skipMalformed_end (fuel := d.recordCount - n) (c := c) fun j low high => bad j low (by omega)
    simp only [continueBuffer, skipped, if_pos (show d.recordCount ≤ n + (d.recordCount - n) by omega)]
  · refine ⟨fun mark => ?_, fun mark => ?_, fun mark => ?_⟩
    · have code : ChainMark.ofCode d.chain = some .alone := by rw [mark]; rfl
      simp only [finishBuffer, code, returnList_eq cfg]
    · have code : ChainMark.ofCode d.chain = some .last := by rw [mark]; rfl
      have cfg' : (s.setList s.list.closeChain).cfg.list = some ring := cfg
      simp only [finishBuffer, code, returnList_eq cfg']
      rfl
    · rw [finishBuffer_keep mark]
      simp only [keepDescriptor, cfg]
      by_cases owned : s.read (ring.base + 64 * s.list.take) = 1
      · rw [if_pos owned, if_pos (show s.read (ring.descAddr s.list.take) = 1 from owned)]
        rfl
      · rw [if_neg owned, if_neg (show ¬s.read (ring.descAddr s.list.take) = 1 from owned)]
        rfl
  · intro stopped
    have up : s.running = true ∧ s.list.work = none := ⟨running_eq_true.2 running, idle⟩
    have whole : exec .chainWaitExpiry s =
        .next (if s.read (ring.descAddr s.list.take) = 1 then examineList stopped else listWait (breakChain stopped)) := by
      show Host.Outcome.next (whileUp chainWaitOut s) = _
      rw [whileUp, if_neg (by rw [live]; decide)]
      simp only [chainWaitOut, cfg, wait, if_pos up]
      rfl
    rw [whole]
    refine ⟨fun owned => ?_, fun away chain => ?_⟩
    · rw [if_pos (show s.read (ring.descAddr s.list.take) = 1 from owned)]
    · rw [if_neg (show ¬s.read (ring.descAddr s.list.take) = 1 from away)]
      have list : (breakChain stopped).list = stopped.list.closeChain := breakChain_list chain
      have poll : (breakChain stopped).cfg = s.cfg := breakChain_cfg stopped
      simp only [listWait, list, poll]
      rw [show stopped.list.closeChain = ⟨s.list.take, s.list.poll, none, false, none, Counts.zero, none⟩ by
        rw [← idle]; rfl]
      rfl

end Sys2Proof.Proofs.Loads
end

section
/-! PROOFS. A batch record at the table port (O57). -/

namespace Sys2Proof.Proofs.Loads

open Sys2Proof Sys2Proof.Machine Sys2Proof.Proofs.Keeping Sys2Proof.Proofs.Table Sys2Proof.Proofs.Requests Sys2Proof.Proofs.Events
  Sys2Proof.Proofs.Admission

section Record

variable {s u : State} {ring : Ring} {d : Desc} {n : Nat} {c : Counts} {key : Key}

theorem heldAt_isSome : (s.heldAt key).isSome = true ↔ ∃ j, s.HeldAt key j := by
  rw [Option.isSome_iff_ne_none, ne_eq, heldAt_eq_none_iff]
  push Not
  rfl

theorem exec_batchRecord (bad : List TableWord) (waits : s.ListAtPort ring d (.loading n c)) :
    exec (.batchRecord bad) s = .next (batchOperation d n c (damage bad s)) := by
  obtain ⟨part, up, port, -, work⟩ := waits
  have turn : s.listTurn = true := by simp [State.listTurn, State.portUp, State.running, part, up, port]
  show execBatchRecord bad s = _
  simp only [execBatchRecord, if_pos turn, work]

/-- A record that is carried out counts once, and the buffer goes on. -/
theorem batchOperation_counted {r : BatchRecord} {t : State} {k : Counted} (record : s.batchRecord d n = some r)
    (applied : applyRecord r s = some (t, k)) : batchOperation d n c s = continueBuffer d (n + 1) (c.bump k) t := by
  simp only [batchOperation, record, applied]

theorem batchOperation_failed {r : BatchRecord} (record : s.batchRecord d n = some r) (failed : applyRecord r s = none) :
    batchOperation d n c s = loadFailed d c r.key s := by
  simp only [batchOperation, record, failed]

/-- A record whose word failed returns its descriptor with the counts so far, and with the chain's totals in a chain (R49). -/
theorem loadFailed_eq (cfg : u.cfg.list = some ring) (key : Key) :
    loadFailed d c key u =
      let t := tableFault .batchRecord (u.bucketOf key) none none key u
      examineList
        (if d.chain = 0 then listHandBack ring d ⟨.tableError, c.resultBytes, []⟩ t
        else listHandBack ring d ⟨.tableError, c.resultBytes, [(0, (c.addTo u.list.totals).totalBytes)]⟩ (t.setList t.list.closeChain)) := by
  have alone : ChainMark.ofCode d.chain = some .alone ↔ d.chain = 0 := by
    generalize d.chain = b
    revert b
    decide
  have cfg' : (tableFault .batchRecord (u.bucketOf key) none none key u).cfg.list = some ring := by
    rw [tableFault_eq, emit_cfg, notify_cfg, cfg]
  have list : (tableFault .batchRecord (u.bucketOf key) none none key u).list = u.list := by
    rw [tableFault_eq, emit_list, notify_list]
  have cfg'' : ((tableFault .batchRecord (u.bucketOf key) none none key u).setList u.list.closeChain).cfg.list = some ring := cfg'
  unfold loadFailed
  simp only [alone, list, returnList_eq cfg', returnList_eq cfg'']
  split <;> rfl

/-! ## PUT and DROP -/

theorem applyPut_failed {f : PutFields} (failed : s.lookup key = .failed) : applyRecord (.put key f) s = none := by
  simp only [applyRecord, failed]

theorem applyPut_absent {f : PutFields} (absent : s.lookup key = .absent) :
    applyRecord (.put key f) s =
      match s.tab.memory.insert (s.bucketOf key) (f.newEntry key) with
      | .written t => some (setFilterBits key (s.setMemory t), .added)
      | .full => some (s, .full)
      | .failed => none := by
  simp only [applyRecord, absent] <;> rfl

theorem applyPut_skipped {f : PutFields} {loc : Location} {e : Entry} (found : s.lookup key = .found loc e) (reset : f.reset = true)
    (held : ∃ j, s.HeldAt key j) : applyRecord (.put key f) s = some (s, .heldSkip) := by
  have skip : f.reset = true ∧ (s.heldAt key).isSome = true := ⟨reset, heldAt_isSome.2 held⟩
  simp only [applyRecord, found, if_pos skip]

theorem applyPut_replaced {f : PutFields} {loc : Location} {e : Entry} (found : s.lookup key = .found loc e)
    (free : ¬(f.reset = true ∧ ∃ j, s.HeldAt key j)) :
    applyRecord (.put key f) s = some (s.setMemory (s.tab.memory.writeEntry loc (f.replace e)), .replaced) := by
  have unheld : ¬(f.reset = true ∧ (s.heldAt key).isSome = true) := fun h => free ⟨h.1, heldAt_isSome.1 h.2⟩
  simp only [applyRecord, found, if_neg unheld]

theorem applyDrop_failed (failed : s.lookup key = .failed) : applyRecord (.drop key) s = none := by
  simp only [applyRecord, failed]

theorem applyDrop_absent (absent : s.lookup key = .absent) : applyRecord (.drop key) s = some (s, .notFound) := by
  simp only [applyRecord, absent]

theorem applyDrop_held {loc : Location} {e : Entry} (found : s.lookup key = .found loc e) (held : ∃ j, s.HeldAt key j) :
    applyRecord (.drop key) s = some (s, .heldSkip) := by
  simp only [applyRecord, found, if_pos (heldAt_isSome.2 held)]

theorem applyDrop_unheld {loc : Location} {e : Entry} (found : s.lookup key = .found loc e) (unheld : ¬∃ j, s.HeldAt key j) :
    applyRecord (.drop key) s = changed s (s.tab.memory.drop loc) .dropped := by
  simp only [applyRecord, found, if_neg fun h => unheld (heldAt_isSome.1 h)]

end Record

/-- Settles O57. -/
theorem batchRecordOperation : Obligations.BatchRecordOperation := by
  unfold Obligations.BatchRecordOperation
  intro bad s ring d n c waits u go failed held
  have whole := exec_batchRecord bad waits
  have cfg : u.cfg.list = some ring := waits.2.2.2.1
  have held_iff : ∀ key, (∃ j, u.HeldAt key j) ↔ held key := fun key => Iff.rfl
  have records : ∀ m, u.batchRecord d m = s.batchRecord d m := fun m => rfl
  have bucket : ∀ key, u.bucketOf key = bucketIndex s.tab.k key := fun key => rfl
  have clk : u.clk = s.clk := rfl
  have totals : u.list.totals = s.list.totals := rfl
  have tab : u.tab = { s.tab with memory := u.tab.memory } := rfl
  change exec (.batchRecord bad) s = .next (batchOperation d n c u) at whole
  clear_value u
  have counted : ∀ {r t k}, s.batchRecord d n = some r → applyRecord r u = some (t, k) → exec (.batchRecord bad) s = go (c.bump k) t :=
    fun {r t k} record applied => by
      rw [whole]
      exact congrArg _ (batchOperation_counted ((records n).trans record) applied)
  have fails : ∀ {r k}, s.batchRecord d n = some r → r.key = k → applyRecord r u = none → exec (.batchRecord bad) s = failed k :=
    fun {r k} record key none_applied => by
      rw [whole, batchOperation_failed ((records n).trans record) none_applied, loadFailed_eq cfg, tableFault_eq, recordNow_clk clk,
        bucket, totals, key]
      rfl
  refine ⟨fun malformed => ?_, fun key f record => ?_, fun key record => ?_⟩
  · rw [whole, batchOperation]
    rw [records, malformed]
    rfl
  · intro fresh
    refine ⟨fun walk => fails record rfl (applyPut_failed walk), fun walk m inserted => ?_, fun walk full => ?_, fun walk unread => ?_,
      fun loc e walk => ⟨fun reset hold => ?_, fun reset free => ?_, fun keep => ?_⟩⟩
    · have put := applyPut_absent (f := f) walk
      rw [bucket, show u.tab.memory.insert _ (f.newEntry key) = .written m from inserted] at put
      refine ⟨_, counted record put, rfl, by rw [setFilterBits, State.setMemory, tab]; rfl, fun b => ?_, fun b => ?_⟩
      · show b ∈ bitInsert (filterIndex key) u.tab.presence ↔ _
        rw [mem_bitInsert, tab]
        exact or_comm
      · show b ∈ (if u.tab.filter = .rebuilding then bitInsert (filterIndex key) u.tab.shadow else u.tab.shadow) ↔ _
        rw [show u.tab.filter = s.tab.filter by rw [tab], show u.tab.shadow = s.tab.shadow by rw [tab]]
        by_cases rebuilding : s.tab.filter = .rebuilding
        · rw [if_pos rebuilding, mem_bitInsert]
          simp only [rebuilding, true_and]
          exact or_comm
        · rw [if_neg rebuilding]
          simp only [rebuilding, false_and, or_false]
    · have put := applyPut_absent (f := f) walk
      rw [bucket, show u.tab.memory.insert _ (f.newEntry key) = .full from full] at put
      exact counted record put
    · have put := applyPut_absent (f := f) walk
      rw [bucket, show u.tab.memory.insert _ (f.newEntry key) = .failed from unread] at put
      exact fails record rfl put
    · exact counted record (applyPut_skipped walk reset ((held_iff key).2 hold))
    · have replaced : f.replace e = { fresh with key := e.key } := by
        simp only [PutFields.replace, reset, if_true]
        rfl
      have put := applyPut_replaced (f := f) walk fun h => free ((held_iff key).1 h.2)
      rw [replaced] at put
      exact counted record put
    · have replaced : f.replace e =
          { e with tier := f.tier, grants := f.grants, profile := f.profile, returns := f.returns, batch := f.batch } := by
        simp only [PutFields.replace, keep, Bool.false_eq_true, if_false]
      have put := applyPut_replaced (f := f) walk fun h => Bool.false_ne_true (keep.symm.trans h.1)
      rw [replaced] at put
      exact counted record put
  · refine ⟨fun walk => fails record rfl (applyDrop_failed walk), fun walk => counted record (applyDrop_absent walk),
      fun loc e walk => ⟨fun hold => counted record (applyDrop_held walk ((held_iff key).2 hold)), fun free m dropped => ?_, fun free unread => ?_⟩⟩
    · have drop := applyDrop_unheld walk fun h => free ((held_iff key).1 h)
      rw [dropped] at drop
      exact counted record drop
    · have drop := applyDrop_unheld walk fun h => free ((held_iff key).1 h)
      rw [unread] at drop
      exact fails record rfl drop

end Sys2Proof.Proofs.Loads
end

section
/-! PROOFS. REVOKE, RESTORE, MARK and QUERY (O58). -/

namespace Sys2Proof.Proofs.Lists

open Sys2Proof Sys2Proof.Machine Sys2Proof.Proofs.Keeping Sys2Proof.Proofs.Requests Sys2Proof.Proofs.Events Sys2Proof.Proofs.Admission
  Sys2Proof.Proofs.Loads

section Requests

variable {s : State} {ring : Ring} {d : Desc} {key : Key} {loc : Location} {e : Entry}

/-! ## A request just taken -/

theorem takeRequest_passes : takeRequest d true s = (breakChain s).setList { (breakChain s).list with work := some ⟨d, .request⟩ } := rfl

theorem takeRequest_malformed (cfg : s.cfg.list = some ring) :
    takeRequest d false s = examineList (listHandBack ring d ⟨.malformed, [], []⟩ (breakChain s)) :=
  returnList_eq ((congrArg _ (breakChain_cfg s)).trans cfg)

theorem revokePasses_iff {c : Byte} (named : d.byte 16 = c) (action : c = 1 ∨ c = 2) :
    revokePasses d = keyPasses (keyAt d.payload 0) := by
  rw [revokePasses, named]
  rcases action with rfl | rfl <;> exact Bool.true_and _

theorem revokePasses_unnamed (unnamed : ¬(d.byte 16 = 1 ∨ d.byte 16 = 2)) : revokePasses d = false := by
  have code : ∀ b : Byte, ¬(b = 1 ∨ b = 2) → (RevokeAction.ofCode b).isSome = false := by decide
  rw [revokePasses, code _ unnamed, Bool.false_and]

/-- A command of action code `c` claims the action byte `c`, and any that names neither REVOKE nor RESTORE. -/
theorem claimsRevoke {b : Byte} : (b ≠ 2 → claimsAction 1 1 2 b = true) ∧ (b ≠ 1 → claimsAction 2 1 2 b = true) := by
  revert b
  decide

/-! ## The entry a request changes -/

theorem revokeEntry_eq (a : RevokeAction) (e : Entry) :
    revokeEntry a e =
      { e with state := if a = .revoke then .revoked else if e.state = .revoked then .outside else e.state } := by
  cases a with
  | revoke => rfl
  | restore =>
    unfold revokeEntry
    simp only [reduceCtorEq, if_false]
    split <;> rfl

theorem markEntry_eq (m : PendingMark) (e : Entry) :
    markEntry m e =
      if e.state = .revoked then e
      else
        { e with
          state := if m.inside then .inside else .outside
          count := if m.inside = true ∧ e.count < 255 then e.count + 1 else e.count
          lastLane := none, lastTime := some m.time, remote := some m.cluster } := by
  unfold markEntry saturate
  cases m.inside <;> simp

theorem revokeAction_named (named : d.byte 16 = 1 ∨ d.byte 16 = 2) :
    (RevokeAction.ofCode (d.byte 16)).getD .revoke = if d.byte 16 = 2 then .restore else .revoke := by
  rcases named with h | h <;> rw [h] <;> rfl

/-! ## A request at the table port -/

theorem exec_listRequest (bad : List TableWord) (waits : s.ListAtPort ring d .request) :
    exec (.listRequest bad) s = .next (listOperation d (damage bad s)) := by
  obtain ⟨part, up, port, -, work⟩ := waits
  have turn : s.listTurn = true := by simp [State.listTurn, State.portUp, State.running, part, up, port]
  show execListRequest bad s = _
  simp only [execListRequest, if_pos turn, work]

theorem listOperation_of {t : State} {r : Reply} (cfg : t.cfg.list = some ring) (done : requestOperation d s = some (t, r)) :
    listOperation d s = examineList (listHandBack ring d r t) := by
  simp only [listOperation, done]
  exact returnList_eq cfg

theorem listOperation_failed (cfg : s.cfg.list = some ring) (failed : s.lookup (keyAt d.payload 0) = .failed) :
    listOperation d s =
      examineList (listHandBack ring d ⟨.tableError, [], []⟩
        (tableFault .listRequest (s.bucketOf (keyAt d.payload 0)) none none (keyAt d.payload 0) s)) := by
  have cfg' : (tableFault .listRequest (s.bucketOf (keyAt d.payload 0)) none none (keyAt d.payload 0) s).cfg.list = some ring := by
    rw [tableFault_eq, emit_cfg, notify_cfg, cfg]
  simp only [listOperation, requestOperation, failed]
  exact returnList_eq cfg'

theorem requestOperation_absent (absent : s.lookup (keyAt d.payload 0) = .absent) :
    requestOperation d s = some (s, ⟨.notFound, [], []⟩) := by
  simp only [requestOperation, absent]
  rfl

theorem requestOperation_unheld (found : s.lookup (keyAt d.payload 0) = .found loc e) (unheld : ∀ j, ¬s.HeldAt (keyAt d.payload 0) j) :
    requestOperation d s = some (requestUnheld d loc e s) := by
  simp only [requestOperation, found, heldAt_eq_none_iff.2 unheld]

theorem requestOperation_held {j : LaneId} {h : Hold} (found : s.lookup (keyAt d.payload 0) = .found loc e) (hold : s.hold j = some h)
    (held : s.HeldAt (keyAt d.payload 0) j) (lowest : ∀ j', s.HeldAt (keyAt d.payload 0) j' → j ≤ j') :
    requestOperation d s = some (requestHeld d j h e s) := by
  simp only [requestOperation, found, heldAt_lowest held lowest, hold]

theorem requestUnheld_revoke (kind : d.kind = 17) (named : d.byte 16 = 1 ∨ d.byte 16 = 2) :
    requestUnheld d loc e s =
      let e' : Entry := { e with state := if d.byte 16 = 1 then .revoked else if e.state = .revoked then .outside else e.state }
      (s.setMemory (s.tab.memory.writeEntry loc e'), ⟨.done, [e'.state.code], []⟩) := by
  have revoke : d.reqKind = some .revoke := by rw [Desc.reqKind, kind]; rfl
  rw [requestUnheld, if_pos revoke, revokeAction_named named, revokeEntry_eq]
  rcases named with h | h <;> rw [h] <;> rfl

theorem requestUnheld_mark (kind : d.kind = 18) :
    requestUnheld d loc e s =
      (s.setMemory (s.tab.memory.writeEntry loc (markEntry (markOf d) e)),
        ⟨.done, [(markEntry (markOf d) e).state.code, BitVec.ofNat 8 (markEntry (markOf d) e).count], []⟩) := by
  have mark : d.reqKind = some .mark := by rw [Desc.reqKind, kind]; rfl
  rw [requestUnheld, if_neg (by rw [mark]; decide), if_pos mark]

theorem requestUnheld_query (kind : d.kind = 19) : requestUnheld d loc e s = (s, queryResult e none) := by
  have query : d.reqKind = some .query := by rw [Desc.reqKind, kind]; rfl
  rw [requestUnheld, if_neg (by rw [query]; decide), if_neg (by rw [query]; decide), queryReply_queryResult]

variable {j : LaneId} {h : Hold}

theorem requestHeld_revoke (kind : d.kind = 17) (named : d.byte 16 = 1 ∨ d.byte 16 = 2) :
    requestHeld d j h e s =
      (s.setHold j (some { h with revoke := some (if d.byte 16 = 2 then .restore else .revoke) }),
        ⟨.donePending, [0, BitVec.ofNat 8 j.val, d.byte 16], []⟩) := by
  have revoke : d.reqKind = some .revoke := by rw [Desc.reqKind, kind]; rfl
  rw [requestHeld, if_pos revoke, revokeAction_named named]
  rcases named with h | h <;> rw [h] <;> rfl

theorem requestHeld_mark (kind : d.kind = 18) :
    requestHeld d j h e s = (s.setHold j (some { h with mark := some (markOf d) }), ⟨.donePending, [0, 0, BitVec.ofNat 8 j.val], []⟩) := by
  have mark : d.reqKind = some .mark := by rw [Desc.reqKind, kind]; rfl
  rw [requestHeld, if_neg (by rw [mark]; decide), if_pos mark]

theorem requestHeld_query (kind : d.kind = 19) : requestHeld d j h e s = (s, queryResult e (some (j, h))) := by
  have query : d.reqKind = some .query := by rw [Desc.reqKind, kind]; rfl
  rw [requestHeld, if_neg (by rw [query]; decide), if_neg (by rw [query]; decide), queryReply_queryResult]

end Requests

/-- Settles O58. -/
theorem listRequests : Obligations.ListRequests := by
  unfold Obligations.ListRequests
  intro s ring d key broken taken
  have checked : ∀ {c : Instr} {passes : Bool} {ok : Prop} {k : ReqKind}, s.ListTook ring k d → (passes = true ↔ ok) →
      exec c s = .next (takeRequest d passes s) → taken c ok := by
    intro c passes ok k took checks run
    refine ⟨fun h => ?_, fun h => ?_⟩
    · rw [run, checks.2 h]
      exact congrArg _ takeRequest_passes
    · rw [run, Bool.eq_false_iff.2 fun hp => h (checks.1 hp)]
      exact congrArg _ (takeRequest_malformed took.2.2.1)
  have revokes : ∀ c : Byte, c = 1 ∨ c = 2 → (d.byte 16 = c ∨ ¬(d.byte 16 = 1 ∨ d.byte 16 = 2)) →
      (revokePasses d = true ↔ d.byte 16 = c ∧ keyPasses key = true) := by
    intro c action claim
    rcases claim with named | unnamed
    · rw [revokePasses_iff named action]
      exact (and_iff_right named).symm
    · rw [revokePasses_unnamed unnamed]
      exact ⟨fun h => Bool.noConfusion h, fun h => absurd (action.imp h.1.trans h.1.trans) unnamed⟩
  refine ⟨fun took => ⟨fun claim => ?_, fun claim => ?_⟩, fun took => ?_, fun took => ?_, fun bad waits => ?_⟩
  · refine checked took (revokes 1 (.inl rfl) ?_) ?_
    · by_cases h : d.byte 16 = 1
      · exact .inl h
      · exact .inr (not_or.2 ⟨h, claim⟩)
    · show execRevoke s = _
      simp only [execRevoke, listTaken_of_took took (claimsRevoke.1 claim)]
  · refine checked took (revokes 2 (.inr rfl) ?_) ?_
    · by_cases h : d.byte 16 = 2
      · exact .inl h
      · exact .inr (not_or.2 ⟨claim, h⟩)
    · show execRestore s = _
      simp only [execRestore, listTaken_of_took took (claimsRevoke.2 claim)]
  · refine checked took (passes := markPasses d) (by simp [markPasses, key]) ?_
    show execMark s = _
    simp only [execMark, listTaken_of_took (claims := claimsAll) (o := 0) took rfl]
  · refine checked took (passes := keyPasses key) Iff.rfl ?_
    show execQuery s = _
    simp only [execQuery, listTaken_of_took (claims := claimsAll) (o := 0) took rfl]
    rfl
  · intro u back b mark action
    have whole : exec (.listRequest bad) s = .next (listOperation d u) := exec_listRequest bad waits
    have cfg : u.cfg.list = some ring := waits.2.2.2.1
    have held : ∀ j, u.HeldAt key j ↔ s.HeldAt key j := fun j => Iff.rfl
    have hold : ∀ j, u.hold j = s.hold j := fun j => rfl
    have bucket : u.bucketOf key = b := rfl
    have clk : u.clk = s.clk := rfl
    clear_value u
    have answer : ∀ {t : State} {r : Reply}, t.cfg = u.cfg → requestOperation d u = some (t, r) → back r t := by
      intro t r same done
      show exec (.listRequest bad) s = _
      rw [whole, listOperation_of (by rw [same]; exact cfg) done]
    refine ⟨fun failed => ?_, fun absent => answer rfl (requestOperation_absent absent), fun loc e found => ⟨fun unheld => ?_, ?_⟩⟩
    · show exec (.listRequest bad) s = _
      rw [whole, listOperation_failed cfg failed, tableFault_eq, recordNow_clk clk]
      rw [show u.bucketOf (keyAt d.payload 0) = b from bucket]
      rfl
    · have op := requestOperation_unheld found fun j h => unheld j ((held j).1 h)
      refine ⟨fun kind named => ?_, fun kind => ?_, fun kind => ?_⟩
      · rw [requestUnheld_revoke kind named] at op
        exact answer rfl op
      · rw [requestUnheld_mark kind, markEntry_eq] at op
        exact answer rfl op
      · rw [requestUnheld_query kind] at op
        exact answer rfl op
    · intro j h standing holds lowest
      have op := requestOperation_held found ((hold j).trans standing) ((held j).2 holds) fun j' hj' => lowest j' ((held j').1 hj')
      refine ⟨fun kind named => ?_, fun kind => ?_, fun kind => ?_⟩
      · rw [requestHeld_revoke kind named] at op
        exact answer rfl op
      · rw [requestHeld_mark kind] at op
        exact answer rfl op
      · rw [requestHeld_query kind] at op
        exact answer rfl op

end Sys2Proof.Proofs.Lists

end

section
/-! PROOFS. REBUILD and the rebuild walk (O59). -/

namespace Sys2Proof.Proofs.Walk

open Sys2Proof Sys2Proof.Machine Sys2Proof.Proofs.Keeping Sys2Proof.Proofs.Table Sys2Proof.Proofs.Requests Sys2Proof.Proofs.Events
  Sys2Proof.Proofs.Admission Sys2Proof.Proofs.Loads

/-! ## The bits of a filter stay in rising order -/

theorem bitInsert_rising {i : Nat} {l : List Nat} (rising : l.Pairwise (· < ·)) : (bitInsert i l).Pairwise (· < ·) := by
  induction l with
  | nil => exact List.pairwise_singleton _ _
  | cons j l ih =>
    obtain ⟨above, rest⟩ := List.pairwise_cons.1 rising
    simp only [bitInsert]
    split
    · next low => exact List.pairwise_cons.2 ⟨fun n h => (List.mem_cons.1 h).elim (fun e => e ▸ low) fun h => low.trans (above n h), rising⟩
    · split
      · exact rising
      · next low differ =>
        refine List.pairwise_cons.2 ⟨fun n h => ?_, ih rest⟩
        rcases mem_bitInsert.1 h with rfl | h
        · omega
        · exact above n h

theorem foldl_bitInsert_rising {js l : List Nat} (rising : l.Pairwise (· < ·)) :
    (js.foldl (fun f i => bitInsert i f) l).Pairwise (· < ·) := by
  induction js generalizing l with
  | nil => exact rising
  | cons j js ih => exact ih (bitInsert_rising rising)

section Step

variable {s u : State} {ring : Ring} {d : Desc}

/-! ## REBUILD -/

theorem exec_rebuild (took : s.ListTook ring .rebuild d) : exec .rebuild s = .next (rebuildDesc d s) := by
  show execRebuild s = _
  simp only [execRebuild, listTaken_of_took (claims := claimsAll) (o := 0) took rfl]

theorem breakChain_tab (s : State) : (breakChain s).tab = s.tab := (breakChain_frame s).tab

theorem rebuildDesc_busy (cfg : s.cfg.list = some ring) (rebuilding : s.tab.filter = .rebuilding) :
    rebuildDesc d s = examineList (listHandBack ring d ⟨.busy, [2], []⟩ (breakChain s)) := by
  rw [rebuildDesc]
  simp only [breakChain_tab, rebuilding]
  exact returnList_eq ((congrArg _ (breakChain_cfg s)).trans cfg)

theorem rebuildDesc_accepted (cfg : s.cfg.list = some ring) (idle : s.tab.filter ≠ .rebuilding) :
    rebuildDesc d s =
      examineList (listHandBack ring d ⟨.accepted, [if s.tab.filter = .valid then 1 else 0], []⟩
        ((breakChain s).setTab { s.tab with shadow := [], filter := .rebuilding, walk := 0 })) := by
  have code : s.tab.filter.code = if s.tab.filter = .valid then 1 else 0 := by
    revert idle
    cases s.tab.filter <;> decide
  rw [rebuildDesc]
  simp only [startRebuild, breakChain_tab, if_neg idle, code]
  exact returnList_eq ((congrArg _ (breakChain_cfg s)).trans cfg)

/-! ## One bucket of the walk -/

theorem exec_walk (bad : List TableWord) (part : s.ctl.part = .running) (up : s.ctl.resetActive = false) (port : s.tab.port = [])
    (none_waits : ∀ d, s.list.work ≠ some ⟨d, .request⟩) (rebuilding : s.tab.filter = .rebuilding) :
    exec (.rebuildWalkBucket bad) s = .next (walkBucket (damage bad s)) := by
  have turn : s.listTurn = true := by simp [State.listTurn, State.portUp, State.running, part, up, port]
  have waiting : s.listWaiting = false := by
    unfold State.listWaiting
    split
    · next d work => exact absurd work (none_waits d)
    · rfl
  exact if_pos ⟨turn, waiting, rebuilding⟩

/-- The walk of a bucket comes to a word that fails its check. -/
theorem walkWords_fails {t : TableMemory} {b : Nat} :
    (t.walkWords b).any t.fails = true ↔
      ∃ w ∈ t.damaged, (∃ i, w = .slot b i) ∨ w = .head b ∨ ∃ p e, (p, e) ∈ (t.bucket b).chain ∧ w = .place p := by
  simp only [List.any_eq_true, fails_iff, TableMemory.walkWords, List.mem_append, List.mem_map, List.mem_singleton]
  have every : ∀ i : Fin 4, i ∈ slotOrder := by decide
  constructor
  · rintro ⟨w, (⟨i, -, rfl⟩ | rfl) | ⟨c, chained, rfl⟩, damaged⟩
    · exact ⟨_, damaged, .inl ⟨i, rfl⟩⟩
    · exact ⟨_, damaged, .inr (.inl rfl)⟩
    · exact ⟨_, damaged, .inr (.inr ⟨c.1, c.2, chained, rfl⟩)⟩
  · rintro ⟨w, damaged, ⟨i, rfl⟩ | rfl | ⟨p, e, chained, rfl⟩⟩
    · exact ⟨_, .inl (.inl ⟨i, every i, rfl⟩), damaged⟩
    · exact ⟨_, .inl (.inr rfl), damaged⟩
    · exact ⟨_, .inr ⟨(p, e), chained, rfl⟩, damaged⟩

/-- The shadow filter with the bits of a bucket's entries. -/
def bucketShadow (t : TableMemory) (b : Nat) (shadow : List Nat) : List Nat :=
  ((t.bucket b).entries.map (fun e => filterIndex e.key)).foldl (fun f i => bitInsert i f) shadow

theorem mem_bucketShadow {t : TableMemory} {b y : Nat} {shadow : List Nat} :
    y ∈ bucketShadow t b shadow ↔ y ∈ shadow ∨ ∃ e, t.Stores b e ∧ filterIndex e.key = y := by
  rw [bucketShadow, mem_foldl_bitInsert, List.mem_map, or_comm]
  rfl

theorem walkBucket_fails (failed : (s.tab.memory.walkWords s.tab.walk).any s.tab.memory.fails = true)
    (rebuilding : s.tab.filter = .rebuilding) :
    walkBucket s =
      let b := s.tab.walk
      let faulted :=
        emit (s.recordNow .tableFault none none {} (detailBytes b (b / 256) (b / 65536) 4) zeroKey) (notify .tableFault s)
      emit (s.recordNow .rebuildDone none none { incomplete := true } (BitVec.ofNat 32 b) zeroKey)
        (faulted.setTab { s.tab with shadow := [], filter := .suspect, walk := 0 }) := by
  have abandoned : ∀ faulted : State, faulted.tab = s.tab → faulted.clk = s.clk →
      emit ((abandonRebuild faulted).record .rebuildDone none none { incomplete := true } (BitVec.ofNat 32 s.tab.walk) zeroKey)
          (abandonRebuild faulted) =
        emit (s.recordNow .rebuildDone none none { incomplete := true } (BitVec.ofNat 32 s.tab.walk) zeroKey)
          (faulted.setTab { s.tab with shadow := [], filter := .suspect, walk := 0 }) := by
    intro faulted tab clk
    have after : abandonRebuild faulted = faulted.setTab { s.tab with shadow := [], filter := .suspect, walk := 0 } := by
      rw [abandonRebuild, tab, if_pos rebuilding]
    have clk_after : (abandonRebuild faulted).clk = s.clk := by rw [after]; exact clk
    rw [State.record_recordNow, recordNow_clk clk_after, after]
  rw [walkBucket, if_pos failed, tableFault_eq]
  exact abandoned _ (by rw [emit_tab, notify_tab]) (by rw [emit_clk, notify_clk])

theorem walkBucket_passes (passed : ¬(s.tab.memory.walkWords s.tab.walk).any s.tab.memory.fails = true) :
    walkBucket s =
      let shadow := bucketShadow s.tab.memory s.tab.walk s.tab.shadow
      if 2 ^ s.tab.k ≤ s.tab.walk + 1 then
        emit (s.recordNow .rebuildDone none none {} (BitVec.ofNat 32 shadow.length) zeroKey)
          (s.setTab { s.tab with presence := shadow, shadow := [], filter := .valid, walk := 0 })
      else s.setTab { s.tab with shadow := shadow, walk := s.tab.walk + 1 } := by
  rw [walkBucket, if_neg passed]
  simp only [completeRebuild, State.record_recordNow]
  rfl

end Step

/-- Settles O59. -/
theorem rebuildAndItsWalk : Obligations.RebuildAndItsWalk := by
  unfold Obligations.RebuildAndItsWalk
  intro s ring
  refine ⟨fun d took => ⟨fun rebuilding => ?_, fun idle => ?_⟩, fun bad part up port waits rebuilding => ?_⟩
  · rw [exec_rebuild took, rebuildDesc_busy took.2.2.1 rebuilding]
  · rw [exec_rebuild took, rebuildDesc_accepted took.2.2.1 idle]
  · intro u b x fails
    have whole : exec (.rebuildWalkBucket bad) s = .next (walkBucket u) := exec_walk bad part up port waits rebuilding
    have words : (u.tab.memory.walkWords u.tab.walk).any u.tab.memory.fails = true ↔ fails := walkWords_fails
    have again : u.tab.filter = .rebuilding := rebuilding
    refine ⟨fun failed => ?_, fun passed => ?_⟩
    · rw [whole, walkBucket_fails (words.2 failed) again]
      rfl
    · have step := walkBucket_passes fun h => passed (words.1 h)
      refine ⟨bucketShadow s.tab.memory b s.tab.shadow, fun y => mem_bucketShadow, foldl_bitInsert_rising, fun more => ?_, fun last => ?_⟩
      · rw [whole, step]
        exact congrArg _ (if_neg (Nat.not_le.2 more))
      · rw [whole, step]
        exact congrArg _ (if_pos last)

end Sys2Proof.Proofs.Walk

end

section
/-! PROOFS. The ZONE, MONITOR and PROFILE requests (O60). -/

namespace Sys2Proof.Proofs.Settings

open Sys2Proof Sys2Proof.Machine Sys2Proof.Proofs.Keeping Sys2Proof.Proofs.Requests Sys2Proof.Proofs.Events
  Sys2Proof.Proofs.Admission Sys2Proof.Proofs.Loads

/-! ## The fields of the descriptors -/

theorem zoneOf_ofNat (z : ZoneId) : zoneOf (BitVec.ofNat 8 z.val) = some z := by
  revert z
  decide

theorem zoneOf_eq_none {b : Byte} : zoneOf b = none ↔ 16 ≤ b.toNat := by
  unfold zoneOf
  split
  · next h => simp [Nat.not_le.2 h]
  · next h => simpa using h

theorem eq_ofNat_of_zoneOf {b : Byte} {z : ZoneId} (h : zoneOf b = some z) : b = BitVec.ofNat 8 z.val := by
  revert b
  decide +revert

theorem monitorOf_ofNat (n : MonitorId) : monitorOf (BitVec.ofNat 8 n.val) = some n := by
  revert n
  decide

theorem monitorOf_isSome {b : Byte} : (monitorOf b).isSome = true ↔ b.toNat < 8 := by
  revert b
  decide

theorem profileOf_ofNat (p : ProfileId) : profileOf (BitVec.ofNat 8 p.val) = some p := by
  revert p
  decide

theorem profileOf_eq_none {b : Byte} : profileOf b = none ↔ 32 ≤ b.toNat := by
  unfold profileOf
  split
  · next h => simp [Nat.not_le.2 h]
  · next h => simpa using h

section Requests

variable {s : State} {ring : Ring} {d : Desc}

theorem breakChain_zone (s : State) (z : ZoneId) : (breakChain s).zone z = s.zone z := by
  have zones : (breakChain s).zones = s.zones := (breakChain_frame s).zones
  rw [State.zone, zones]
  rfl

theorem breakChain_monitor (s : State) (n : MonitorId) : (breakChain s).monitor n = s.monitor n := by
  have monitors : (breakChain s).monitors = s.monitors := (breakChain_frame s).monitors
  rw [State.monitor, monitors]
  rfl

theorem breakChain_adm (s : State) : (breakChain s).adm = s.adm := (breakChain_frame s).adm

/-! ## ZONE -/

section Zone

variable {z : ZoneId}

theorem claimsZone {b : Byte} : (b.toNat ≠ 1 → b.toNat ≠ 2 → claimsAction 0 0 2 b = true) ∧
    (b.toNat ≠ 0 → b.toNat ≠ 2 → claimsAction 1 0 2 b = true) ∧ (b.toNat ≠ 0 → b.toNat ≠ 1 → claimsAction 2 0 2 b = true) := by
  simp only [claimsAction_eq_true]
  omega

theorem parseZone_set (zone : d.byte 0 = BitVec.ofNat 8 z.val) (action : (d.byte 1).toNat = 0)
    (fits : (wordAt d.payload 4).toNat ≤ 65535) : parseZone d = some (z, .setOccupancy (wordAt d.payload 4).toNat) := by
  simp only [parseZone, zone, zoneOf_ofNat, action]
  exact if_pos fits

theorem parseZone_adjust (zone : d.byte 0 = BitVec.ofNat 8 z.val) (action : (d.byte 1).toNat = 1)
    (fits : -65535 ≤ (wordAt d.payload 4).toInt ∧ (wordAt d.payload 4).toInt ≤ 65535) :
    parseZone d = some (z, .adjust (wordAt d.payload 4).toInt) := by
  simp only [parseZone, zone, zoneOf_ofNat, action]
  exact if_pos fits

theorem parseZone_capacity (zone : d.byte 0 = BitVec.ofNat 8 z.val) (action : (d.byte 1).toNat = 2)
    (fits : (wordAt d.payload 4).toNat ≤ 65535) : parseZone d = some (z, .setCapacity (wordAt d.payload 4).toNat) := by
  simp only [parseZone, zone, zoneOf_ofNat, action]
  exact if_pos fits

theorem parseZone_malformed
    (bad : 16 ≤ (d.byte 0).toNat ∨ 3 ≤ (d.byte 1).toNat ∨ ((d.byte 1).toNat ≠ 1 ∧ 65535 < (wordAt d.payload 4).toNat) ∨
      ((d.byte 1).toNat = 1 ∧ ((wordAt d.payload 4).toInt < -65535 ∨ 65535 < (wordAt d.payload 4).toInt))) : parseZone d = none := by
  have limit : Config.countLimit = 65535 := rfl
  unfold parseZone
  simp only [limit]
  split
  · next z zone action => exact if_neg (by have := mt zoneOf_eq_none.2 (by rw [zone]; simp); omega)
  · next z zone action => exact if_neg (by have := mt zoneOf_eq_none.2 (by rw [zone]; simp); omega)
  · next z zone action => exact if_neg (by have := mt zoneOf_eq_none.2 (by rw [zone]; simp); omega)
  · rfl

theorem zoneDesc_malformed (cfg : s.cfg.list = some ring) (bad : parseZone d = none) :
    zoneDesc d s = examineList (listHandBack ring d ⟨.malformed, [], []⟩ (breakChain s)) := by
  rw [zoneDesc, bad]
  exact returnList_eq ((congrArg _ (breakChain_cfg s)).trans cfg)

theorem zoneDesc_done {a : ZoneAction} {t : State} (cfg : t.cfg.list = some ring) (parsed : parseZone d = some (z, a))
    (effect : zoneEffect z a (breakChain s) = t) :
    zoneDesc d s = examineList (listHandBack ring d (zoneReply d (s.zone z) (t.zone z) (a.clamped (s.zone z).occupancy)) t) := by
  rw [zoneDesc, parsed]
  simp only [breakChain_zone, effect]
  exact returnList_eq cfg

end Zone

/-! ## MONITOR -/

theorem monitorMode_ofCode (b : Byte) :
    ((MonitorMode.ofCode b).isSome = true ↔ b.toNat ≤ 1) ∧ ∀ m ∈ MonitorMode.ofCode b, m.code = b := by
  revert b
  decide

theorem monitorEdge_ofCode (b : Byte) :
    ((MonitorEdge.ofCode b).isSome = true ↔ b.toNat ≤ 2) ∧ ∀ e ∈ MonitorEdge.ofCode b, e.code = b := by
  revert b
  decide

theorem linkAction_ofCode (b : Byte) :
    ((LinkAction.ofCode b).isSome = true ↔ b.toNat ≤ 3) ∧ ∀ l ∈ LinkAction.ofCode b, l.code = b := by
  revert b
  decide

/-- The settings of a monitor whose fields are in range. -/
theorem parseMonitor_some {en zone mode edge steady rec link : Byte} {level low high : Nat}
    (well : zone.toNat < 16 ∧ mode.toNat ≤ 1 ∧ edge.toNat ≤ 2 ∧ steady.toNat ≤ 7 ∧ link.toNat ≤ 3 ∧ level ≤ 65535 ∧ low ≤ 65535 ∧
      high ≤ 65535) :
    ∃ z m e l, zone = BitVec.ofNat 8 z.val ∧ m.code = mode ∧ e.code = edge ∧ l.code = link ∧
      parseMonitor en zone mode edge steady rec link level low high =
        some ⟨flagOf en, z, m, level, low, high, e, steady.toNat, flagOf rec, l, false, 0⟩ := by
  obtain ⟨zoneFits, modeFits, edgeFits, steadyFits, linkFits, levels⟩ := well
  obtain ⟨m, hm⟩ := Option.isSome_iff_exists.1 ((monitorMode_ofCode mode).1.2 modeFits)
  obtain ⟨e, he⟩ := Option.isSome_iff_exists.1 ((monitorEdge_ofCode edge).1.2 edgeFits)
  obtain ⟨l, hl⟩ := Option.isSome_iff_exists.1 ((linkAction_ofCode link).1.2 linkFits)
  obtain ⟨z, hz⟩ := Option.ne_none_iff_exists'.1 (mt zoneOf_eq_none.1 (Nat.not_le.2 zoneFits))
  refine ⟨z, m, e, l, eq_ofNat_of_zoneOf hz, (monitorMode_ofCode mode).2 m hm, (monitorEdge_ofCode edge).2 e he,
    (linkAction_ofCode link).2 l hl, ?_⟩
  simp only [parseMonitor, hz, hm, he, hl]
  exact if_pos ⟨steadyFits, levels⟩

theorem parseMonitor_none {en zone mode edge steady rec link : Byte} {level low high : Nat}
    (bad : ¬(zone.toNat < 16 ∧ mode.toNat ≤ 1 ∧ edge.toNat ≤ 2 ∧ steady.toNat ≤ 7 ∧ link.toNat ≤ 3 ∧ level ≤ 65535 ∧ low ≤ 65535 ∧
      high ≤ 65535)) : parseMonitor en zone mode edge steady rec link level low high = none := by
  unfold parseMonitor
  split
  · next z m e l hz hm he hl =>
    refine if_neg fun fits => bad ⟨?_, (monitorMode_ofCode mode).1.1 (by rw [hm]; rfl), (monitorEdge_ofCode edge).1.1 (by rw [he]; rfl),
      fits.1, (linkAction_ofCode link).1.1 (by rw [hl]; rfl), fits.2⟩
    exact Nat.not_le.1 (mt zoneOf_eq_none.2 (by rw [hz]; exact Option.some_ne_none z))
  · rfl

theorem parseMonitorDesc_some {n : MonitorId} {m : Monitor} (number : monitorOf (d.byte 0) = some n)
    (parsed : parseMonitor (d.byte 1) (d.byte 2) (d.byte 3) (d.byte 4) (d.byte 5) (d.byte 6) (d.byte 7) (wordAt d.payload 8).toNat
      (wordAt d.payload 12).toNat (wordAt d.payload 16).toNat = some m) : parseMonitorDesc d = some (n, m) := by
  rw [parseMonitorDesc, number, parsed]

theorem monitorDesc_malformed (cfg : s.cfg.list = some ring) (bad : parseMonitorDesc d = none) :
    monitorDesc d s = examineList (listHandBack ring d ⟨.malformed, [], []⟩ (breakChain s)) := by
  rw [monitorDesc, bad]
  exact returnList_eq ((congrArg _ (breakChain_cfg s)).trans cfg)

theorem monitorDesc_done {n : MonitorId} {m : Monitor} (cfg : s.cfg.list = some ring) (parsed : parseMonitorDesc d = some (n, m)) :
    monitorDesc d s =
      examineList (listHandBack ring d (monitorReply (s.monitor n) (m.recompute (s.zone m.zone).occupancy).output)
        ((breakChain s).setMonitor n (m.recompute (s.zone m.zone).occupancy))) := by
  rw [monitorDesc, parsed]
  simp only [breakChain_zone, breakChain_monitor]
  exact returnList_eq ((congrArg _ (breakChain_cfg s)).trans cfg)

/-! ## PROFILE -/

theorem profileReply_eq (o : Profile) :
    profileReply o =
      ⟨.done,
        (List.range 4).map (byteOf o.openTime) ++ (List.range 4).map (byteOf o.closeTime) ++
          [BitVec.ofNat 8 ((if o.noOpen then 1 else 0) + (if o.noClose then 2 else 0))], []⟩ := by
  have flags : o.flagByte = BitVec.ofNat 8 ((if o.noOpen then 1 else 0) + (if o.noClose then 2 else 0)) := by
    unfold Profile.flagByte
    cases o.noOpen <;> cases o.noClose <;> rfl
  rw [profileReply, flags]
  rfl

theorem profileDesc_malformed (cfg : s.cfg.list = some ring) (bad : profileOf (d.byte 0) = none) :
    profileDesc d s = examineList (listHandBack ring d ⟨.malformed, [], []⟩ (breakChain s)) := by
  rw [profileDesc, carryOutProfile, bad]
  exact returnList_eq ((congrArg _ (breakChain_cfg s)).trans cfg)

theorem profileDesc_done {p : ProfileId} (cfg : s.cfg.list = some ring) (named : profileOf (d.byte 0) = some p) :
    profileDesc d s =
      examineList (listHandBack ring d (profileReply (s.adm.profiles.get p)) ((breakChain s).setProfile p (profileOfDesc d))) := by
  rw [profileDesc, carryOutProfile, named]
  exact returnList_eq ((congrArg _ (breakChain_cfg s)).trans cfg)

theorem exec_zone {c : Nat} (took : s.ListTook ring .zone d) (claim : claimsAction c 0 2 (d.byte 1) = true) :
    (c = 0 → exec .zoneSetOccupancy s = .next (zoneDesc d s)) ∧ (c = 1 → exec .zoneAdjust s = .next (zoneDesc d s)) ∧
      (c = 2 → exec .zoneSetCapacity s = .next (zoneDesc d s)) := by
  have taken := listTaken_of_took took claim
  refine ⟨?_, ?_, ?_⟩
  · rintro rfl
    show execZoneSetOccupancy s = _
    simp only [execZoneSetOccupancy, taken]
  · rintro rfl
    show execZoneAdjust s = _
    simp only [execZoneAdjust, taken]
  · rintro rfl
    show execZoneSetCapacity s = _
    simp only [execZoneSetCapacity, taken]

theorem exec_monitor (took : s.ListTook ring .monitor d) : exec .monitor s = .next (monitorDesc d s) := by
  show execMonitor s = _
  simp only [execMonitor, listTaken_of_took (claims := claimsAll) (o := 0) took rfl]

theorem exec_profile (took : s.ListTook ring .profile d) : exec .profile s = .next (profileDesc d s) := by
  show execProfile s = _
  simp only [execProfile, listTaken_of_took (claims := claimsAll) (o := 0) took rfl]

end Requests

/-- Settles O60. -/
theorem settingsRequests : Obligations.SettingsRequests := by
  unfold Obligations.SettingsRequests
  intro s ring d u back malformed word half
  refine ⟨fun took => ?_, fun took => ?_, fun took => ?_⟩
  · have cfg := took.2.2.1
    have cfg' : u.cfg.list = some ring := (congrArg _ (breakChain_cfg s)).trans cfg
    intro a v bad
    obtain ⟨claimsSet, claimsAdjust, claimsCapacity⟩ := claimsZone (b := d.byte 1)
    refine ⟨fun fails => ?_, fun fits z zone => ?_⟩
    · have run : zoneDesc d s = _ := zoneDesc_malformed cfg (parseZone_malformed fails)
      refine ⟨fun h₁ h₂ => ?_, fun h₀ h₂ => ?_, fun h₀ h₁ => ?_⟩
      · rw [(exec_zone took (claimsSet h₁ h₂)).1 rfl, run]
      · rw [(exec_zone took (claimsAdjust h₀ h₂)).2.1 rfl, run]
      · rw [(exec_zone took (claimsCapacity h₀ h₁)).2.2 rfl, run]
    · intro x reply n n'
      have same : u.zone z = x := breakChain_zone s z
      have stored : ∀ o, (setOccupancy z o u).zone z = { x with occupancy := o } := fun o => by
        rw [setOccupancy_zone, if_pos rfl, same]
      have kept : ∀ o, (setOccupancy z o u).cfg.list = some ring := fun o => by rw [setOccupancy_cfg, cfg']
      have small : a ≠ 1 → (wordAt d.payload 4).toNat ≤ 65535 := fun h => Nat.not_lt.1 fun big => fits (.inr (.inr (.inl ⟨h, big⟩)))
      refine ⟨fun action => ?_, fun action => ?_, fun action => ?_⟩
      · rw [(exec_zone took (claimsAction_eq_true.2 (.inl action))).1 rfl,
          zoneDesc_done (kept v.toNat) (parseZone_set zone action (small (by omega))) rfl, stored]
        rfl
      · have range : -65535 ≤ v.toInt ∧ v.toInt ≤ 65535 :=
          ⟨Int.not_lt.1 fun h => fits (.inr (.inr (.inr ⟨action, .inl h⟩))), Int.not_lt.1 fun h => fits (.inr (.inr (.inr ⟨action, .inr h⟩)))⟩
        have effect : zoneEffect z (.adjust v.toInt) u = setOccupancy z n' u := by
          rw [zoneEffect, same]
          rfl
        rw [(exec_zone took (claimsAction_eq_true.2 (.inl action))).2.1 rfl,
          zoneDesc_done (kept n') (parseZone_adjust zone action range) effect, stored]
        rfl
      · have effect : zoneEffect z (.setCapacity v.toNat) u = u.setZone z { x with capacity := v.toNat } := by
          rw [zoneEffect, same]
        rw [(exec_zone took (claimsAction_eq_true.2 (.inl action))).2.2 rfl,
          zoneDesc_done (show (u.setZone z { x with capacity := v.toNat }).cfg.list = some ring from cfg') (parseZone_capacity zone action (small (by omega))) effect, State.setZone_zone_same]
        rfl
  · have cfg := took.2.2.1
    intro well
    rw [exec_monitor took]
    refine ⟨fun fails => ?_, fun fits n named => ?_⟩
    · rw [monitorDesc_malformed cfg]
      unfold parseMonitorDesc
      split
      · next n m number settings =>
        have low := monitorOf_isSome.1 (Option.isSome_of_eq_some number)
        have nothing := settings.symm.trans (parseMonitor_none fun h => fails ⟨low, h.1, h.2.1, h.2.2.1, h.2.2.2.1, h.2.2.2.2⟩)
        cases nothing
      · rfl
    · obtain ⟨low, zoneFits, modeFits, edgeFits, steadyFits, rest⟩ := fits
      obtain ⟨z, m, e, l, zone, mode, edge, link, parsed⟩ :=
        parseMonitor_some (en := d.byte 1) (rec := d.byte 6) ⟨zoneFits, modeFits, edgeFits, steadyFits, rest⟩
      have whole := parseMonitorDesc_some (by rw [named, monitorOf_ofNat]) parsed
      refine ⟨Monitor.recompute ⟨flagOf (d.byte 1), z, m, (word 8).toNat, (word 12).toNat, (word 16).toNat, e, (d.byte 5).toNat,
        flagOf (d.byte 6), l, false, 0⟩ (s.zone z).occupancy, rfl, zone, mode, edge, rfl, rfl, link, rfl, rfl, rfl, rfl, rfl, ?_⟩
      rw [monitorDesc_done cfg whole]
      rfl
  · have cfg := took.2.2.1
    rw [exec_profile took]
    refine ⟨fun large => ?_, fun p named => ?_⟩
    · rw [profileDesc_malformed cfg (profileOf_eq_none.2 large)]
    · intro o flags
      have number : profileOf (d.byte 0) = some p := by rw [named, profileOf_ofNat]
      have adm : (u.setProfile p (profileOfDesc d)).adm =
          { s.adm with profiles := s.adm.profiles.set p.val (profileOfDesc d) p.isLt } := by
        show ({ u.adm with profiles := u.adm.profiles.set p.val (profileOfDesc d) p.isLt } : Admission) = _
        rw [show u.adm = s.adm from breakChain_adm s]
      refine ⟨u.setProfile p (profileOfDesc d), by rw [profileDesc_done cfg number, profileReply_eq], rfl, ?_, fun y other => ?_, ?_⟩
      · rw [adm]
      · rw [adm]
        exact (vector_get_set _ _ _ _).trans (if_neg other)
      · rw [adm]
        exact (vector_get_set _ _ _ _).trans (if_pos rfl)

end Sys2Proof.Proofs.Settings

end

section
/-! PROOFS. The examinations of the request rings at their poll timers (O27). -/

namespace Sys2Proof.Proofs.Examine

open Sys2Proof Sys2Proof.Machine Sys2Proof.Proofs.Keeping Sys2Proof.Proofs.Requests Sys2Proof.Proofs.Returns Sys2Proof.Proofs.Loads

/-! ## The descriptors of a ring that the part owns

Each return at the ring checks takes one owner mark away and gives none, so the bound on the returns of one examination is never
met: an examination that goes on after a return is an examination with its whole bound again. -/

section Lent

variable {ring : Ring} {m m' m'' : List Host.Cell}

/-- The positions of a ring whose descriptor the part owns. -/
def lent (ring : Ring) (m : List Host.Cell) : Finset Nat :=
  (Finset.range (2 ^ ring.exp)).filter fun j => Memory.read m (ring.descAddr j) = 1

/-- A later memory in which no further descriptor of the ring is the part's. -/
structure NoneLent (ring : Ring) (m m' : List Host.Cell) : Prop where
  wf : Memory.wf m'
  lent : ∀ j, Memory.read m' (ring.descAddr j) = 1 → Memory.read m (ring.descAddr j) = 1

theorem NoneLent.refl (wf : Memory.wf m) : NoneLent ring m m := ⟨wf, fun _ h => h⟩

theorem NoneLent.trans (a : NoneLent ring m m') (b : NoneLent ring m' m'') : NoneLent ring m m'' :=
  ⟨b.wf, fun j h => a.lent j (b.lent j h)⟩

theorem lent_card_lt {j : Nat} (step : NoneLent ring m m') (low : j < 2 ^ ring.exp) (owned : Memory.read m (ring.descAddr j) = 1)
    (given : Memory.read m' (ring.descAddr j) ≠ 1) : (lent ring m').card < (lent ring m).card := by
  refine Finset.card_lt_card ((Finset.ssubset_iff_of_subset fun i h => ?_).2 ⟨j, ?_, fun h => given (Finset.mem_filter.1 h).2⟩)
  · obtain ⟨low, h⟩ := Finset.mem_filter.1 h
    exact Finset.mem_filter.2 ⟨low, step.lent i h⟩
  · exact Finset.mem_filter.2 ⟨Finset.mem_range.2 low, owned⟩

theorem lent_card_le (ring : Ring) (m : List Host.Cell) : (lent ring m).card ≤ 2 ^ ring.exp :=
  (Finset.card_filter_le _ _).trans (Finset.card_range _).le

variable {flag : NoticeFlag} {n : Bool} {r : Reply} {s : State} {i : Nat}

theorem writeReturn_noneLent (wf : Memory.wf s.xmem) (fits : ∀ w ∈ r.overlay, w.1 + w.2.length ≤ 40) :
    NoneLent ring s.xmem (writeReturn flag (ring.descAddr i) n r s).xmem := by
  by_cases owned : s.read (ring.descAddr i) = 1
  · refine ⟨by rw [writeReturn_xmem owned]; exact Memory.write_wf _ _ _ (answered_wf wf), fun j given => ?_⟩
    rw [← State.read_def, writeReturn_read wf owned] at given
    by_cases same : ring.descAddr j = ring.descAddr i
    · rw [if_pos same] at given
      cases given
    · have apart : ring.base + 64 * j ≠ ring.base + 64 * i := same
      have addr : ∀ j, ring.descAddr j = ring.base + 64 * j := fun j => rfl
      rw [if_neg same, read_answered wf fun w hw => by have := fits w hw; simp only [addr]; omega] at given
      simp only [addr] at given ⊢
      rwa [if_neg (by omega), if_neg (by omega)] at given
  · rw [writeReturn, if_neg owned]
    exact NoneLent.refl wf

theorem writeReturn_given (wf : Memory.wf s.xmem) : Memory.read (writeReturn flag (ring.descAddr i) n r s).xmem (ring.descAddr i) ≠ 1 := by
  by_cases owned : s.read (ring.descAddr i) = 1
  · rw [← State.read_def, writeReturn_read wf owned, if_pos rfl]
    decide
  · rw [writeReturn, if_neg owned]
    exact owned

theorem breakChain_noneLent (wf : Memory.wf s.xmem) (cfg : s.cfg.list = some ring) : NoneLent ring s.xmem (breakChain s).xmem := by
  by_cases chain : s.list.chainOpen = true
  · rw [breakChain_open chain]
    show NoneLent ring s.xmem (returnKept .chainBroken true s).xmem
    cases kept : s.list.kept with
    | none =>
      rw [returnKept_none kept]
      exact NoneLent.refl wf
    | some k =>
      rw [returnKept_kept cfg kept]
      refine writeReturn_noneLent wf fun w hw => ?_
      cases List.mem_singleton.1 hw
      exact Nat.le_of_ble_eq_true rfl
  · rw [breakChain_closed (Bool.eq_false_iff.2 chain)]
    exact NoneLent.refl wf

end Lent

theorem bare_fits (st : Status) : ∀ w ∈ (Reply.bare st).overlay, w.1 + w.2.length ≤ 40 := fun _ h => absurd h List.not_mem_nil

/-! ## The checks at the take -/

section Checks

variable {d : Desc}

/-- A kind of the gate ring, by its code (12.4). -/
def GateKind (b : Byte) : Prop := b = 1 ∨ b = 2 ∨ b = 3 ∨ b = 4

/-- A kind of the list ring, by its code (12.4). -/
def ListKind (b : Byte) : Prop := 16 ≤ b.toNat ∧ b.toNat ≤ 23

theorem gateKind_iff {b : Byte} : GateKind b ↔ ∃ k, ReqKind.ofCode b = some k ∧ k.ring = .gate := by
  have codes : ∀ b : Byte, (b = 1 ∨ b = 2 ∨ b = 3 ∨ b = 4) ↔ (ReqKind.ofCode b).map ReqKind.ring = some .gate := by decide
  rw [GateKind, codes, Option.map_eq_some_iff]

theorem listKind_iff {b : Byte} : ListKind b ↔ ∃ k, ReqKind.ofCode b = some k ∧ k.ring = .list := by
  have codes : ∀ b : Byte, (16 ≤ b.toNat ∧ b.toNat ≤ 23) ↔ (ReqKind.ofCode b).map ReqKind.ring = some .list := by decide
  rw [ListKind, codes, Option.map_eq_some_iff]

theorem ofCode_load {b : Byte} : ReqKind.ofCode b = some .load ↔ b = 16 := by
  revert b
  decide

theorem unnamed {b : Byte} (notGate : ¬GateKind b) (notList : ¬ListKind b) : ReqKind.ofCode b = none := by
  cases code : ReqKind.ofCode b with
  | none => rfl
  | some k =>
    cases ring : k.ring with
    | gate => exact absurd (gateKind_iff.2 ⟨k, code, ring⟩) notGate
    | list => exact absurd (listKind_iff.2 ⟨k, code, ring⟩) notList

theorem gateCheck_gateKind (kind : GateKind d.kind) : gateCheck d = if d.chain = 0 then none else some .malformed := by
  obtain ⟨k, code, ring⟩ := gateKind_iff.1 kind
  rw [gateCheck, Desc.reqKind, code]
  simp only [ring, reduceCtorEq, if_false]
  split <;> simp_all

theorem gateCheck_listKind (kind : ListKind d.kind) : gateCheck d = some .wrongRing := by
  obtain ⟨k, code, ring⟩ := listKind_iff.1 kind
  rw [gateCheck, Desc.reqKind, code]
  exact if_pos ring

theorem gateCheck_unnamed (notGate : ¬GateKind d.kind) (notList : ¬ListKind d.kind) : gateCheck d = some .malformed := by
  rw [gateCheck, Desc.reqKind, unnamed notGate notList]

theorem listCheck_listKind (kind : ListKind d.kind) : listCheck d = if d.kind = 16 ∨ d.chain = 0 then none else some .malformed := by
  obtain ⟨k, code, ring⟩ := listKind_iff.1 kind
  have load : k = .load ↔ d.kind = 16 := by rw [← ofCode_load, code, Option.some_inj]
  rw [listCheck, Desc.reqKind, code]
  simp only [ring, reduceCtorEq, if_false, ne_eq, load]
  by_cases h : d.kind = 16 ∨ d.chain = 0
  · rw [if_pos h, if_neg (by tauto)]
  · rw [if_neg h, if_pos (by tauto)]

theorem listCheck_gateKind (kind : GateKind d.kind) : listCheck d = some .wrongRing := by
  obtain ⟨k, code, ring⟩ := gateKind_iff.1 kind
  rw [listCheck, Desc.reqKind, code]
  exact if_pos ring

theorem listCheck_unnamed (notGate : ¬GateKind d.kind) (notList : ¬ListKind d.kind) : listCheck d = some .malformed := by
  rw [listCheck, Desc.reqKind, unnamed notGate notList]

end Checks

/-! ## The gate ring -/

section Gate

variable {s : State} {ring : Ring} {d : Desc}

theorem gateHandBack_noneLent {r : Reply} (wf : Memory.wf s.xmem) (fits : ∀ w ∈ r.overlay, w.1 + w.2.length ≤ 40) :
    NoneLent ring s.xmem (gateHandBack ring d r s).xmem :=
  writeReturn_noneLent wf fits

theorem gateHandBack_given {r : Reply} (wf : Memory.wf s.xmem) :
    Memory.read (gateHandBack ring d r s).xmem (ring.descAddr s.gate.take) ≠ 1 :=
  writeReturn_given wf

theorem gateHandBack_cfg (r : Reply) : (gateHandBack ring d r s).cfg = s.cfg := writeReturn_cfg _ _ _ _ _

theorem gateHandBack_running (r : Reply) : (gateHandBack ring d r s).running = s.running :=
  congrArg (fun p => decide (p = PartState.running)) (writeReturn_part _ _ _ _ _)

theorem next_lt (ring : Ring) (i : Nat) : ring.next i < 2 ^ ring.exp := Nat.mod_lt _ (Nat.two_pow_pos _)

theorem gateExamine_succ (cfg : s.cfg.gate = some ring) (n : Nat) :
    gateExamine (n + 1) s =
      if s.read (ring.descAddr s.gate.take) = 1 then
        match gateCheck (readDesc s.xmem (ring.descAddr s.gate.take)) with
        | none => s.setGate { s.gate with poll := none, work := some ⟨readDesc s.xmem (ring.descAddr s.gate.take), .taken⟩ }
        | some st => gateExamine n (gateHandBack ring (readDesc s.xmem (ring.descAddr s.gate.take)) (Reply.bare st) s)
      else s.setGate { s.gate with poll := some s.cfg.poll } := by
  rw [gateExamine]
  simp only [cfg] <;> rfl

/-- More returns than descriptors of the part are never made. -/
theorem gateExamine_bound (cfg : s.cfg.gate = some ring) (wf : Memory.wf s.xmem) (low : s.gate.take < 2 ^ ring.exp) {n : Nat}
    (enough : (lent ring s.xmem).card < n) : gateExamine (n + 1) s = gateExamine n s := by
  induction n generalizing s with
  | zero => exact absurd enough (Nat.not_lt_zero _)
  | succ n ih =>
    rw [gateExamine_succ cfg, gateExamine_succ cfg]
    split
    · next owned =>
      split
      · rfl
      · next st _ =>
        have back := gateHandBack_noneLent (ring := ring) (d := readDesc s.xmem (ring.descAddr s.gate.take)) wf (bare_fits st)
        have fewer := lent_card_lt back low owned (gateHandBack_given wf)
        exact ih ((congrArg _ (gateHandBack_cfg _)).trans cfg) back.wf (next_lt _ _) (by omega)
    · rfl

theorem examineGate_idle (cfg : s.cfg.gate = some ring) (up : s.running = true) (idle : s.gate.work = none) :
    examineGate s = gateExamine (2 ^ ring.exp + 1) s := by
  rw [examineGate, if_pos ⟨up, idle⟩, cfg]
  rfl

theorem examineGate_empty (cfg : s.cfg.gate = some ring) (up : s.running = true) (idle : s.gate.work = none)
    (open_ : s.read (ring.descAddr s.gate.take) ≠ 1) : examineGate s = s.setGate ⟨s.gate.take, some s.cfg.poll, none⟩ := by
  rw [examineGate_idle cfg up idle, gateExamine_succ cfg, if_neg open_, ← idle]

theorem examineGate_taken (cfg : s.cfg.gate = some ring) (up : s.running = true) (idle : s.gate.work = none)
    (owned : s.read (ring.descAddr s.gate.take) = 1) (passes : gateCheck (readDesc s.xmem (ring.descAddr s.gate.take)) = none) :
    examineGate s = s.setGate ⟨s.gate.take, none, some ⟨readDesc s.xmem (ring.descAddr s.gate.take), .taken⟩⟩ := by
  rw [examineGate_idle cfg up idle, gateExamine_succ cfg, if_pos owned]
  simp only [passes]

/-- A descriptor that fails its checks is returned, and the next position is examined at once. -/
theorem examineGate_returned {st : Status} (cfg : s.cfg.gate = some ring) (up : s.running = true) (idle : s.gate.work = none)
    (low : s.gate.take < 2 ^ ring.exp) (wf : Memory.wf s.xmem) (owned : s.read (ring.descAddr s.gate.take) = 1)
    (fails : gateCheck (readDesc s.xmem (ring.descAddr s.gate.take)) = some st) :
    examineGate s =
      examineGate (gateHandBack ring (readDesc s.xmem (ring.descAddr s.gate.take)) (Reply.bare st) s) := by
  have back := gateHandBack_noneLent (ring := ring) (d := readDesc s.xmem (ring.descAddr s.gate.take)) wf (bare_fits st)
  have fewer := (lent_card_lt back low owned (gateHandBack_given wf)).trans_le (lent_card_le _ _)
  have cfg' := (congrArg _ (gateHandBack_cfg (s := s) (ring := ring) (d := readDesc s.xmem (ring.descAddr s.gate.take))
    (Reply.bare st))).trans cfg
  rw [examineGate_idle cfg up idle, gateExamine_succ cfg, if_pos owned]
  simp only [fails]
  rw [examineGate_idle cfg' ((gateHandBack_running _).trans up) rfl, gateExamine_bound cfg' back.wf (next_lt _ _) fewer]

end Gate

/-! ## The list ring -/

section List

variable {s : State} {ring : Ring} {d : Desc}

/-- A descriptor of the list ring handed back at the checks of its take, an open chain broken first (R57). -/
def refused (ring : Ring) (st : Status) (s : State) : State :=
  listHandBack ring (readDesc s.xmem (ring.descAddr s.list.take)) (Reply.bare st) (breakChain s)

theorem breakChain_take (s : State) : (breakChain s).list.take = s.list.take := by
  by_cases chain : s.list.chainOpen = true
  · rw [breakChain_list chain]
    rfl
  · rw [breakChain_closed (Bool.eq_false_iff.2 chain)]

theorem refused_cfg (st : Status) : (refused ring st s).cfg = s.cfg := (writeReturn_cfg _ _ _ _ _).trans (breakChain_cfg s)

theorem refused_running (st : Status) : (refused ring st s).running = s.running := by
  have part : (breakChain s).ctl.part = s.ctl.part := by
    have ctl : (breakChain s).ctl = _ := (breakChain_frame s).ctl
    rw [ctl]
  exact congrArg (fun p => decide (p = PartState.running)) ((writeReturn_part _ _ _ _ _).trans part)

theorem refused_noneLent (cfg : s.cfg.list = some ring) (wf : Memory.wf s.xmem) (st : Status) :
    NoneLent ring s.xmem (refused ring st s).xmem :=
  have broken := breakChain_noneLent wf cfg
  broken.trans (writeReturn_noneLent broken.wf (bare_fits st))

theorem refused_given (cfg : s.cfg.list = some ring) (wf : Memory.wf s.xmem) (st : Status) :
    Memory.read (refused ring st s).xmem (ring.descAddr s.list.take) ≠ 1 := by
  rw [← breakChain_take s]
  exact writeReturn_given (breakChain_noneLent wf cfg).wf

theorem listExamine_succ (cfg : s.cfg.list = some ring) (n : Nat) :
    listExamine (n + 1) s =
      if s.read (ring.descAddr s.list.take) = 1 then
        match listCheck (readDesc s.xmem (ring.descAddr s.list.take)) with
        | none =>
          s.setList { s.list with poll := none, wait := none, work := some ⟨readDesc s.xmem (ring.descAddr s.list.take), .taken⟩ }
        | some st => listExamine n (refused ring st s)
      else listWait s := by
  rw [listExamine]
  simp only [cfg] <;> rfl

theorem listExamine_bound (cfg : s.cfg.list = some ring) (wf : Memory.wf s.xmem) (low : s.list.take < 2 ^ ring.exp) {n : Nat}
    (enough : (lent ring s.xmem).card < n) : listExamine (n + 1) s = listExamine n s := by
  induction n generalizing s with
  | zero => exact absurd enough (Nat.not_lt_zero _)
  | succ n ih =>
    rw [listExamine_succ cfg, listExamine_succ cfg]
    split
    · next owned =>
      split
      · rfl
      · next st _ =>
        have back := refused_noneLent cfg wf st
        have fewer := lent_card_lt back low owned (refused_given cfg wf st)
        exact ih ((congrArg _ (refused_cfg st)).trans cfg) back.wf (next_lt _ _) (by omega)
    · rfl

theorem examineList_idle (cfg : s.cfg.list = some ring) (up : s.running = true) (idle : s.list.work = none) :
    examineList s = listExamine (2 ^ ring.exp + 1) s := by
  rw [examineList, if_pos ⟨up, idle⟩, cfg]
  rfl

theorem examineList_empty (cfg : s.cfg.list = some ring) (up : s.running = true) (idle : s.list.work = none)
    (open_ : s.read (ring.descAddr s.list.take) ≠ 1) : examineList s = listWait s := by
  rw [examineList_idle cfg up idle, listExamine_succ cfg, if_neg open_]

theorem examineList_taken (cfg : s.cfg.list = some ring) (up : s.running = true) (idle : s.list.work = none)
    (owned : s.read (ring.descAddr s.list.take) = 1) (passes : listCheck (readDesc s.xmem (ring.descAddr s.list.take)) = none) :
    examineList s =
      s.setList { s.list with poll := none, wait := none, work := some ⟨readDesc s.xmem (ring.descAddr s.list.take), .taken⟩ } := by
  rw [examineList_idle cfg up idle, listExamine_succ cfg, if_pos owned]
  simp only [passes]

theorem examineList_returned {st : Status} (cfg : s.cfg.list = some ring) (up : s.running = true) (idle : s.list.work = none)
    (low : s.list.take < 2 ^ ring.exp) (wf : Memory.wf s.xmem) (owned : s.read (ring.descAddr s.list.take) = 1)
    (fails : listCheck (readDesc s.xmem (ring.descAddr s.list.take)) = some st) : examineList s = examineList (refused ring st s) := by
  have back := refused_noneLent cfg wf st
  have fewer := (lent_card_lt back low owned (refused_given cfg wf st)).trans_le (lent_card_le _ _)
  have cfg' := (congrArg _ (refused_cfg (s := s) (ring := ring) st)).trans cfg
  rw [examineList_idle cfg up idle, listExamine_succ cfg, if_pos owned]
  simp only [fails]
  rw [examineList_idle cfg' ((refused_running st).trans up) rfl, listExamine_bound cfg' back.wf (next_lt _ _) fewer]

end List

/-! ## The poll timers -/

theorem exec_gatePoll {s : State} (up : s.ctl.resetActive = false) (poll : s.gate.poll.isSome = true) :
    exec (.ringPollExpiry .gate) s = .next (examineGate s) := by
  show Host.Outcome.next (if s.ctl.resetActive = true then s else if s.gate.poll.isSome = true then examineGate s else s) = _
  rw [if_neg (by rw [up]; decide), if_pos poll]

theorem exec_listPoll {s : State} (up : s.ctl.resetActive = false) (poll : s.list.poll.isSome = true) :
    exec (.ringPollExpiry .list) s = .next (examineList s) := by
  show Host.Outcome.next (if s.ctl.resetActive = true then s else if s.list.poll.isSome = true then examineList s else s) = _
  rw [if_neg (by rw [up]; decide), if_pos poll]

/-- Settles O27. -/
theorem requestRingExaminations : Obligations.RequestRingExaminations := by
  unfold Obligations.RequestRingExaminations
  refine ⟨fun s ring part reset cfg idle poll low wf => ?_, fun s ring part reset cfg idle poll low wf => ?_⟩
  · intro a d gateKind listKind back
    have up : s.running = true := running_eq_true.2 part
    have read : readDesc s.xmem (ring.descAddr s.gate.take) = d := rfl
    rw [exec_gatePoll reset poll]
    have returned : ∀ {st}, s.read a = 1 → gateCheck d = some st → examineGate s = back st := fun owned fails =>
      examineGate_returned cfg up idle low wf owned fails
    refine ⟨fun open_ => ?_, fun owned kind alone => ?_, fun owned kind chained => ?_, fun owned kind => ?_, fun owned notGate notList => ?_⟩
    · rw [examineGate_empty cfg up idle open_]
    · rw [examineGate_taken cfg up idle owned (by rw [read, gateCheck_gateKind kind, if_pos alone]), read]
    · exact congrArg _ (returned owned (by rw [gateCheck_gateKind kind, if_neg chained]))
    · exact congrArg _ (returned owned (gateCheck_listKind kind))
    · exact congrArg _ (returned owned (gateCheck_unnamed notGate notList))
  · intro a d gateKind listKind back
    have up : s.running = true := running_eq_true.2 part
    have read : readDesc s.xmem (ring.descAddr s.list.take) = d := rfl
    rw [exec_listPoll reset poll]
    have returned : ∀ {st}, s.read a = 1 → listCheck d = some st → examineList s = back st := fun owned fails =>
      examineList_returned cfg up idle low wf owned fails
    refine ⟨fun open_ => ?_, fun owned kind mark => ?_, fun owned kind load chained => ?_, fun owned kind => ?_,
      fun owned notGate notList => ?_⟩
    · rw [examineList_empty cfg up idle open_]
      rfl
    · rw [examineList_taken cfg up idle owned (by rw [read, listCheck_listKind kind, if_pos mark]), read]
    · exact congrArg _ (returned owned (by rw [listCheck_listKind kind, if_neg (not_or.2 ⟨load, chained⟩)]))
    · exact congrArg _ (returned owned (listCheck_gateKind kind))
    · exact congrArg _ (returned owned (listCheck_unnamed notGate notList))

end Sys2Proof.Proofs.Examine

end

section
/-! PROOFS. RUN and PROMPT (O36), and the writes of the window (O39). -/

namespace Sys2Proof.Proofs.Commands

open Sys2Proof Sys2Proof.Machine Sys2Proof.Proofs.Keeping Sys2Proof.Proofs.Registers Sys2Proof.Proofs.Lanes Sys2Proof.Proofs.Requests
  Sys2Proof.Proofs.Bytes

section Run

variable {s : State}

/-! ## The examinations of RUN and PROMPT -/

theorem setList_frame_of {t : State} (frame : JournalFrame s t) (l : ListUnit) : JournalFrame (s.setList l) (t.setList l) :=
  { frame with list := rfl }

theorem setGate_frame_of {t : State} (frame : JournalFrame s t) (g : GateUnit) : JournalFrame (s.setGate g) (t.setGate g) :=
  { frame with gate := rfl }

theorem setList_setGate (s : State) (g : GateUnit) (l : ListUnit) : (s.setList l).setGate g = (s.setGate g).setList l := rfl

/-- The examinations change the ring units, the journal unit, the exchange memory and NOTICE alone. -/
theorem examineAll_frame (g : GateUnit) (l : ListUnit) (s : State) :
    JournalFrame ((s.setGate g).setList l) (((examineAll s).setGate g).setList l) := by
  have gate := setList_frame_of (examineGate_frame s g) l
  have list := setGate_frame_of (examineList_frame (examineGate s) l) g
  have journal := setList_frame_of (setGate_frame_of (journalExamine_frame (examineList (examineGate s))) g) l
  rw [setList_setGate, setList_setGate] at list
  exact (gate.trans list).trans journal

theorem examineAll_busy (gate : s.gate.work ≠ none) (list : s.list.work ≠ none) (queue : s.jrn.queue = []) : examineAll s = s := by
  have first : examineGate s = s := if_neg fun h => gate h.2
  have second : examineList s = s := if_neg fun h => list h.2
  rw [examineAll, first, second, journalExamine_empty queue]

theorem exec_run (up : s.ctl.resetActive = false) : exec .run s = .next (runCommand s) :=
  congrArg Host.Outcome.next (if_neg (by rw [up]; decide))

theorem exec_prompt (up : s.ctl.resetActive = false) : exec .prompt s = .next (promptCommand s) :=
  congrArg Host.Outcome.next (if_neg (by rw [up]; decide))

theorem exec_stop {f : InFlight} (up : s.ctl.resetActive = false) : exec (.stop f) s = .next (stopCommand f s) :=
  congrArg Host.Outcome.next (if_neg (by rw [up]; decide))

theorem exec_init {c : InitCourse} (up : s.ctl.resetActive = false) : exec (.init c) s = .next (initCommand c s) :=
  congrArg Host.Outcome.next (if_neg (by rw [up]; decide))

theorem runCommand_starts (startable : s.ctl.part = .standby ∨ (s.ctl.part = .halted ∧ s.ctl.setupComplete = true)) :
    runCommand s = examineAll (setPart .running s) := by
  unfold runCommand
  rcases startable with part | ⟨part, complete⟩
  · rw [part]
  · rw [part]
    exact if_pos complete

theorem runCommand_ignored (other : s.ctl.part = .running ∨ s.ctl.part = .settingUp ∨ (s.ctl.part = .halted ∧ s.ctl.setupComplete = false)) :
    runCommand s = s := by
  unfold runCommand
  rcases other with part | part | ⟨part, incomplete⟩
  · rw [part]
  · rw [part]
  · rw [part]
    exact if_neg (by rw [incomplete]; decide)

theorem promptCommand_running (part : s.ctl.part = .running) : promptCommand s = examineAll s := if_pos (running_eq_true.2 part)

theorem promptCommand_ignored (part : s.ctl.part ≠ .running) : promptCommand s = s := if_neg fun h => part (running_eq_true.1 h)

theorem release_running (part : s.ctl.part = .running) (up : s.ctl.resetActive = false) (i : LaneId) : s.release i = (s.hold i).isSome := by
  rw [State.release, running_eq_true.2 part, up]
  exact Bool.true_and _

theorem isFree_iff (m : LaneMode) : m.isFree = true ↔ m = .base .free ∨ m = .emergency := by
  cases m with
  | base b => cases b <;> decide
  | emergency => decide

theorem freewheel_running (part : s.ctl.part = .running) (up : s.ctl.resetActive = false) (i : LaneId) :
    s.freewheel i = true ↔ (s.lane i).enabled = true ∧ ((s.lane i).mode = .base .free ∨ (s.lane i).mode = .emergency) := by
  rw [State.freewheel, running_eq_true.2 part, up, ← isFree_iff]
  simp

end Run

/-- Settles O36. -/
theorem runAndPromptExamineTheRings : Obligations.RunAndPromptExamineTheRings := by
  unfold Obligations.RunAndPromptExamineTheRings
  intro s up
  rw [exec_prompt up, exec_run up]
  refine ⟨fun startable => ⟨_, by rw [exec_run up], ?_⟩, fun part => ?_, fun part gate list queue => ?_, fun other => ?_, fun part => ?_⟩
  · have frame := examineAll_frame s.gate s.list (setPart .running s)
    rw [runCommand_starts startable]
    refine ⟨rfl, ?_⟩
    generalize examineAll (setPart .running s) = t at frame ⊢
    have ctl : t.ctl = { s.ctl with part := .running, notice := t.ctl.notice } := frame.ctl
    have holds : t.holds = s.holds := frame.holds
    have lanes : t.lanes = s.lanes := frame.lanes
    have part : t.ctl.part = .running := by rw [ctl]
    have live : t.ctl.resetActive = false := by rw [ctl, ← up]
    refine ⟨part, fun i => ?_, fun i => ?_, frame.tab, holds, lanes, frame.zones, frame.monitors, frame.adm, frame.clk, frame.cfg⟩
    · rw [release_running part live, State.hold, holds]
      rfl
    · rw [freewheel_running part live, State.lane, lanes]
      rfl
  · rw [promptCommand_running part]
    rfl
  · rw [promptCommand_running part, examineAll_busy gate list queue]
  · rw [runCommand_ignored other]
  · rw [promptCommand_ignored part]

/-! ## Writes of the window -/

section Window

variable {s : State} {e : BitVec 4} {v : Word} {o : Nat}

/-- The memory after the enabled ones of a word's bytes are written. -/
def exchanged (o : Nat) (e : BitVec 4) (v : Word) (l : List Nat) (m : List Host.Cell) : List Host.Cell :=
  l.foldl (fun m i => if e.getLsbD i then Memory.writeBytes m (o + i) [byteOf v i] else m) m

theorem writeExchange_eq : writeExchange o e v s = s.setXmem (exchanged o e v [0, 1, 2, 3] s.xmem) := by
  have whole : ∀ (l : List Nat) (t : State),
      l.foldl (fun t i => if e.getLsbD i then t.writeBytes (o + i) [byteOf v i] else t) t = t.setXmem (exchanged o e v l t.xmem) := by
    intro l
    induction l with
    | nil => exact fun _ => rfl
    | cons i l ih =>
      intro t
      rw [List.foldl_cons, ih]
      unfold exchanged
      rw [List.foldl_cons]
      split <;> rfl
  exact whole _ _

theorem read_exchanged (l : List Nat) {m : List Host.Cell} (wf : Memory.wf m) (b : Nat) :
    Memory.read (exchanged o e v l m) b =
      if o ≤ b ∧ b - o ∈ l ∧ e.getLsbD (b - o) = true then byteOf v (b - o) else Memory.read m b := by
  induction l generalizing m with
  | nil => exact (if_neg (by simp)).symm
  | cons i l ih =>
    show Memory.read (exchanged o e v l (if e.getLsbD i then Memory.writeBytes m (o + i) [byteOf v i] else m)) b = _
    by_cases enabled : e.getLsbD i = true
    · rw [if_pos enabled, ih (Memory.writeBytes_wf _ _ _ wf), read_writeBytes _ _ _ wf]
      by_cases here : o ≤ b ∧ b - o = i
      · obtain ⟨above, rfl⟩ := here
        have inside : o + (b - o) ≤ b ∧ b < o + (b - o) + [byteOf v (b - o)].length := by simp only [List.length_singleton]; omega
        have named : o ≤ b ∧ b - o ∈ (b - o) :: l ∧ e.getLsbD (b - o) = true := ⟨above, List.mem_cons_self, enabled⟩
        rw [if_pos inside, if_pos named, show b - (o + (b - o)) = 0 by omega, List.getD_cons_zero]
        exact ite_self _
      · have outside : ¬(o + i ≤ b ∧ b < o + i + [byteOf v i].length) := by simp only [List.length_singleton]; omega
        have others : (o ≤ b ∧ b - o ∈ i :: l ∧ e.getLsbD (b - o) = true) ↔ (o ≤ b ∧ b - o ∈ l ∧ e.getLsbD (b - o) = true) := by
          rw [List.mem_cons]
          tauto
        rw [if_neg outside]
        simp only [others]
    · have others : (o ≤ b ∧ b - o ∈ i :: l ∧ e.getLsbD (b - o) = true) ↔ (o ≤ b ∧ b - o ∈ l ∧ e.getLsbD (b - o) = true) := by
        rw [List.mem_cons]
        refine and_congr_right fun _ => ⟨fun ⟨h, on⟩ => ⟨h.resolve_left fun h => enabled (h ▸ on), on⟩, fun ⟨h, on⟩ => ⟨.inr h, on⟩⟩
      rw [if_neg enabled, ih wf]
      simp only [others]

/-! ## CONTROL -/

theorem failSetup_resetActive (code : FailureCode) (s : State) : (failSetup code s).ctl.resetActive = s.ctl.resetActive := by
  unfold failSetup
  cases s.ctl.setupRun with
  | none => rfl
  | some r =>
    simp only
    split <;> rfl

theorem makeFirstCheck_resetActive (s : State) : (makeFirstCheck s).ctl.resetActive = s.ctl.resetActive := by
  unfold makeFirstCheck
  split
  · split
    · split
      · rfl
      · exact failSetup_resetActive _ _
    · rfl
  · rfl

theorem makeBlockChecks_resetActive (s : State) : (makeBlockChecks s).ctl.resetActive = s.ctl.resetActive := by
  unfold makeBlockChecks
  split
  · split
    · split
      · exact failSetup_resetActive _ _
      · split <;> rfl
    · rfl
  · rfl

theorem startSetup_resetActive (g : SetupStage) (s : State) : (startSetup g s).ctl.resetActive = s.ctl.resetActive := by
  cases g with
  | entered => rfl
  | checking => exact makeFirstCheck_resetActive _
  | table => exact (makeBlockChecks_resetActive _).trans (makeFirstCheck_resetActive _)

theorem stopEffects_resetActive (s : State) : (stopEffects s).ctl.resetActive = s.ctl.resetActive := by
  rw [stopEffects_eq, stopUnits_ctl, abandonRebuild_ctl, (stoppedHolds_ctl_tab s).1]

theorem stopCommand_resetActive (s : State) : (stopCommand .idle s).ctl.resetActive = s.ctl.resetActive := by
  unfold stopCommand
  split
  · rfl
  · exact failSetup_resetActive _ _
  · rfl
  · rw [stopEffects_resetActive, completeFlight_idle]

theorem initCommand_resetActive (g : SetupStage) (s : State) : (initCommand ⟨.idle, g⟩ s).ctl.resetActive = s.ctl.resetActive := by
  unfold initCommand
  split
  · exact startSetup_resetActive _ _
  · rfl
  · exact startSetup_resetActive _ _
  · rw [startSetup_resetActive, stopEffects_resetActive, completeFlight_idle]

theorem examineAll_resetActive (s : State) : (examineAll s).ctl.resetActive = s.ctl.resetActive := by
  have ctl : (examineAll s).ctl = { s.ctl with notice := (examineAll s).ctl.notice } := (examineAll_frame s.gate s.list s).ctl
  rw [ctl]

theorem runCommand_resetActive (s : State) : (runCommand s).ctl.resetActive = s.ctl.resetActive := by
  unfold runCommand
  split
  · split
    · exact examineAll_resetActive _
    · rfl
  · rfl
  · exact examineAll_resetActive _
  · rfl

/-- A command that CONTROL carries where its bit is written. -/
theorem whenWritten {b : Bool} {c : Instr} {f : State → State} (run : exec c s = .next (f s)) :
    if b = true then exec c s = .next (if b = true then f s else s) else (if b = true then f s else s) = s := by
  cases b with
  | true => exact run
  | false => rfl

theorem whenWritten_up {b : Bool} {f : State → State} (kept : (f s).ctl.resetActive = s.ctl.resetActive)
    (up : s.ctl.resetActive = false) : (if b = true then f s else s).ctl.resetActive = false := by
  cases b with
  | true => exact kept.trans up
  | false => exact up

theorem writeControl_eq (bit : ∀ n, n < 8 → (mergeBytes e 0 v).getLsbD n = v.getLsbD n) :
    writeControl e v s =
      let s1 := if v.getLsbD 0 = true then stopCommand .idle s else s
      let s2 := if v.getLsbD 1 = true then initCommand ⟨.idle, .table⟩ s1 else s1
      let s3 := if v.getLsbD 2 = true then runCommand s2 else s2
      if v.getLsbD 3 = true then promptCommand s3 else s3 := by
  unfold writeControl
  simp only [bit 0 (by decide), bit 1 (by decide), bit 2 (by decide), bit 3 (by decide)]

theorem writeControl_none (bit : ∀ n, n < 8 → (mergeBytes e 0 v).getLsbD n = false) : writeControl e v s = s := by
  unfold writeControl
  simp only [bit 0 (by decide), bit 1 (by decide), bit 2 (by decide), bit 3 (by decide), Bool.false_eq_true, if_false]

theorem writeWindow_exchange {w : BitVec 16} (high : 16 ≤ w.toNat) : writeWindow w e v s = writeExchange (4 * w.toNat) e v s :=
  if_pos (show 64 ≤ 4 * w.toNat by omega)

theorem writeWindow_register {w : BitVec 16} (low : w.toNat < 16) :
    writeWindow w e v s =
      if s.ctl.resetActive = true then s
      else if w.toNat = 0 then writeControl e v s
      else if w.toNat = 1 then writeNotice e v s
      else if w.toNat = 2 then writeNoticeEn e v s
      else if w.toNat = 3 then writeSetupAt e v s
      else if w.toNat = 4 then writeClock e v s
      else s := by
  have window : ¬Config.windowBase ≤ 4 * w.toNat := show ¬64 ≤ 4 * w.toNat by omega
  have h0 : 4 * w.toNat = 0x00 ↔ w.toNat = 0 := by omega
  have h1 : 4 * w.toNat = 0x04 ↔ w.toNat = 1 := by omega
  have h2 : 4 * w.toNat = 0x08 ↔ w.toNat = 2 := by omega
  have h3 : 4 * w.toNat = 0x0C ↔ w.toNat = 3 := by omega
  have h4 : 4 * w.toNat = 0x10 ↔ w.toNat = 4 := by omega
  simp only [writeWindow, if_neg window, h0, h1, h2, h3, h4]

theorem writeWindow_control (up : s.ctl.resetActive = false) : writeWindow 0 e v s = writeControl e v s := by
  rw [writeWindow_register (by decide), if_neg (by rw [up]; decide)]
  exact if_pos rfl

theorem writeWindow_reserved {w : BitVec 16} (low : 5 ≤ w.toNat) (high : w.toNat < 16) : writeWindow w e v s = s := by
  rw [writeWindow_register high, if_neg (show ¬w.toNat = 0 by omega), if_neg (show ¬w.toNat = 1 by omega),
    if_neg (show ¬w.toNat = 2 by omega), if_neg (show ¬w.toNat = 3 by omega), if_neg (show ¬w.toNat = 4 by omega), ite_self]

theorem exec_registerWrite (w : BitVec 16) : exec (.registerWrite w e v) s = .next (writeWindow w e v s) := rfl

end Window

/-- Settles O39. -/
theorem windowWrites : Obligations.WindowWrites := by
  unfold Obligations.WindowWrites
  intro w e v s
  refine ⟨fun up h => ?_, fun low high => ?_, fun high wf => ?_, fun h => ?_, fun h => ?_, fun h => ?_, fun up h off => ?_,
    fun up h on => ?_⟩
  · subst h
    have written : writeWindow 3 e v s = writeSetupAt e v s := by
      rw [writeWindow_register (by decide), if_neg (by rw [up]; decide)]
      rfl
    exact ⟨_, (exec_registerWrite 3).trans (congrArg _ written), rfl, fun i low => byteOf_mergeBytes e _ _ low⟩
  · rw [exec_registerWrite, writeWindow_reserved low high]
  · refine ⟨_, (exec_registerWrite w).trans (congrArg _ ((writeWindow_exchange high).trans writeExchange_eq)), rfl, fun i low => ?_, fun b outside => ?_⟩
    · refine (read_exchanged _ wf _).trans ?_
      have listed : i ∈ [0, 1, 2, 3] := by
        simp only [List.mem_cons, List.not_mem_nil, or_false]
        omega
      rw [show 4 * w.toNat + i - 4 * w.toNat = i by omega]
      simp only [listed, Nat.le_add_right, true_and]
      rfl
    · refine (read_exchanged _ wf _).trans (if_neg fun h => ?_)
      obtain ⟨above, listed, -⟩ := h
      simp only [List.mem_cons, List.not_mem_nil, or_false] at listed
      omega
  · subst h
    rw [exec_registerWrite, writeWindow_register (by decide)]
    rfl
  · subst h
    rw [exec_registerWrite, writeWindow_register (by decide)]
    rfl
  · subst h
    rw [exec_registerWrite, writeWindow_register (by decide)]
    rfl
  · subst h
    have bit : ∀ n, n < 8 → (mergeBytes e 0 v).getLsbD n = false := fun n low => by
      rw [getLsbD_mergeBytes e 0 v (by omega), show n / 8 = 0 by omega, off]
      exact BitVec.getLsbD_zero
    rw [exec_registerWrite, writeWindow_control up, writeControl_none bit]
  · subst h
    have bit : ∀ n, n < 8 → (mergeBytes e 0 v).getLsbD n = v.getLsbD n := fun n low => by
      rw [getLsbD_mergeBytes e 0 v (by omega), show n / 8 = 0 by omega, if_pos on]
    have up1 := whenWritten_up (b := v.getLsbD 0) (stopCommand_resetActive s) up
    have up2 := whenWritten_up (b := v.getLsbD 1) (initCommand_resetActive .table _) up1
    have up3 := whenWritten_up (b := v.getLsbD 2) (runCommand_resetActive _) up2
    refine ⟨_, _, _, _, whenWritten (exec_stop up), whenWritten (exec_init up1), whenWritten (exec_run up2), whenWritten (exec_prompt up3), ?_⟩
    rw [exec_registerWrite, writeWindow_control up, writeControl_eq bit]

end Sys2Proof.Proofs.Commands

end

section
/-! PROOFS. What the STOP effects leave of a state (O34), and how a setup that fails ends (O34, O35, O41). -/

namespace Sys2Proof.Proofs.Stopping

open Sys2Proof Sys2Proof.Machine Sys2Proof.Proofs.Keeping Sys2Proof.Proofs.Registers Sys2Proof.Proofs.Bytes

/-! ## Records made while the part is not RUNNING -/

/-- A record joins the holding queue, or is counted in the gap. -/
def joined (j : Journal) (r : Record) : Journal :=
  if j.queue.length < 32 then { j with queue := j.queue ++ [r] } else { j with gap := saturate 65535 j.gap }

theorem emit_halted {s : State} (halted : s.ctl.part ≠ .running) (r : Record) : emit r s = s.setJrn (joined s.jrn r) := by
  have limit : Config.queueRecords = 32 := rfl
  rw [emit, joined, limit]
  split
  · have idle : journalExamine (s.setJrn { s.jrn with queue := s.jrn.queue ++ [r] }) =
        s.setJrn { s.jrn with queue := s.jrn.queue ++ [r] } := journalExamine_idle halted
    simp only [idle, ite_self]
  · rfl

theorem joined_put (j : Journal) (r : Record) : (joined j r).put = j.put := by
  unfold joined
  split <;> rfl

/-- Several records: as many as there is room for join the queue, and the rest are counted. -/
theorem joined_foldl (rs : List Record) (j : Journal) :
    (rs.foldl joined j).queue = j.queue ++ rs.take (32 - j.queue.length) ∧
      (rs.foldl joined j).gap = max j.gap (min 65535 (j.gap + (rs.length - (32 - j.queue.length)))) ∧ (rs.foldl joined j).put = j.put := by
  induction rs generalizing j with
  | nil => exact ⟨by simp, by simp only [List.foldl_nil, List.length_nil]; omega, rfl⟩
  | cons r rs ih =>
    obtain ⟨queue, gap, put⟩ := ih (joined j r)
    rw [List.foldl_cons, queue, gap, put, joined_put]
    unfold joined
    split
    · next room =>
      have left : 32 - j.queue.length = (32 - (j.queue ++ [r]).length) + 1 := by rw [List.length_append, List.length_singleton]; omega
      refine ⟨?_, ?_, rfl⟩
      · show (j.queue ++ [r]) ++ _ = _
        rw [left, List.take_succ_cons, List.append_assoc, List.singleton_append]
      · simp only [List.length_append, List.length_cons, List.length_nil]
        omega
    · next full =>
      have none_left : 32 - j.queue.length = 0 := by omega
      refine ⟨?_, ?_, rfl⟩
      · simp only [none_left, List.take_zero]
      · simp only [none_left, List.length_cons, saturate]
        split <;> omega

/-! ## The holds that a STOP removes -/

section Holds

variable {s : State}

/-- The lane and its journal after the removal of its hold, with the part HALTED. -/
theorem stopHold_halted (halted : s.ctl.part ≠ .running) (i : LaneId) :
    stopHold s i =
      if s.hold i = none then s
      else ((s.setHold i none).setJrn ((s.stopTally i).toList.foldl joined s.jrn)).setLane i (s.lane i).stopped := by
  by_cases none_held : s.hold i = none
  · rw [if_pos none_held, stopHold_none i s none_held]
  · rw [if_neg none_held, stopHold_some i s none_held]
    cases s.stopTally i with
    | none => rfl
    | some r =>
      simp only
      rw [emit_halted (by exact halted)]
      exact State.setLane_setLane ((s.setHold i none).setJrn (joined s.jrn r)) i _ _

theorem stopTally_held {i : LaneId} (none_held : s.hold i = none) : s.stopTally i = none := if_neg fun h => h.1 none_held

theorem stopTally_congr {t : State} {j : LaneId} (hold : t.hold j = s.hold j) (lane : t.lane j = s.lane j) (clk : t.clk = s.clk) :
    t.stopTally j = s.stopTally j := by
  simp only [State.stopTally, hold, lane, Events.recordNow_clk clk]

/-- A STOP's removal at one lane leaves the record that another lane makes. -/
theorem stopTally_other (halted : s.ctl.part ≠ .running) {i j : LaneId} (other : j ≠ i) : (stopHold s i).stopTally j = s.stopTally j := by
  rw [stopHold_halted halted]
  split
  · rfl
  · have hold : (((s.setHold i none).setJrn ((s.stopTally i).toList.foldl joined s.jrn)).setLane i (s.lane i).stopped).hold j = s.hold j :=
      State.setHold_hold_other s i none j other
    have lane : (((s.setHold i none).setJrn ((s.stopTally i).toList.foldl joined s.jrn)).setLane i (s.lane i).stopped).lane j = s.lane j :=
      State.setLane_lane_other _ i _ j other
    exact stopTally_congr hold lane rfl

/-- The holds of a list of lanes are removed: only holds, lanes and the journal change. -/
theorem stopHolds_halted (l : List LaneId) (distinct : l.Nodup) (halted : s.ctl.part ≠ .running) :
    (∃ hs ls, l.foldl stopHold s = { s with holds := hs, lanes := ls, jrn := (l.filterMap s.stopTally).foldl joined s.jrn }) ∧
      ∀ j, (l.foldl stopHold s).lane j = if j ∈ l ∧ s.hold j ≠ none then (s.lane j).stopped else s.lane j := by
  induction l generalizing s with
  | nil => exact ⟨⟨s.holds, s.lanes, rfl⟩, fun j => (if_neg fun h => absurd h.1 List.not_mem_nil).symm⟩
  | cons i l ih =>
    obtain ⟨fresh, distinct⟩ := List.nodup_cons.1 distinct
    have here := stopHold_halted halted i
    have halted' : (stopHold s i).ctl.part ≠ .running := by
      rw [(stopHold_frame s i).1]
      exact halted
    obtain ⟨⟨hs, ls, whole⟩, lanes⟩ := ih distinct halted'
    have tallies : l.filterMap (stopHold s i).stopTally = l.filterMap s.stopTally :=
      List.filterMap_congr fun j hj => stopTally_other halted fun e => fresh (e ▸ hj)
    have jrn : (stopHold s i).jrn = (s.stopTally i).toList.foldl joined s.jrn := by
      rw [here]
      split
      · next none_held => rw [stopTally_held none_held]; rfl
      · rfl
    have first : (i :: l).filterMap s.stopTally = (s.stopTally i).toList ++ l.filterMap s.stopTally := by
      cases tally : s.stopTally i with
      | none => rw [List.filterMap_cons_none tally]; rfl
      | some r => rw [List.filterMap_cons_some tally]; rfl
    refine ⟨⟨hs, ls, ?_⟩, fun j => ?_⟩
    · rw [List.foldl_cons, whole, tallies, jrn, first, List.foldl_append, here]
      split <;> rfl
    · rw [List.foldl_cons, lanes, stopHold_hold]
      by_cases same : j = i
      · subst same
        rw [if_pos rfl, if_neg (fun h => h.2 rfl), here]
        by_cases none_held : s.hold j = none
        · rw [if_pos none_held, if_neg fun h => h.2 none_held]
        · rw [if_neg none_held, if_pos ⟨List.mem_cons_self, none_held⟩]
          exact State.setLane_lane_same _ j _
      · have lane : (stopHold s i).lane j = s.lane j := by
          rw [here]
          split
          · rfl
          · exact State.setLane_lane_other _ i _ j same
        rw [if_neg same, lane]
        simp only [List.mem_cons, same, false_or]

end Holds

/-! ## The STOP effects -/

/-- What the STOP effects make of a state. -/
structure Stopped (s t : State) : Prop where
  ctl : t.ctl = { s.ctl with part := .halted }
  hold : ∀ i, t.hold i = none
  zone : ∀ z, t.zone z = { s.zone z with reserved := 0 }
  monitors : t.monitors = s.monitors
  gate : t.gate = ⟨s.gate.take, none, none⟩
  list : t.list = { s.list with poll := none, work := none, wait := none }
  tab : t.tab =
    { s.tab with
      port := [], shadow := t.tab.shadow, filter := if s.tab.filter = .rebuilding then .suspect else s.tab.filter, walk := t.tab.walk }
  poll : t.jrn.poll = none
  clk : t.clk = s.clk
  cfg : t.cfg = s.cfg
  adm : t.adm = s.adm
  xmem : t.xmem = s.xmem
  holds_stopped : s.HoldsStopped t

theorem abandonRebuild_eq (s : State) :
    ∃ shadow walk, abandonRebuild s =
      s.setTab { s.tab with shadow := shadow, filter := if s.tab.filter = .rebuilding then .suspect else s.tab.filter, walk := walk } := by
  unfold abandonRebuild
  split
  · exact ⟨_, _, rfl⟩
  · exact ⟨s.tab.shadow, s.tab.walk, rfl⟩

theorem stopEffects_stopped (s : State) : Stopped s (stopEffects s) := by
  have halted : (setPart .halted s).ctl.part ≠ .running := fun h => by cases h
  obtain ⟨⟨hs, ls, whole⟩, lane⟩ := stopHolds_halted (s := setPart .halted s) laneOrder (by decide) halted
  have hold := fun i => (stopHolds_hold laneOrder (setPart .halted s) i).trans (if_pos (mem_laneOrder i))
  have zone := clearReserved_zone (laneOrder.foldl stopHold (setPart .halted s))
  obtain ⟨zs, cleared⟩ := clearReserved_eq (laneOrder.foldl stopHold (setPart .halted s))
  obtain ⟨queue, gap, put⟩ := joined_foldl (laneOrder.filterMap (setPart .halted s).stopTally) s.jrn
  rw [whole] at lane hold zone cleared
  obtain ⟨shadow, walk, abandoned⟩ := abandonRebuild_eq (stoppedHolds s)
  rw [stopEffects_eq, abandoned, stoppedHolds, whole, cleared]
  rw [cleared] at zone
  have lanes : ∀ i, ls.get i = if s.hold i = none then s.lane i else (s.lane i).stopped := fun i => by
    refine (lane i).trans ?_
    show (if i ∈ laneOrder ∧ s.hold i ≠ none then (s.lane i).stopped else s.lane i) = _
    by_cases none_held : s.hold i = none
    · rw [if_pos none_held, if_neg fun h => h.2 none_held]
    · rw [if_neg none_held, if_pos ⟨mem_laneOrder i, none_held⟩]
  exact
    { ctl := rfl, hold := hold, zone := zone, monitors := rfl, gate := rfl, list := rfl, tab := rfl, poll := rfl, clk := rfl, cfg := rfl,
      adm := rfl, xmem := rfl, holds_stopped := ⟨lanes, queue, gap, put⟩ }

/-! ## A setup that fails -/

section Failed

variable {s : State} {code : FailureCode}

/-- The state before SETUP_FAILED: the result is written where check 1 had passed. -/
def failureWritten (code : FailureCode) (s : State) : State :=
  match s.ctl.setupRun with
  | some r => if r.stage = .entered then s else writeResult r false code .none 0 s
  | none => s

theorem failSetup_eq (code : FailureCode) (s : State) :
    failSetup code s =
      (s.setXmem (failureWritten code s).xmem).setCtl
        { (notify .setupFailed s).ctl with part := .halted, setupComplete := false, failure := code, setupRun := none } := by
  unfold failSetup failureWritten
  cases s.ctl.setupRun with
  | none => rfl
  | some r =>
    simp only
    split <;> rfl

theorem failSetup_failed (code : FailureCode) (s : State) : SetupFailedWith code s (failSetup code s) := by
  have flags : ∀ f, (failSetup code s).flagSet f = (notify .setupFailed s).flagSet f := fun f => by
    rw [failSetup_eq]
    rfl
  refine ⟨by rw [failSetup_eq]; rfl, by rw [failSetup_eq]; rfl, by rw [failSetup_eq]; rfl, by rw [failSetup_eq]; rfl, ?_,
    fun f other => ?_⟩
  · rw [flags, notify_flagSet]
    simp
  · rw [flags, notify_flagSet]
    simp [other]

theorem failSetup_memory (unchecked : ∀ r, s.ctl.setupRun = some r → r.stage = .entered) : (failSetup code s).xmem = s.xmem := by
  rw [failSetup_eq]
  show (failureWritten code s).xmem = _
  unfold failureWritten
  split
  · next r run => rw [if_pos (unchecked r run)]
  · rfl

/-- The bytes of a setup result. -/
theorem read_writeResult (wf : Memory.wf s.xmem) (r : SetupRun) (ok : Bool) (o : TableOutcome) (n b : Nat) :
    (writeResult r ok code o n s).read b =
      if b = r.base + 32 then (if ok then 1 else 2) else if b = r.base + 33 then code.code else if b = r.base + 34 then o.code
      else if r.base + 36 ≤ b ∧ b < r.base + 40 then (wordBytes (BitVec.ofNat 32 n)).getD (b - (r.base + 36)) 0 else s.read b := by
  have wf1 := Memory.writeBytes_wf [code.code, o.code] s.xmem (r.base + 33) wf
  have wf2 := Memory.writeBytes_wf (wordBytes (BitVec.ofNat 32 n)) _ (r.base + 36) wf1
  have four : (wordBytes (BitVec.ofNat 32 n)).length = 4 := rfl
  show Memory.read (Memory.writeBytes (Memory.writeBytes (Memory.writeBytes s.xmem (r.base + 33) [code.code, o.code]) (r.base + 36)
    (wordBytes (BitVec.ofNat 32 n))) (r.base + 32) [if ok then 1 else 2]) b = _
  rw [read_writeBytes _ _ _ wf2, read_writeBytes _ _ _ wf1, read_writeBytes _ _ _ wf, four]
  simp only [List.length_cons, List.length_nil]
  by_cases h2 : b = r.base + 32
  · subst h2
    rw [if_pos (by omega), if_pos rfl, Nat.sub_self]
    rfl
  · rw [if_neg (by omega), if_neg h2]
    by_cases h3 : b = r.base + 33
    · subst h3
      rw [if_neg (by omega), if_pos (by omega), if_pos rfl, Nat.sub_self]
      rfl
    · rw [if_neg h3]
      by_cases h4 : b = r.base + 34
      · subst h4
        rw [if_neg (by omega), if_pos (by omega), if_pos rfl, show r.base + 34 - (r.base + 33) = 1 by omega]
        rfl
      · rw [if_neg h4]
        by_cases area : r.base + 36 ≤ b ∧ b < r.base + 40
        · rw [if_pos (by omega), if_pos area]
        · rw [if_neg (by omega), if_neg area, if_neg (by omega)]
          rfl

theorem writeResult_setupResult (wf : Memory.wf s.xmem) (r : SetupRun) (ok : Bool) (o : TableOutcome) (n : Nat) (small : n < 2 ^ 32) :
    SetupResult r.base (if ok then 1 else 2) code.code o.code n s (writeResult r ok code o n s) := by
  have read := read_writeResult (code := code) wf r ok o n
  refine ⟨?_, ?_, ?_, ?_, fun b outside => ?_⟩
  · rw [read, if_pos rfl]
  · rw [read, if_neg (by omega), if_pos rfl]
  · rw [read, if_neg (by omega), if_neg (by omega), if_pos rfl]
  · have byte : ∀ i, i < 4 → (writeResult r ok code o n s).read (r.base + 36 + i) = (wordBytes (BitVec.ofNat 32 n)).getD i 0 := fun i low => by
      rw [read, if_neg (by omega), if_neg (by omega), if_neg (by omega), if_pos (by omega), show r.base + 36 + i - (r.base + 36) = i by omega]
    have b0 := byte 0 (by decide)
    rw [Nat.add_zero] at b0
    rw [State.readWord, b0, byte 1 (by decide), byte 2 (by decide), byte 3 (by decide)]
    have whole := word_of_bytes (BitVec.ofNat 32 n)
    rw [BitVec.toNat_ofNat, Nat.mod_eq_of_lt small] at whole
    exact whole
  · rw [read, if_neg (by omega), if_neg (by omega), if_neg (by omega), if_neg (by omega)]

theorem failSetup_result {r : SetupRun} (run : s.ctl.setupRun = some r) (checked : r.stage ≠ .entered) (wf : Memory.wf s.xmem) :
    SetupResult r.base 2 code.code 0 0 s (failSetup code s) := by
  have written : (failSetup code s).xmem = (writeResult r false code .none 0 s).xmem := by
    rw [failSetup_eq]
    show (failureWritten code s).xmem = _
    rw [failureWritten, run]
    exact congrArg State.xmem (if_neg checked)
  have result := writeResult_setupResult (code := code) wf r false .none 0 (by decide)
  unfold SetupResult State.readWord at result ⊢
  simp only [State.read_def, written]
  exact result

end Failed

end Sys2Proof.Proofs.Stopping

end

section
/-! PROOFS. The operation that a STOP or a reset meets half done is completed (O34, O40). -/

namespace Sys2Proof.Proofs.Stopping

open Sys2Proof Sys2Proof.Machine Sys2Proof.Proofs.Keeping Sys2Proof.Proofs.Lanes Sys2Proof.Proofs.Requests Sys2Proof.Proofs.Events
  Sys2Proof.Proofs.Admission Sys2Proof.Proofs.Loads Sys2Proof.Proofs.Lists Sys2Proof.Proofs.Walk Sys2Proof.Proofs.Settings

/-! ## The port's queue does not matter to an operation

A STOP completes the operation in place, where the command that carries it out takes it from the port first. -/

section Port

/-- The state with other requests waiting at the port. -/
def withPort (p : List PortRequest) (s : State) : State := s.setTab { s.tab with port := p }

variable (p : List PortRequest) (s : State)

theorem damage_nil : damage [] s = s := rfl

theorem journalDrain_done {t : State} (n : Nat) (done : t.cfg.journal = none ∨ t.jrn.queue = []) : journalDrain n t = t := by
  cases n with
  | zero => rfl
  | succ n =>
    rw [journalDrain.eq_2]
    split
    · next cfg queue =>
      rcases done with none_ | empty
      · rw [none_] at cfg; cases cfg
      · rw [empty] at queue; cases queue
    · rfl

theorem journalDrain_waiting {t : State} {ring : Ring} {r : Record} {rest : List Record} (n : Nat) (cfg : t.cfg.journal = some ring)
    (queue : t.jrn.queue = r :: rest) :
    journalDrain (n + 1) t =
      if t.read (ring.slotAddr t.jrn.put) = 1 then journalDrain n (journalWrite ring r rest t)
      else notify .starved (t.setJrn { t.jrn with poll := some t.cfg.poll }) := by
  rw [journalDrain.eq_2]
  simp only [cfg, queue]

theorem journalDrain_withPort (n : Nat) : journalDrain n (withPort p s) = withPort p (journalDrain n s) := by
  induction n generalizing s with
  | zero => rfl
  | succ n ih =>
    by_cases done : s.cfg.journal = none ∨ s.jrn.queue = []
    · rw [journalDrain_done _ done, journalDrain_done _ (show (withPort p s).cfg.journal = none ∨ (withPort p s).jrn.queue = [] from done)]
    · obtain ⟨waits, records⟩ := not_or.1 done
      obtain ⟨ring, cfg⟩ := Option.ne_none_iff_exists'.1 waits
      obtain ⟨r, rest, queue⟩ := List.exists_cons_of_ne_nil records
      rw [journalDrain_waiting n cfg queue,
        journalDrain_waiting n (show (withPort p s).cfg.journal = some ring from cfg) (show (withPort p s).jrn.queue = r :: rest from queue)]
      show (if s.read (ring.slotAddr s.jrn.put) = 1 then journalDrain n (withPort p (journalWrite ring r rest s)) else _) = _
      rw [ih]
      split <;> rfl

theorem emit_withPort (r : Record) : emit r (withPort p s) = withPort p (emit r s) := by
  have examine : ∀ t : State, journalExamine (withPort p t) = withPort p (journalExamine t) := fun t => by
    unfold journalExamine
    show (if t.running = true then journalDrain (t.jrn.queue.length + 1) (withPort p t) else withPort p t) = _
    rw [journalDrain_withPort]
    split <;> rfl
  unfold emit
  show (if s.jrn.queue.length < Config.queueRecords then
      if s.jrn.queue = [] then journalExamine (withPort p (s.setJrn { s.jrn with queue := s.jrn.queue ++ [r] }))
      else withPort p (s.setJrn { s.jrn with queue := s.jrn.queue ++ [r] })
    else withPort p (s.setJrn { s.jrn with gap := saturate Config.countLimit s.jrn.gap })) = _
  rw [examine]
  split
  · split <;> rfl
  · rfl

theorem reachAlert_withPort (i : LaneId) (c : Byte) (ts : List (Fin 6)) :
    reachAlert i c ts (withPort p s) = withPort p (reachAlert i c ts s) := by
  by_cases on : (s.lane i).alertOn = true
  · by_cases idle : (s.lane i).alert = .idle
    · rw [reachAlert_idle c ts on idle, ← emit_withPort]
      exact reachAlert_idle (s := withPort p s) c ts on idle
    · rw [reachAlert_late c ts on idle]
      exact reachAlert_late (s := withPort p s) c ts on idle
  · rw [reachAlert_off c ts (Bool.eq_false_iff.2 on)]
    exact reachAlert_off (s := withPort p s) c ts (Bool.eq_false_iff.2 on)

theorem watchEvent_withPort (i : LaneId) : watchEvent i (withPort p s) = withPort p (watchEvent i s) := by
  by_cases matched : s.ctl.part ≠ .settingUp ∧ (s.lane i).watch.matched (s.lane i).prev (s.terms i) = true
  · rw [watchEvent_matched matched.1 matched.2, ← reachAlert_withPort]
    exact watchEvent_matched (s := withPort p s) matched.1 matched.2
  · have quiet : ∀ t : State, ¬(t.ctl.part ≠ .settingUp ∧ (t.lane i).watch.matched (t.lane i).prev (t.terms i) = true) →
        watchEvent i t = takeTerms i t := fun t h => if_neg h
    rw [quiet s matched]
    exact quiet (withPort p s) matched

theorem makeHold_withPort (i : LaneId) (key : Key) (loc : Location) (tier : Fin 4) (e : Entry) :
    makeHold i key loc tier e (withPort p s) = withPort p (makeHold i key loc tier e s) := by
  have taken : ∀ (h : Hold) (t : State), takeReserved h (withPort p t) = withPort p (takeReserved h t) := fun h t => by
    unfold takeReserved
    cases h.direction <;> rfl
  have created : ∀ k (t : State), createHold i k (withPort p t) = withPort p (createHold i k t) := fun k t =>
    taken (t.newHold i k) (t.setHold i (some (t.newHold i k)))
  rw [makeHold_eq, makeHold_eq, ← watchEvent_withPort, ← created]
  rfl

theorem applyRecord_withPort (r : BatchRecord) :
    applyRecord r (withPort p s) = (applyRecord r s).map fun x => (withPort p x.1, x.2) := by
  have change : ∀ c k, changed (withPort p s) c k = (changed s c k).map fun x => (withPort p x.1, x.2) := fun c k => by
    cases c <;> rfl
  cases r with
  | put key f =>
    cases walk : s.lookup key with
    | failed => rw [applyPut_failed walk, applyPut_failed (s := withPort p s) walk]; rfl
    | absent =>
      rw [applyPut_absent walk, applyPut_absent (s := withPort p s) walk]
      show (match s.tab.memory.insert (s.bucketOf key) (f.newEntry key) with
        | .written t => some (setFilterBits key ((withPort p s).setMemory t), Counted.added)
        | .full => some (withPort p s, .full)
        | .failed => none) = _
      cases s.tab.memory.insert (s.bucketOf key) (f.newEntry key) <;> rfl
    | found loc e =>
      by_cases skip : f.reset = true ∧ ∃ j, s.HeldAt key j
      · rw [applyPut_skipped walk skip.1 skip.2, applyPut_skipped (s := withPort p s) walk skip.1 skip.2]
        rfl
      · rw [applyPut_replaced walk skip, applyPut_replaced (s := withPort p s) walk skip]
        rfl
  | drop key =>
    cases walk : s.lookup key with
    | failed => rw [applyDrop_failed walk, applyDrop_failed (s := withPort p s) walk]; rfl
    | absent => rw [applyDrop_absent walk, applyDrop_absent (s := withPort p s) walk]; rfl
    | found loc e =>
      by_cases held : ∃ j, s.HeldAt key j
      · rw [applyDrop_held walk held, applyDrop_held (s := withPort p s) walk held]
        rfl
      · rw [applyDrop_unheld walk held, applyDrop_unheld (s := withPort p s) walk held]
        exact change _ _

theorem requestOperation_failed {d : Desc} {s : State} (failed : s.lookup (keyAt d.payload 0) = .failed) : requestOperation d s = none := by
  simp only [requestOperation, failed]

/-- The lane and the hold that a request's key stands in, if any. -/
def requestHolder (d : Desc) (s : State) : Option (LaneId × Hold) :=
  (s.heldAt (keyAt d.payload 0)).bind fun i => (s.hold i).map fun h => (i, h)

theorem requestOperation_free {d : Desc} {s : State} {loc : Location} {e : Entry}
    (found : s.lookup (keyAt d.payload 0) = .found loc e) (none_holds : requestHolder d s = none) :
    requestOperation d s = some (requestUnheld d loc e s) := by
  cases at_ : s.heldAt (keyAt d.payload 0) with
  | none => simp only [requestOperation, found, at_]
  | some i =>
    cases hold : s.hold i with
    | none => simp only [requestOperation, found, at_, hold]
    | some h => simp [requestHolder, at_, hold] at none_holds

theorem requestOperation_holder {d : Desc} {s : State} {loc : Location} {e : Entry} {x : LaneId × Hold}
    (found : s.lookup (keyAt d.payload 0) = .found loc e) (holder : requestHolder d s = some x) :
    s.hold x.1 = some x.2 ∧ requestOperation d s = some (requestHeld d x.1 x.2 e s) := by
  simp only [requestHolder, Option.bind_eq_some_iff, Option.map_eq_some_iff] at holder
  obtain ⟨i, at_, h, hold, rfl⟩ := holder
  exact ⟨hold, by simp only [requestOperation, found, at_, hold]⟩

theorem requestOperation_withPort (d : Desc) :
    requestOperation d (withPort p s) = (requestOperation d s).map fun x => (withPort p x.1, x.2) := by
  have unheld : ∀ loc e, requestUnheld d loc e (withPort p s) = (withPort p (requestUnheld d loc e s).1, (requestUnheld d loc e s).2) := by
    intro loc e
    unfold requestUnheld
    split
    · rfl
    · split <;> rfl
  have held : ∀ i h e, requestHeld d i h e (withPort p s) = (withPort p (requestHeld d i h e s).1, (requestHeld d i h e s).2) := by
    intro i h e
    unfold requestHeld
    split
    · rfl
    · split <;> rfl
  cases walk : s.lookup (keyAt d.payload 0) with
  | failed => rw [requestOperation_failed walk, requestOperation_failed (s := withPort p s) walk]; rfl
  | absent => rw [requestOperation_absent walk, requestOperation_absent (s := withPort p s) walk]; rfl
  | found loc e =>
    cases holder : requestHolder d s with
    | none =>
      rw [requestOperation_free walk holder, requestOperation_free (s := withPort p s) walk holder, unheld]
      rfl
    | some x =>
      rw [(requestOperation_holder walk holder).2, (requestOperation_holder (s := withPort p s) walk holder).2, held]
      rfl

end Port

end Sys2Proof.Proofs.Stopping

end

section
/-! PROOFS. STOP (O34). -/

namespace Sys2Proof.Proofs.Stopping

open Sys2Proof Sys2Proof.Machine Sys2Proof.Proofs.Keeping Sys2Proof.Proofs.Lanes Sys2Proof.Proofs.Requests Sys2Proof.Proofs.Events
  Sys2Proof.Proofs.Admission Sys2Proof.Proofs.Loads Sys2Proof.Proofs.Lists Sys2Proof.Proofs.Walk Sys2Proof.Proofs.Settings
  Sys2Proof.Proofs.Examine Sys2Proof.Proofs.Commands

/-! ## What is completed -/

/-- What the completion of an operation half done leaves of a state. -/
structure Completed (s u : State) : Prop where
  ctl : u.ctl = { s.ctl with notice := u.ctl.notice }
  zone : ∀ z, ({ u.zone z with reserved := 0 } : Zone) = { s.zone z with reserved := 0 }
  monitors : u.monitors = s.monitors
  clk : u.clk = s.clk
  cfg : u.cfg = s.cfg
  gate : u.gate = s.gate
  take : u.list.take = s.list.take
  k : u.tab.k = s.tab.k
  places : u.tab.u = s.tab.u
  port : u.tab.port = s.tab.port
  filter : u.tab.filter = s.tab.filter
  scheme : u.adm.scheme = s.adm.scheme
  lane : ∀ i, s.hold i ≠ none → u.hold i ≠ none ∧ u.lane i = s.lane i

section Completion

variable {s t u : State}

theorem Completed.refl (s : State) : Completed s s :=
  ⟨rfl, fun _ => rfl, rfl, rfl, rfl, rfl, rfl, rfl, rfl, rfl, rfl, rfl, fun _ h => ⟨h, rfl⟩⟩

theorem Completed.trans (a : Completed s t) (b : Completed t u) : Completed s u where
  ctl := by rw [b.ctl, a.ctl]
  zone z := (b.zone z).trans (a.zone z)
  monitors := b.monitors.trans a.monitors
  clk := b.clk.trans a.clk
  cfg := b.cfg.trans a.cfg
  gate := b.gate.trans a.gate
  take := b.take.trans a.take
  k := b.k.trans a.k
  places := b.places.trans a.places
  port := b.port.trans a.port
  filter := b.filter.trans a.filter
  scheme := b.scheme.trans a.scheme
  lane i h := ⟨(b.lane i (a.lane i h).1).1, (b.lane i (a.lane i h).1).2.trans (a.lane i h).2⟩

theorem Completed.portUp (c : Completed s u) : u.portUp = s.portUp := by
  rw [State.portUp, State.portUp, State.running, State.running, c.ctl]

/-- Another table memory, presence filter or shadow filter completes an operation at the port. -/
theorem setTab_completed (s : State) (m : TableMemory) (p h : List Nat) :
    Completed s (s.setTab { s.tab with memory := m, presence := p, shadow := h }) :=
  ⟨rfl, fun _ => rfl, rfl, rfl, rfl, rfl, rfl, rfl, rfl, rfl, rfl, rfl, fun _ h => ⟨h, rfl⟩⟩

theorem setMemory_completed (s : State) (m : TableMemory) : Completed s (s.setMemory m) := setTab_completed s m s.tab.presence s.tab.shadow

/-- What an event at a lane that had no hold does is nothing to the other lanes. -/
theorem Completed.andLane {i : LaneId} (c : Completed s t) (free : s.hold i = none) (f : LaneFrame i t u) : Completed s u where
  ctl := by rw [f.unit.ctl, c.ctl]
  zone z := by rw [State.zone, f.zones]; exact c.zone z
  monitors := f.monitors.trans c.monitors
  clk := f.unit.clk.trans c.clk
  cfg := f.unit.cfg.trans c.cfg
  gate := f.unit.gate.trans c.gate
  take := by rw [f.unit.list, c.take]
  k := by rw [f.unit.tab, c.k]
  places := by rw [f.unit.tab, c.places]
  port := by rw [f.unit.tab, c.port]
  filter := by rw [f.unit.tab, c.filter]
  scheme := by rw [f.unit.adm, c.scheme]
  lane j h := by
    have other : j ≠ i := fun e => h (e ▸ free)
    rw [State.hold, f.unit.holds, f.others j other]
    exact c.lane j h

theorem createHold_completed {i : LaneId} {v : State} (kind : HoldKind) (c : Completed s v) (free : s.hold i = none) :
    Completed s (createHold i kind v) := by
  have reserves : ∀ (h : Hold) (w : State) (z : ZoneId), ({ (takeReserved h w).zone z with reserved := 0 } : Zone) = { w.zone z with reserved := 0 } := by
    intro h w z
    unfold takeReserved
    split
    · rw [State.setZone_zone]
      split
      · next same => rw [same]
      · rfl
    · rfl
  have lanes : ∀ j, (createHold i kind v).lane j = v.lane j := fun j => by
    obtain ⟨zs, taken⟩ := takeReserved_eq (v.newHold i kind) (v.setHold i (some (v.newHold i kind)))
    rw [createHold, taken]
    rfl
  have holds : ∀ j, j ≠ i → (createHold i kind v).hold j = v.hold j := fun j other => by
    obtain ⟨zs, taken⟩ := takeReserved_eq (v.newHold i kind) (v.setHold i (some (v.newHold i kind)))
    rw [createHold, taken]
    exact State.setHold_hold_other _ _ _ _ other
  have zone : ∀ z, ({ (createHold i kind v).zone z with reserved := 0 } : Zone) = { v.zone z with reserved := 0 } := fun z =>
    reserves (v.newHold i kind) (v.setHold i (some (v.newHold i kind))) z
  have units : ∃ zs hs, createHold i kind v = { v with zones := zs, holds := hs } := by
    obtain ⟨zs, taken⟩ := takeReserved_eq (v.newHold i kind) (v.setHold i (some (v.newHold i kind)))
    exact ⟨zs, (v.setHold i (some (v.newHold i kind))).holds, taken⟩
  obtain ⟨zs, hs, whole⟩ := units
  rw [whole] at lanes holds zone ⊢
  exact
    { ctl := c.ctl, zone := fun z => (zone z).trans (c.zone z), monitors := c.monitors, clk := c.clk, cfg := c.cfg, gate := c.gate,
      take := c.take, k := c.k, places := c.places, port := c.port, filter := c.filter, scheme := c.scheme
      lane := fun j hj => by
        rw [lanes, holds j fun e => hj (e ▸ free)]
        exact c.lane j hj }

/-- A hold is made at a lane that has none. -/
theorem makeHold_completed {i : LaneId} (key : Key) (loc : Location) (tier : Fin 4) (e : Entry) (free : s.hold i = none) :
    Completed s (makeHold i key loc tier e s) := by
  rw [makeHold_eq]
  have first := (Completed.refl s).andLane free (setLane_laneFrame s i { s.lane i with
    token := if (s.lane i).direction = .entry ∧ tier ≠ 0 ∧ e.grant (s.lane i).zone = .escort then none else (s.lane i).token })
  exact (createHold_completed _ first free).andLane free (watchEvent_laneFrame _ _)

/-! ## The gate side -/

theorem lookupDue_head {x : Desc × LaneId × Key} (due : s.lookupDue = some x) : s.tab.port.head? = some .lookup := by
  unfold State.lookupDue at due
  split at due
  · next front _ => rw [front]; rfl
  · cases due

theorem closingDue_head {x : LaneId × Hold × HoldOutcome × Key × Location} (due : s.closingDue = some x) :
    s.tab.port.head? ≠ some .lookup := by
  unfold State.closingDue at due
  split at due
  · next front => rw [front]; exact fun h => by cases h
  · cases due

theorem judgeEntry_admits {i : LaneId} {key : Key} {b : Bool} {l loc : Location} {e : Entry} :
    (s.judgeEntry i key b l e).location = some loc →
      ∃ tier e', (s.judgeEntry i key b l e).finding.tier = some tier ∧ (s.judgeEntry i key b l e).finding.entry = some e' := by
  unfold State.judgeEntry
  split
  · exact fun h => by cases h
  · cases s.heldAt key with
    | some j => exact fun h => by cases h
    | none => exact fun _ => ⟨_, _, rfl, rfl⟩

theorem judge_admits {i : LaneId} {key : Key} {loc : Location} (admits : (s.judge i key).location = some loc) :
    s.hold i = none ∧ ∃ tier e, (s.judge i key).finding.tier = some tier ∧ (s.judge i key).finding.entry = some e := by
  cases checks : s.laneChecks5 i with
  | some r =>
    rw [← laneReason_checks5] at checks
    rw [judge_lane checks] at admits
    cases admits
  | none =>
    have free : s.hold i = none := by
      unfold State.laneChecks5 at checks
      split at checks
      · cases checks
      · split at checks
        · cases checks
        · next h => simpa using h
    refine ⟨free, ?_⟩
    rw [← laneReason_checks5] at checks
    by_cases excluded : s.tab.filter = .valid ∧ filterIndex key ∉ s.tab.presence
    · rw [judge_excluded checks excluded.1 excluded.2] at admits
      cases admits
    · have may : s.tab.filter ≠ .valid ∨ filterIndex key ∈ s.tab.presence := by
        by_cases valid : s.tab.filter = .valid
        · exact .inr (Classical.not_not.1 fun h => excluded ⟨valid, h⟩)
        · exact .inl valid
      rw [judge_walk checks may] at admits ⊢
      cases walk : s.lookup key with
      | failed => rw [walk] at admits; cases admits
      | absent => rw [walk] at admits; cases admits
      | found l e =>
        rw [walk] at admits
        simp only at admits ⊢
        exact judgeEntry_admits admits

theorem applyVerdict_admits {i : LaneId} {key : Key} {v : Verdict} {loc : Location} {tier : Fin 4} {e : Entry} (admits : v.location = some loc)
    (htier : v.finding.tier = some tier) (entry : v.finding.entry = some e) : applyVerdict i key v s = makeHold i key loc tier e s := by
  simp only [applyVerdict, admits, htier, entry]

/-- A refusal leaves the table and the holds. -/
theorem applyVerdict_refuses {i : LaneId} {key : Key} {v : Verdict} (refuses : v.location = none) :
    (applyVerdict i key v s).tab = s.tab ∧ (applyVerdict i key v s).holds = s.holds := by
  unfold applyVerdict
  split
  · next admits _ _ => rw [refuses] at admits; cases admits
  · split
    · rw [tableFault_eq]
      exact ⟨by rw [emit_tab, notify_tab], by rw [emit_holds, notify_holds]⟩
    · exact ⟨rfl, rfl⟩

/-- The table memory that a closing operation at the front of the port leaves. -/
def closedMemory (s : State) : TableMemory :=
  match s.closingDue with
  | some (i, h, o, key, loc) =>
    if s.tab.memory.fails loc.word then s.tab.memory
    else
      match s.heldEntry key loc with
      | none => s.tab.memory
      | some e => s.tab.memory.writeEntry loc (closeEntry i h o s.now e)
  | none => s.tab.memory

theorem closedMemory_congr (tab : t.tab = s.tab) (holds : t.holds = s.holds) (clk : t.clk = s.clk) : closedMemory t = closedMemory s := by
  simp only [closedMemory, State.closingDue, State.hold, State.heldEntry, State.now, tab, holds, clk]

theorem completeGate_closing (none_due : s.lookupDue = none) : completeGate s = s.setMemory (closedMemory s) := by
  unfold completeGate closedMemory
  rw [none_due]
  simp only
  cases due : s.closingDue with
  | none => rfl
  | some x =>
    obtain ⟨i, h, o, key, loc⟩ := x
    simp only
    split
    · rfl
    · cases s.heldEntry key loc <;> rfl

/-- What the gate side completes: an admission, or what a closing operation writes. -/
theorem completeGate_cases (s : State) :
    (completeGate s = s.setMemory (closedMemory s) ∧
      ∀ x, s.lookupDue = some x → (s.judge x.2.1 x.2.2).location = none) ∨
      ∃ d i key loc tier e, s.lookupDue = some (d, i, key) ∧ s.hold i = none ∧ (s.judge i key).location = some loc ∧
        (s.judge i key).finding.tier = some tier ∧ (s.judge i key).finding.entry = some e ∧
        completeGate s = makeHold i key loc tier e s := by
  cases due : s.lookupDue with
  | none => exact .inl ⟨completeGate_closing due, fun x h => by cases h⟩
  | some x =>
    obtain ⟨d, i, key⟩ := x
    cases admits : (s.judge i key).location with
    | none =>
      refine .inl ⟨?_, fun x h => by cases h; exact admits⟩
      have front : s.closingDue = none := by
        by_contra h
        obtain ⟨x, h⟩ := Option.ne_none_iff_exists'.1 h
        exact closingDue_head h (lookupDue_head due)
      unfold completeGate closedMemory
      rw [due, front]
      simp only [admits]
      rfl
    | some loc =>
      obtain ⟨free, tier, e, htier, entry⟩ := judge_admits admits
      refine .inr ⟨d, i, key, loc, tier, e, rfl, free, admits, htier, entry, ?_⟩
      unfold completeGate
      rw [due]
      simp only [admits]
      exact applyVerdict_admits admits htier entry

theorem completeGate_completed (s : State) : Completed s (completeGate s) := by
  rcases completeGate_cases s with ⟨written, -⟩ | ⟨d, i, key, loc, tier, e, -, free, -, -, -, made⟩
  · rw [written]
    exact setMemory_completed s _
  · rw [made]
    exact makeHold_completed key loc tier e free

theorem completeGate_unit (s : State) : (completeGate s).adm = s.adm ∧ (completeGate s).list = s.list ∧
    (completeGate s).tab.presence = s.tab.presence := by
  rcases completeGate_cases s with ⟨written, -⟩ | ⟨d, i, key, loc, tier, e, -, -, -, -, -, made⟩
  · rw [written]
    exact ⟨rfl, rfl, rfl⟩
  · have frame := watchEvent_frame i (createHold i (.credential key loc tier) (s.setLane i { s.lane i with
      token := if (s.lane i).direction = .entry ∧ tier ≠ 0 ∧ e.grant (s.lane i).zone = .escort then none else (s.lane i).token }))
    have created : ∀ (k : HoldKind) (t : State), (createHold i k t).adm = t.adm ∧ (createHold i k t).list = t.list ∧
        (createHold i k t).tab = t.tab := fun k t => by
      obtain ⟨zs, taken⟩ := takeReserved_eq (t.newHold i k) (t.setHold i (some (t.newHold i k)))
      rw [createHold, taken]
      exact ⟨rfl, rfl, rfl⟩
    rw [made, makeHold_eq, frame.adm, frame.list, frame.tab]
    exact ⟨(created _ _).1, (created _ _).2.1, by rw [(created _ _).2.2]; rfl⟩

end Completion

end Sys2Proof.Proofs.Stopping

end

section
/-! PROOFS. STOP (O34): the list side and a PROFILE completed, and the STOP as a whole. -/

namespace Sys2Proof.Proofs.Stopping

open Sys2Proof Sys2Proof.Machine Sys2Proof.Proofs.Keeping Sys2Proof.Proofs.Lanes Sys2Proof.Proofs.Requests Sys2Proof.Proofs.Events
  Sys2Proof.Proofs.Admission Sys2Proof.Proofs.Loads Sys2Proof.Proofs.Lists Sys2Proof.Proofs.Walk Sys2Proof.Proofs.Settings
  Sys2Proof.Proofs.Examine Sys2Proof.Proofs.Commands

section ListSide

variable {s t u : State} {d : Desc}

/-! ## The list side -/

/-- A batch record changes the table unit alone. -/
theorem applyRecord_tab {r : BatchRecord} {k : Counted} (applied : applyRecord r s = some (t, k)) :
    ∃ m p h, t = s.setTab { s.tab with memory := m, presence := p, shadow := h } := by
  have same : ∃ m p h, s = s.setTab { s.tab with memory := m, presence := p, shadow := h } := ⟨s.tab.memory, s.tab.presence, s.tab.shadow, rfl⟩
  have written : ∀ m : TableMemory, ∃ m' p h, s.setMemory m = s.setTab { s.tab with memory := m', presence := p, shadow := h } := fun m =>
    ⟨m, s.tab.presence, s.tab.shadow, rfl⟩
  unfold applyRecord at applied
  cases r with
  | put key f =>
    simp only at applied
    split at applied
    · cases applied
    · split at applied
      · cases applied; exact ⟨_, _, _, rfl⟩
      · cases applied; exact same
      · cases applied
    · split at applied
      · cases applied; exact same
      · cases applied; exact written _
  | drop key =>
    simp only at applied
    split at applied
    · cases applied
    · cases applied; exact same
    · split at applied
      · cases applied; exact same
      · unfold changed at applied
        split at applied
        · cases applied; exact written _
        · cases applied; exact same
        · cases applied

/-- A request changes an entry, or stores its change in a hold. -/
theorem requestOperation_changes {r : Reply} (done : requestOperation d s = some (t, r)) :
    (∃ m, t = s.setMemory m) ∨ ∃ j h h', s.hold j = some h ∧ t = s.setHold j (some h') := by
  have unheld : ∀ loc e, ∃ m, (requestUnheld d loc e s).1 = s.setMemory m := fun loc e => by
    unfold requestUnheld
    split
    · exact ⟨_, rfl⟩
    · split
      · exact ⟨_, rfl⟩
      · exact ⟨s.tab.memory, rfl⟩
  cases walk : s.lookup (keyAt d.payload 0) with
  | failed => rw [requestOperation_failed walk] at done; cases done
  | absent =>
    rw [requestOperation_absent walk] at done
    cases done
    exact .inl ⟨s.tab.memory, rfl⟩
  | found loc e =>
    cases holder : requestHolder d s with
    | none =>
      rw [requestOperation_free walk holder] at done
      obtain ⟨m, hm⟩ := unheld loc e
      exact .inl ⟨m, by rw [← hm, Option.some.inj done]⟩
    | some x =>
      obtain ⟨hold, op⟩ := requestOperation_holder walk holder
      rw [op] at done
      have first : (requestHeld d x.1 x.2 e s).1 = t := by rw [Option.some.inj done]
      rw [← first]
      unfold requestHeld
      split
      · exact .inr ⟨_, _, _, hold, rfl⟩
      · split
        · exact .inr ⟨_, _, _, hold, rfl⟩
        · exact .inl ⟨s.tab.memory, rfl⟩

theorem setHold_completed {j : LaneId} {h h' : Hold} (hold : s.hold j = some h) : Completed s (s.setHold j (some h')) :=
  { Completed.refl s with
    lane := fun i hi => by
      by_cases same : i = j
      · subst same
        exact ⟨by rw [State.setHold_hold_same]; exact Option.some_ne_none _, rfl⟩
      · exact ⟨by rw [State.setHold_hold_other _ _ _ _ same]; exact hi, rfl⟩ }

/-- What the list side completes: a change of the table, or one stored in a hold. -/
theorem completeList_cases (s : State) :
    (∃ m p h, completeList s = s.setTab { s.tab with memory := m, presence := p, shadow := h }) ∨
      ∃ j h h', s.hold j = some h ∧ completeList s = s.setHold j (some h') := by
  have same : ∃ m p h, s = s.setTab { s.tab with memory := m, presence := p, shadow := h } := ⟨s.tab.memory, s.tab.presence, s.tab.shadow, rfl⟩
  unfold completeList
  split
  · split
    · exact .inl same
    · next r _ =>
      cases applied : applyRecord r s with
      | none => exact .inl same
      | some x => exact .inl (applyRecord_tab (t := x.1) (k := x.2) applied)
  · next d _ =>
    cases done : requestOperation d s with
    | none => exact .inl same
    | some x =>
      rcases requestOperation_changes (t := x.1) (r := x.2) done with ⟨m, hm⟩ | held
      · exact .inl ⟨m, s.tab.presence, s.tab.shadow, hm⟩
      · exact .inr held
  · exact .inl same

theorem completeList_completed (s : State) : Completed s (completeList s) := by
  rcases completeList_cases s with ⟨m, p, h, written⟩ | ⟨j, h, h', hold, stored⟩
  · rw [written]
    exact setTab_completed s m p h
  · rw [stored]
    exact setHold_completed hold

theorem completeList_unit (s : State) : (completeList s).adm = s.adm ∧ (completeList s).list = s.list := by
  rcases completeList_cases s with ⟨m, p, h, written⟩ | ⟨j, h, h', hold, stored⟩
  · rw [written]
    exact ⟨rfl, rfl⟩
  · rw [stored]
    exact ⟨rfl, rfl⟩

/-! ## A PROFILE just taken -/

theorem completeProfile_cases (s : State) :
    completeProfile s = s ∨ ∃ a, a.scheme = s.adm.scheme ∧ completeProfile s = (breakChain s).setAdm a := by
  unfold completeProfile
  split
  · exact .inl rfl
  · next d _ =>
    refine .inr ?_
    unfold carryOutProfile
    split
    · exact ⟨(breakChain s).adm, congrArg _ (breakChain_adm s), rfl⟩
    · next p _ => exact ⟨((breakChain s).setProfile p (profileOfDesc d)).adm, show (breakChain s).adm.scheme = _ by rw [breakChain_adm], rfl⟩

theorem completeProfile_completed (s : State) : Completed s (completeProfile s) := by
  rcases completeProfile_cases s with same | ⟨a, scheme, carried⟩
  · rw [same]
    exact Completed.refl s
  · have frame := breakChain_frame s
    have ctl : (breakChain s).ctl = { s.ctl with notice := (breakChain s).ctl.notice } := frame.ctl
    have tab := breakChain_tab s
    have zone := breakChain_zone s
    have holds : (breakChain s).holds = s.holds := frame.holds
    have lanes : (breakChain s).lanes = s.lanes := frame.lanes
    have monitors : (breakChain s).monitors = s.monitors := frame.monitors
    have clk : (breakChain s).clk = s.clk := frame.clk
    have gate : (breakChain s).gate = s.gate := frame.gate
    have cfg := breakChain_cfg s
    have take := breakChain_take s
    rw [carried]
    generalize breakChain s = v at *
    exact
      { ctl := ctl, zone := fun z => congrArg (fun x : Zone => ({ x with reserved := 0 } : Zone)) (zone z), monitors := monitors, clk := clk,
        cfg := cfg, gate := gate, take := take, k := congrArg TableUnit.k tab, places := congrArg TableUnit.u tab,
        port := congrArg TableUnit.port tab, filter := congrArg TableUnit.filter tab, scheme := scheme
        lane := fun i hi => by
          have hold : v.hold i = s.hold i := congrArg (fun h => h.get i) holds
          exact ⟨fun h => hi (hold.symm.trans h), congrArg (fun l => l.get i) lanes⟩ }

end ListSide

end Sys2Proof.Proofs.Stopping

end

section
/-! PROOFS. STOP (O34): the STOP as a whole. -/

namespace Sys2Proof.Proofs.Stopping

open Sys2Proof Sys2Proof.Machine Sys2Proof.Proofs.Keeping Sys2Proof.Proofs.Lanes Sys2Proof.Proofs.Requests Sys2Proof.Proofs.Events
  Sys2Proof.Proofs.Admission Sys2Proof.Proofs.Loads Sys2Proof.Proofs.Lists Sys2Proof.Proofs.Walk Sys2Proof.Proofs.Settings
  Sys2Proof.Proofs.Examine Sys2Proof.Proofs.Commands

section Whole

variable {s t u v : State} {d : Desc} {f : InFlight}

theorem completeFlight_up (up : s.portUp = true) :
    completeFlight .gate s = completeGate s ∧ completeFlight .list s = completeList s ∧ completeFlight .profile s = completeProfile s ∧
      completeFlight .gateThenProfile s = completeProfile (completeGate s) ∧
      completeFlight .profileThenGate s = completeGate (completeProfile s) := by
  refine ⟨?_, ?_, ?_, ?_, ?_⟩ <;> exact if_pos up

theorem completeFlight_completed (f : InFlight) (s : State) : Completed s (completeFlight f s) := by
  by_cases up : s.portUp = true
  · obtain ⟨gate, list, profile, gateProfile, profileGate⟩ := completeFlight_up up
    cases f with
    | idle => rw [completeFlight_idle]; exact Completed.refl s
    | gate => rw [gate]; exact completeGate_completed s
    | list => rw [list]; exact completeList_completed s
    | profile => rw [profile]; exact completeProfile_completed s
    | gateThenProfile => rw [gateProfile]; exact (completeGate_completed s).trans (completeProfile_completed _)
    | profileThenGate => rw [profileGate]; exact (completeProfile_completed s).trans (completeGate_completed _)
  · rw [completeFlight_down f s (Bool.eq_false_iff.2 up)]
    exact Completed.refl s

/-! ## Lanes, holds and records that an operation leaves to the STOP -/

/-- An operation that leaves the lanes, which lanes hold, the journal unit and the clock. -/
structure Undisturbed (s u : State) : Prop where
  lanes : u.lanes = s.lanes
  held : ∀ i, u.hold i = none ↔ s.hold i = none
  jrn : u.jrn = s.jrn
  clk : u.clk = s.clk

theorem Undisturbed.refl (s : State) : Undisturbed s s := ⟨rfl, fun _ => Iff.rfl, rfl, rfl⟩

theorem Undisturbed.trans (a : Undisturbed s t) (b : Undisturbed t u) : Undisturbed s u :=
  ⟨b.lanes.trans a.lanes, fun i => (b.held i).trans (a.held i), b.jrn.trans a.jrn, b.clk.trans a.clk⟩

theorem Undisturbed.symm (a : Undisturbed s t) : Undisturbed t s :=
  ⟨a.lanes.symm, fun i => (a.held i).symm, a.jrn.symm, a.clk.symm⟩

/-- What a STOP leaves after such an operation it would have left without it. -/
theorem Undisturbed.holdsStopped (a : Undisturbed s u) (h : u.HoldsStopped t) : s.HoldsStopped t := by
  have lane : ∀ i, u.lane i = s.lane i := fun i => congrArg (fun l => l.get i) a.lanes
  have tally : u.stopTally = s.stopTally := by
    funext i
    simp only [State.stopTally, ne_eq, a.held, lane, recordNow_clk a.clk]
  have tallies : u.stopTallies = s.stopTallies := by rw [State.stopTallies, tally]; rfl
  obtain ⟨lanes, queue, gap, put⟩ := h
  rw [tallies, a.jrn] at queue gap
  rw [a.jrn] at put
  refine ⟨fun i => ?_, queue, gap, put⟩
  rw [lanes i]
  simp only [a.held, lane]

theorem setTab_undisturbed (s : State) (x : TableUnit) : Undisturbed s (s.setTab x) := ⟨rfl, fun _ => Iff.rfl, rfl, rfl⟩

theorem setHold_undisturbed {j : LaneId} {h h' : Hold} (hold : s.hold j = some h) : Undisturbed s (s.setHold j (some h')) := by
  refine ⟨rfl, fun i => ?_, rfl, rfl⟩
  by_cases same : i = j
  · subst same
    rw [State.setHold_hold_same, hold]
    exact ⟨fun h => absurd h (Option.some_ne_none _), fun h => absurd h (Option.some_ne_none _)⟩
  · rw [State.setHold_hold_other _ _ _ _ same]

theorem completeList_undisturbed (s : State) : Undisturbed s (completeList s) := by
  rcases completeList_cases s with ⟨m, p, h, written⟩ | ⟨j, h, h', hold, stored⟩
  · rw [written]
    exact setTab_undisturbed s _
  · rw [stored]
    exact setHold_undisturbed hold

theorem breakChain_jrn (s : State) : (breakChain s).jrn = s.jrn := by
  have kept : ∀ st b, (returnKept st b s).jrn = s.jrn := fun st b => by
    unfold returnKept
    split
    · exact writeReturn_jrn _ _ _ _ _
    · rfl
  unfold breakChain
  split
  · exact kept _ _
  · rfl

theorem completeProfile_undisturbed (s : State) : Undisturbed s (completeProfile s) := by
  rcases completeProfile_cases s with same | ⟨a, -, carried⟩
  · rw [same]
    exact Undisturbed.refl s
  · rw [carried]
    have frame := breakChain_frame s
    have lanes : (breakChain s).lanes = s.lanes := frame.lanes
    have holds : (breakChain s).holds = s.holds := frame.holds
    have clk : (breakChain s).clk = s.clk := frame.clk
    have jrn := breakChain_jrn s
    generalize breakChain s = w at *
    exact ⟨lanes, fun i => by rw [show (w.setAdm a).hold i = s.hold i from congrArg (fun h => h.get i) holds], jrn, clk⟩

/-- The gate side completes no admission where none is next at the port. -/
theorem completeGate_noLookup (no_lookup : s.tab.port.head? ≠ some .lookup) : completeGate s = s.setMemory (closedMemory s) :=
  completeGate_closing (Option.eq_none_iff_forall_ne_some.2 fun _ due => no_lookup (lookupDue_head due))

theorem completeProfile_tab (s : State) : (completeProfile s).tab = s.tab ∧ (completeProfile s).holds = s.holds := by
  rcases completeProfile_cases s with same | ⟨a, -, carried⟩
  · rw [same]
    exact ⟨rfl, rfl⟩
  · rw [carried]
    exact ⟨breakChain_tab s, (breakChain_frame s).holds⟩

/-! ## The commands that a STOP stands in for -/

theorem continueBuffer_tab (d : Desc) (n : Nat) (c : Counts) (s : State) : (continueBuffer d n c s).tab = s.tab := by
  have examine : ∀ t : State, (examineList t).tab = t.tab := fun t => (examineList_frame t t.list).tab
  have returned : ∀ d r (t : State), (returnList d r t).tab = t.tab := fun d r t => by
    unfold returnList
    split
    · rfl
    · rw [examine]
      exact writeReturn_tab _ _ _ _ _
  have kept : ∀ d c (t : State), (keepDescriptor d c t).tab = t.tab := fun d c t => by
    unfold keepDescriptor
    split
    · rfl
    · rw [examine]
      simp only
      split <;> rfl
  unfold continueBuffer
  simp only
  split
  · unfold finishBuffer
    split
    · exact kept _ _ _
    · exact kept _ _ _
    · exact returned _ _ _
    · exact returned _ _ _
    · exact returned _ _ _
  · rfl

theorem tableFault_tab (op : TableOp) (b : Nat) (l : Option LaneId) (z : Option ZoneId) (key : Key) (s : State) :
    (tableFault op b l z key s).tab = s.tab := by
  rw [tableFault_eq, emit_tab, notify_tab]

theorem returnList_tab (d : Desc) (r : Reply) (s : State) : (returnList d r s).tab = s.tab := by
  unfold returnList
  split
  · rfl
  · next ring _ =>
    have examined : (examineList (listHandBack ring d r s)).tab = (listHandBack ring d r s).tab :=
      (examineList_frame (listHandBack ring d r s) s.list).tab
    rw [examined]
    exact writeReturn_tab _ _ _ _ _

theorem loadFailed_tab (d : Desc) (c : Counts) (key : Key) (s : State) : (loadFailed d c key s).tab = s.tab := by
  unfold loadFailed
  simp only
  split
  · rw [returnList_tab, tableFault_tab]
  · rw [returnList_tab, State.setList_tab, tableFault_tab]

/-- A batch record at the port makes the table that a STOP completes. -/
theorem batchOperation_completed {n : Nat} {c : Counts} (p : List PortRequest) (work : s.list.work = some ⟨d, .loading n c⟩) :
    (batchOperation d n c (withPort p s)).tab.memory = (completeList s).tab.memory ∧
      (batchOperation d n c (withPort p s)).tab.presence = (completeList s).tab.presence := by
  cases record : s.batchRecord d n with
  | none =>
    have skipped : batchOperation d n c (withPort p s) = continueBuffer d (n + 1) (c.bump .malformed) (withPort p s) := by
      rw [batchOperation, show (withPort p s).batchRecord d n = none from record]
    have same : completeList s = s := by simp only [completeList, work, record]
    rw [skipped, continueBuffer_tab, same]
    exact ⟨rfl, rfl⟩
  | some r =>
    have record' : (withPort p s).batchRecord d n = some r := record
    have outcome := applyRecord_withPort p s r
    cases applied : applyRecord r s with
    | none =>
      rw [applied] at outcome
      have same : completeList s = s := by simp only [completeList, work, record, applied, Option.map_none, Option.getD_none]
      rw [batchOperation_failed record' outcome, loadFailed_tab, same]
      exact ⟨rfl, rfl⟩
    | some x =>
      rw [applied] at outcome
      have done : completeList s = x.1 := by simp only [completeList, work, record, applied, Option.map_some, Option.getD_some]
      rw [batchOperation_counted record' outcome, continueBuffer_tab, done]
      exact ⟨rfl, rfl⟩

/-- A request at the port makes the table that a STOP completes. -/
theorem listOperation_completed (p : List PortRequest) (work : s.list.work = some ⟨d, .request⟩) :
    (listOperation d (withPort p s)).tab.memory = (completeList s).tab.memory := by
  have outcome := requestOperation_withPort p s d
  cases done : requestOperation d s with
  | none =>
    rw [done] at outcome
    have same : completeList s = s := by simp only [completeList, work, done, Option.map_none, Option.getD_none]
    rw [listOperation, show requestOperation d (withPort p s) = none from outcome]
    simp only
    rw [returnList_tab, tableFault_tab, same]
    rfl
  | some x =>
    rw [done] at outcome
    have whole : completeList s = x.1 := by simp only [completeList, work, done, Option.map_some, Option.getD_some]
    rw [listOperation, show requestOperation d (withPort p s) = some (withPort p x.1, x.2) from outcome]
    simp only
    rw [returnList_tab, whole]
    rfl

/-- A closing operation at the port writes what a STOP completes. -/
theorem closingOperation_completed (up : s.portUp = true) (run : exec (.closingOperation []) s = .next v) :
    v.tab.memory = closedMemory s := by
  change execClosingOperation [] s = .next v at run
  unfold execClosingOperation at run
  rw [if_pos up] at run
  have finished : ∀ i h o c (w : State), (watchEvent i (finishHold i h o c w)).tab.memory = w.tab.memory := fun i h o c w => by
    rw [(watchEvent_frame i _).tab, (finishHold_eventFrame i h o c w).tab]
  unfold closedMemory
  cases due : s.closingDue with
  | none =>
    rw [due] at run
    cases run
    rfl
  | some x =>
    obtain ⟨i, h, o, key, loc⟩ := x
    rw [due] at run
    have fails : (popPort (damage [] s)).tab.memory.fails loc.word = s.tab.memory.fails loc.word := rfl
    have held : (popPort (damage [] s)).heldEntry key loc = s.heldEntry key loc := rfl
    simp only [fails, held] at run ⊢
    by_cases failed : s.tab.memory.fails loc.word = true
    · rw [if_pos failed] at run ⊢
      cases run
      rw [closeFailed, finished, tableFault_tab]
      rfl
    · rw [if_neg failed] at run ⊢
      cases entry : s.heldEntry key loc with
      | none => rw [entry] at run; cases run
      | some e =>
        rw [entry] at run
        cases run
        rw [closeWritten, finished]
        rfl

theorem makeHold_hold (s : State) (i : LaneId) (key : Key) (loc : Location) (tier : Fin 4) (e : Entry) :
    (makeHold i key loc tier e s).hold i ≠ none := by
  have created : ∀ k (w : State), (createHold i k w).hold i ≠ none := fun k w => by
    obtain ⟨zs, taken⟩ := takeReserved_eq (w.newHold i k) (w.setHold i (some (w.newHold i k)))
    rw [createHold, taken]
    show (w.setHold i (some (w.newHold i k))).hold i ≠ none
    rw [State.setHold_hold_same]
    exact Option.some_ne_none _
  rw [makeHold_eq, State.hold, (watchEvent_frame i _).holds]
  exact created _ _

theorem returnGate_undisturbed (d : Desc) (r : Reply) (s : State) :
    Undisturbed s (returnGate d r s) ∧ (returnGate d r s).tab = s.tab ∧ (returnGate d r s).holds = s.holds := by
  have examined : ∀ n (t : State), (gateExamine n t).jrn = t.jrn := fun n => by
    induction n with
    | zero => exact fun _ => rfl
    | succ n ih =>
      intro t
      unfold gateExamine
      split
      · rfl
      · split
        · simp only
          split
          · rfl
          · rw [ih]
            exact writeReturn_jrn _ _ _ _ _
        · rfl
  unfold returnGate
  split
  · exact ⟨Undisturbed.refl s, rfl, rfl⟩
  · next ring _ =>
    have jrn : (examineGate (gateHandBack ring d r s)).jrn = s.jrn := by
      unfold examineGate
      split
      · rw [examined]
        exact writeReturn_jrn _ _ _ _ _
      · exact writeReturn_jrn _ _ _ _ _
    have frame := (gateHandBack_frame ring d r s s.gate).trans (examineGate_frame (gateHandBack ring d r s) s.gate)
    generalize examineGate (gateHandBack ring d r s) = w at *
    have lanes : w.lanes = s.lanes := frame.lanes
    have holds : w.holds = s.holds := frame.holds
    exact ⟨⟨lanes, fun i => by rw [State.hold, holds]; rfl, jrn, frame.clk⟩, frame.tab, holds⟩

/-- An admission lookup at the port makes the hold that a STOP completes, or none. -/
theorem admissionLookup_completed (up : s.portUp = true) (front : s.tab.port.head? = some .lookup)
    (run : exec (.admissionLookup []) s = .next v) :
    (completeGate s).tab.memory = v.tab.memory ∧ (v.holds = s.holds → completeGate s = s) ∧
      (v.holds ≠ s.holds → Undisturbed v (completeGate s)) := by
  change execAdmissionLookup [] s = .next v at run
  unfold execAdmissionLookup at run
  rw [if_pos up] at run
  have unclosed : closedMemory s = s.tab.memory := by
    have none_due : s.closingDue = none := Option.eq_none_iff_forall_ne_some.2 fun _ due => closingDue_head due front
    rw [closedMemory, none_due]
  rcases completeGate_cases s with ⟨written, refuses⟩ | ⟨d, i, key, loc, tier, e, due, free, admits, htier, entry, made⟩
  · have same : completeGate s = s := by rw [written, unclosed]; rfl
    have quiet : v.tab.memory = s.tab.memory ∧ v.holds = s.holds := by
      cases due : s.lookupDue with
      | none =>
        rw [due] at run
        cases run
        exact ⟨rfl, rfl⟩
      | some x =>
        obtain ⟨d, i, key⟩ := x
        have none_made : (s.judge i key).location = none := refuses _ due
        rw [due] at run
        cases run
        obtain ⟨tab, holds⟩ := applyVerdict_refuses (s := popPort s) (i := i) (key := key) none_made
        obtain ⟨-, tab', holds'⟩ := returnGate_undisturbed d ((s.judge i key).finding.reply ((popPort s).lane i).zone)
          (applyVerdict i key (s.judge i key) (popPort s))
        exact ⟨(congrArg (fun x => x.memory) (tab'.trans tab)), holds'.trans holds⟩
    rw [same]
    exact ⟨quiet.1.symm, fun _ => rfl, fun h => absurd quiet.2 h⟩
  · rw [due] at run
    cases run
    have whole : applyVerdict i key (s.judge i key) (popPort s) = withPort s.tab.port.tail (completeGate s) := by
      rw [applyVerdict_admits admits htier entry, made]
      exact makeHold_withPort _ s i key loc tier e
    obtain ⟨quiet, tab, holds⟩ := returnGate_undisturbed d ((s.judge i key).finding.reply ((popPort s).lane i).zone)
      (applyVerdict i key (s.judge i key) (popPort s))
    have op : lookupOperation d i key (popPort (damage [] s)) =
        returnGate d ((s.judge i key).finding.reply ((popPort s).lane i).zone) (applyVerdict i key (s.judge i key) (popPort s)) := rfl
    rw [whole] at quiet tab holds op
    rw [op]
    have after : Undisturbed (completeGate s) (withPort s.tab.port.tail (completeGate s)) := setTab_undisturbed _ _
    refine ⟨?_, fun h => ?_, fun _ => ?_⟩
    · exact (congrArg (fun x : TableUnit => x.memory) tab).symm
    · have held : (completeGate s).hold i = s.hold i := congrArg (fun x => x.get i) (holds.symm.trans h)
      rw [made] at held
      exact absurd (held.trans free) (makeHold_hold s i key loc tier e)
    · exact (after.trans quiet).symm

end Whole

section Stop

variable {s u : State} {f : InFlight}

theorem portUp_of (part : s.ctl.part = .running) (up : s.ctl.resetActive = false) : s.portUp = true := by
  rw [State.portUp, running_eq_true.2 part, up]
  rfl

theorem stopCommand_running (part : s.ctl.part = .running) : stopCommand f s = stopEffects (completeFlight f s) := by
  unfold stopCommand
  rw [part]

/-- A STOP from RUNNING depends on what it meets half done only through what that leaves. -/
theorem exec_stop_running (part : s.ctl.part = .running) (up : s.ctl.resetActive = false) :
    exec (.stop f) s = .next (stopEffects (completeFlight f s)) := by
  rw [exec_stop up, stopCommand_running part]

theorem Completed.part (c : Completed s u) : u.ctl.part = s.ctl.part := by rw [c.ctl]

theorem Completed.resetActive (c : Completed s u) : u.ctl.resetActive = s.ctl.resetActive := by rw [c.ctl]

theorem completeProfile_took {ring : Ring} {d : Desc} (took : s.ListTook ring .profile d) : completeProfile s = carryOutProfile d s := by
  simp only [completeProfile, listTaken_of_took (claims := claimsAll) (o := 0) took rfl]

theorem completeGate_portEmpty (empty : s.tab.port = []) : completeGate s = s := by
  have no_lookup : s.tab.port.head? ≠ some .lookup := by rw [empty]; exact fun h => by cases h
  have unclosed : closedMemory s = s.tab.memory := by
    have none_due : s.closingDue = none := by simp only [State.closingDue, empty]
    rw [closedMemory, none_due]
  rw [completeGate_noLookup no_lookup, unclosed]
  rfl

theorem completeList_idle (idle : s.list.work = none) : completeList s = s := by simp only [completeList, idle]

theorem completeProfile_idle (idle : s.list.work = none) : completeProfile s = s := by
  simp only [completeProfile, State.listTaken, idle]

/-- What the STOP meets half done includes an operation of the gate side. -/
def GateToo (f : InFlight) : Prop := f = .gate ∨ f = .gateThenProfile ∨ f = .profileThenGate

theorem setMemory_undisturbed (s : State) (m : TableMemory) : Undisturbed s (s.setMemory m) := setTab_undisturbed s _

/-- But for an admission lookup nothing half done touches lanes, holds or records. -/
theorem completeFlight_undisturbed (serves : s.portUp = true) (no_lookup : ¬(GateToo f ∧ s.tab.port.head? = some .lookup)) :
    Undisturbed s (completeFlight f s) := by
  obtain ⟨gate, list, profile, gateProfile, profileGate⟩ := completeFlight_up serves
  have front : GateToo f → s.tab.port.head? ≠ some .lookup := fun h front => no_lookup ⟨h, front⟩
  cases f with
  | idle => rw [completeFlight_idle]; exact Undisturbed.refl s
  | gate => rw [gate, completeGate_noLookup (front (.inl rfl))]; exact setMemory_undisturbed s _
  | list => rw [list]; exact completeList_undisturbed s
  | profile => rw [profile]; exact completeProfile_undisturbed s
  | gateThenProfile =>
    rw [gateProfile, completeGate_noLookup (front (.inr (.inl rfl)))]
    exact (setMemory_undisturbed s _).trans (completeProfile_undisturbed _)
  | profileThenGate =>
    have later : (completeProfile s).tab.port.head? ≠ some .lookup := by
      rw [(completeProfile_tab s).1]
      exact front (.inr (.inr rfl))
    rw [profileGate, completeGate_noLookup later]
    exact (completeProfile_undisturbed s).trans (setMemory_undisturbed _ _)

theorem completeFlight_unit (serves : s.portUp = true) (sides : f = .idle ∨ f = .gate ∨ f = .list) :
    (completeFlight f s).adm = s.adm ∧ (completeFlight f s).list = s.list := by
  rcases sides with rfl | rfl | rfl
  · rw [completeFlight_idle]
    exact ⟨rfl, rfl⟩
  · rw [(completeFlight_up serves).1]
    exact ⟨(completeGate_unit s).1, (completeGate_unit s).2.1⟩
  · rw [(completeFlight_up serves).2.1]
    exact completeList_unit s

theorem completeFlight_still (serves : s.portUp = true)
    (sides : f = .idle ∨ f = .list ∨ (f = .gate ∧ s.tab.port.head? ≠ some .lookup)) :
    (completeFlight f s).xmem = s.xmem ∧ (completeFlight f s).ctl = s.ctl := by
  rcases sides with rfl | rfl | ⟨rfl, front⟩
  · rw [completeFlight_idle]
    exact ⟨rfl, rfl⟩
  · rw [(completeFlight_up serves).2.1]
    rcases completeList_cases s with ⟨m, p, h, written⟩ | ⟨j, h, h', hold, stored⟩
    · rw [written]
      exact ⟨rfl, rfl⟩
    · rw [stored]
      exact ⟨rfl, rfl⟩
  · rw [(completeFlight_up serves).1, completeGate_noLookup front]
    exact ⟨rfl, rfl⟩

theorem completeFlight_presence (serves : s.portUp = true) (other : f ≠ .list) :
    (completeFlight f s).tab.presence = s.tab.presence := by
  obtain ⟨gate, list, profile, gateProfile, profileGate⟩ := completeFlight_up serves
  have gated := fun t : State => (completeGate_unit t).2.2
  have profiled := fun t : State => (completeProfile_tab t).1
  cases f with
  | idle => rw [completeFlight_idle]
  | gate => rw [gate, gated]
  | list => exact absurd rfl other
  | profile => rw [profile, profiled]
  | gateThenProfile => rw [gateProfile, profiled, gated]
  | profileThenGate => rw [profileGate, gated, profiled]

/-- A closing operation half done has its writes completed. -/
theorem completeFlight_closes (serves : s.portUp = true) (gateToo : GateToo f) (front : s.tab.port.head? ≠ some .lookup) :
    (completeFlight f s).tab.memory = closedMemory s := by
  obtain ⟨gate, -, -, gateProfile, profileGate⟩ := completeFlight_up serves
  rcases gateToo with rfl | rfl | rfl
  · rw [gate, completeGate_noLookup front]
    rfl
  · rw [gateProfile, (completeProfile_tab _).1, completeGate_noLookup front]
    rfl
  · obtain ⟨tab, holds⟩ := completeProfile_tab s
    have later : (completeProfile s).tab.port.head? ≠ some .lookup := by rwa [tab]
    rw [profileGate, completeGate_noLookup later, ← closedMemory_congr tab holds (completeProfile_completed s).clk]
    rfl

/-- An admission lookup half done, before a PROFILE or alone, is the gate side's alone. -/
theorem completeFlight_lookup (serves : s.portUp = true) (gateToo : GateToo f) (order : f ≠ .profileThenGate) :
    Undisturbed (completeGate s) (completeFlight f s) ∧ (completeFlight f s).tab.memory = (completeGate s).tab.memory := by
  obtain ⟨gate, -, -, gateProfile, -⟩ := completeFlight_up serves
  rcases gateToo with rfl | rfl | rfl
  · rw [gate]
    exact ⟨Undisturbed.refl _, rfl⟩
  · rw [gateProfile]
    exact ⟨completeProfile_undisturbed _, congrArg TableUnit.memory (completeProfile_tab _).1⟩
  · exact absurd rfl order

theorem completeFlight_memory (serves : s.portUp = true) (sides : f = .idle ∨ f = .profile) :
    (completeFlight f s).tab.memory = s.tab.memory := by
  rcases sides with rfl | rfl
  · rw [completeFlight_idle]
  · rw [(completeFlight_up serves).2.2.1, (completeProfile_tab s).1]

theorem halted_outputs (down : s.running = false) (i : LaneId) : s.release i = false ∧ s.freewheel i = false := by
  rw [State.release, State.freewheel, down]
  exact ⟨rfl, rfl⟩

theorem exec_batchRecord_turn {d : Desc} {n : Nat} {c : Counts} (serves : s.portUp = true) (work : s.list.work = some ⟨d, .loading n c⟩) :
    exec (.batchRecord []) (withPort [] s) = .next (batchOperation d n c (withPort [] s)) := by
  have turn : (withPort [] s).listTurn = true := by
    show (s.portUp && decide (([] : List PortRequest) = [])) = true
    rw [serves]
    rfl
  have work' : (withPort [] s).list.work = some ⟨d, .loading n c⟩ := work
  show execBatchRecord [] (withPort [] s) = _
  simp only [execBatchRecord, if_pos turn, work', damage_nil]

theorem exec_listRequest_turn {d : Desc} (serves : s.portUp = true) (work : s.list.work = some ⟨d, .request⟩) :
    exec (.listRequest []) (withPort [] s) = .next (listOperation d (withPort [] s)) := by
  have turn : (withPort [] s).listTurn = true := by
    show (s.portUp && decide (([] : List PortRequest) = [])) = true
    rw [serves]
    rfl
  have work' : (withPort [] s).list.work = some ⟨d, .request⟩ := work
  show execListRequest [] (withPort [] s) = _
  simp only [execListRequest, if_pos turn, work', damage_nil]

end Stop

/-- Settles O34. -/
theorem stopHaltsThePart : Obligations.StopHaltsThePart := by
  unfold Obligations.StopHaltsThePart
  intro f s up turn broken gateToo lookupDue
  refine ⟨fun ring d took => ?_, fun idle => ?_, fun part gateProfile => ?_, fun part profileGate => ?_, fun part => ?_, fun part => ?_,
    fun part => ?_, fun part => ?_⟩
  · intro done
    have part := took.1
    have completed := completeProfile_completed s
    have carried := completeProfile_took took
    have carries : ∀ w, carryOutProfile d s = w → done w := by
      intro w whole
      rw [carried, whole] at completed
      have wpart := completed.part.trans part
      have wup := completed.resetActive.trans up
      refine ⟨fun h => ?_, fun h => ?_⟩
      · rw [h, exec_stop_running part up, exec_stop_running wpart wup, (completeFlight_up (portUp_of part up)).2.2.1, completeFlight_idle,
          carried, whole]
      · rw [h, exec_stop_running part up, exec_stop_running wpart wup, (completeFlight_up (portUp_of part up)).2.2.2.2,
          (completeFlight_up (portUp_of wpart wup)).1, carried, whole]
    refine ⟨fun large => carries broken ?_, fun p named => ?_⟩
    · rw [carryOutProfile, profileOf_eq_none.2 large]
    · have number : profileOf (d.byte 0) = some p := by rw [named, profileOf_ofNat]
      have adm : (broken.setProfile p (profileOfDesc d)).adm =
          { s.adm with profiles := s.adm.profiles.set p.val (profileOfDesc d) p.isLt } := by
        show ({ broken.adm with profiles := broken.adm.profiles.set p.val (profileOfDesc d) p.isLt } : Admission) = _
        rw [show broken.adm = s.adm from breakChain_adm s]
      refine ⟨(broken.setProfile p (profileOfDesc d)).adm, carries _ ?_, ?_, fun y other => ?_, ?_⟩
      · rw [carryOutProfile, number]
        rfl
      · rw [adm]
      · rw [adm]
        exact (vector_get_set _ _ _ _).trans (if_neg other)
      · rw [adm]
        exact (vector_get_set _ _ _ _).trans (if_pos rfl)
  · have same : ∀ g, exec (.stop g) s = .next (stopCommand g s) := fun g => exec_stop up
    rw [same, same]
    by_cases part : s.ctl.part = .running
    · have live := completeFlight_up (portUp_of part up)
      rw [stopCommand_running part, stopCommand_running part, completeFlight_idle]
      rcases idle with ⟨rfl, empty⟩ | ⟨rfl | rfl, idle⟩
      · rw [live.1, completeGate_portEmpty empty]
      · rw [live.2.1, completeList_idle idle]
      · rw [live.2.2.1, completeProfile_idle idle]
    · unfold stopCommand
      split
      · rfl
      · rfl
      · rfl
      · next h => exact absurd h part
  · have c := completeGate_completed s
    have cpart := c.part.trans part
    have cup := c.resetActive.trans up
    rw [gateProfile, exec_stop_running part up, exec_stop_running cpart cup, (completeFlight_up (portUp_of part up)).2.2.2.1,
      (completeFlight_up (portUp_of cpart cup)).2.2.1]
  · have c := completeProfile_completed s
    have cpart := c.part.trans part
    have cup := c.resetActive.trans up
    rw [profileGate, exec_stop_running part up, exec_stop_running cpart cup, (completeFlight_up (portUp_of part up)).2.2.2.2,
      (completeFlight_up (portUp_of cpart cup)).1]
  · rw [exec_stop up, stopCommand, part]
  · rw [exec_stop up, stopCommand, part]
    rfl
  · have whole : exec (.stop f) s = .next (failSetup .abandoned s) := by rw [exec_stop up, stopCommand, part]
    have units : failSetup .abandoned s = _ := failSetup_eq .abandoned s
    refine ⟨_, whole, failSetup_failed _ s, ?_, ?_, ?_, ?_, ?_, ?_, ?_, ?_, fun r run checked wf => failSetup_result run checked wf,
      fun unchecked => failSetup_memory unchecked⟩
    all_goals
      rw [units]
      rfl
  · have completed := completeFlight_completed f s
    have stopped := stopEffects_stopped (completeFlight f s)
    have live := completeFlight_up (portUp_of part up)
    have serves := portUp_of part up
    refine ⟨_, exec_stop_running part up, ?_⟩
    generalize stopEffects (completeFlight f s) = t at stopped ⊢
    have tpart : t.running = false := by
      rw [State.running, stopped.ctl]
      rfl
    have memory : t.tab.memory = (completeFlight f s).tab.memory := by rw [stopped.tab]
    have presence : t.tab.presence = (completeFlight f s).tab.presence := by rw [stopped.tab]
    have outputs := halted_outputs tpart
    refine ⟨?_, fun i => ⟨stopped.hold i, (outputs i).1⟩, fun i => (outputs i).2, fun z => (stopped.zone z).trans (completed.zone z),
      stopped.monitors.trans completed.monitors, ?_, ?_, ?_, ?_, ?_, ?_, ?_, ?_, ?_, stopped.poll, stopped.clk.trans completed.clk,
      stopped.cfg.trans completed.cfg, ?_, fun sides => ?_, fun i hold => ?_, fun no_lookup => ?_, fun sides => ?_,
      fun v list load run => ?_, fun v list request run => ?_, fun i v gate front run => ?_, fun v lookup order run => ?_,
      fun other => ?_, fun sides => ?_⟩
    · rw [stopped.ctl, completed.ctl]
    · rw [stopped.gate, completed.gate]
    · rw [stopped.list, ← completed.take]
    · rw [stopped.list]
    · rw [stopped.list]
    · rw [stopped.list]
    · rw [stopped.tab, ← completed.k]
    · rw [stopped.tab, ← completed.places]
    · rw [stopped.tab]
    · rw [stopped.tab, ← completed.filter]
    · rw [stopped.adm, completed.scheme]
    · obtain ⟨adm, list⟩ := completeFlight_unit serves sides
      rw [stopped.adm, stopped.list, adm, list]
      exact ⟨rfl, rfl⟩
    · obtain ⟨held, lane⟩ := completed.lane i hold
      rw [stopped.holds_stopped.1 i, if_neg held, lane]
    · exact (completeFlight_undisturbed serves no_lookup).holdsStopped stopped.holds_stopped
    · have still : f = .idle ∨ f = .list ∨ (f = .gate ∧ s.tab.port.head? ≠ some .lookup) :=
        sides.imp id (.imp id fun ⟨gate, no_lookup⟩ => ⟨gate, fun front => no_lookup ⟨.inl gate, front⟩⟩)
      obtain ⟨xmem, ctl⟩ := completeFlight_still serves still
      rw [stopped.xmem, stopped.ctl, xmem, ctl]
      exact ⟨rfl, rfl⟩
    · obtain ⟨d, n, c, work⟩ := load
      cases (exec_batchRecord_turn serves work).symm.trans run
      rw [memory, presence, list, live.2.1]
      obtain ⟨same, bits⟩ := batchOperation_completed [] work
      exact ⟨same.symm, bits.symm⟩
    · obtain ⟨d, work⟩ := request
      cases (exec_listRequest_turn serves work).symm.trans run
      rw [memory, list, live.2.1]
      exact (listOperation_completed [] work).symm
    · rw [memory, closingOperation_completed serves run]
      exact completeFlight_closes serves gate (by rw [front]; exact fun h => by cases h)
    · obtain ⟨gate, front⟩ := lookup
      obtain ⟨table, none_made, made⟩ := admissionLookup_completed serves front run
      obtain ⟨quiet, same⟩ := completeFlight_lookup serves gate order
      refine ⟨by rw [memory, same, table], fun h => ?_, fun h => ?_⟩
      · rw [none_made h] at quiet
        exact quiet.holdsStopped stopped.holds_stopped
      · exact ((made h).trans quiet).holdsStopped stopped.holds_stopped
    · rw [presence, completeFlight_presence serves other]
    · rw [memory, completeFlight_memory serves sides]

end Sys2Proof.Proofs.Stopping

end

section
/-! PROOFS. RESET_N active (O40). -/

namespace Sys2Proof.Proofs.Holding

open Sys2Proof Sys2Proof.Machine Sys2Proof.Proofs.Keeping Sys2Proof.Proofs.Requests Sys2Proof.Proofs.Bytes
  Sys2Proof.Proofs.Commands Sys2Proof.Proofs.Stopping

/-! ## A journal write step cut part-way -/

section Cut

variable {s : State} {cut : BitVec 32}

/-- The memory with the chosen bytes of a slot written. -/
def cutBytes (a : Nat) (bytes : Nat → Byte) (l : List Nat) (m : List Host.Cell) : List Host.Cell :=
  l.foldl (fun m i => Memory.writeBytes m (a + 1 + i) [bytes i]) m

/-- A byte that the cut writes is one of those chosen. -/
theorem read_cutBytes {a : Nat} {bytes : Nat → Byte} {l : List Nat} {m : List Host.Cell} (wf : Memory.wf m) {b : Nat}
    (changed : Memory.read (cutBytes a bytes l m) b ≠ Memory.read m b) : ∃ i ∈ l, b = a + 1 + i := by
  induction l generalizing m with
  | nil => exact absurd rfl changed
  | cons i l ih =>
    by_cases here : b = a + 1 + i
    · exact ⟨i, List.mem_cons_self, here⟩
    · have other : Memory.read (Memory.writeBytes m (a + 1 + i) [bytes i]) b = Memory.read m b := by
        rw [read_writeBytes _ _ _ wf, if_neg (by simp only [List.length_singleton]; omega)]
      obtain ⟨j, hj, place⟩ := ih (Memory.writeBytes_wf _ _ _ wf) (fun same => changed (same.trans other))
      exact ⟨j, List.mem_cons_of_mem _ hj, place⟩

/-- The cut of a write step is nothing, or writes chosen bytes of the slot at the put position behind its owner mark. -/
theorem journalCut_cases (cut : BitVec 32) (s : State) :
    journalCut cut s = s ∨
      ∃ ring bytes, s.cfg.journal = some ring ∧ s.ctl.part = .running ∧ s.jrn.queue ≠ [] ∧ s.read (ring.base + 32 * s.jrn.put) = 1 ∧
        journalCut cut s =
          s.setXmem (cutBytes (ring.base + 32 * s.jrn.put) bytes ((List.range 31).filter fun i => cut.getLsbD (i + 1)) s.xmem) := by
  have folded : ∀ (a : Nat) (bytes : Nat → Byte) (l : List Nat) (t : State),
      l.foldl (fun t i => t.writeBytes (a + 1 + i) [bytes i]) t = t.setXmem (cutBytes a bytes l t.xmem) := by
    intro a bytes l
    induction l with
    | nil => exact fun _ => rfl
    | cons i l ih => exact fun t => ih (t.writeBytes (a + 1 + i) [bytes i])
  unfold journalCut
  split
  · next ring r rest cfg queue =>
    simp only
    split
    · next owned =>
      refine .inr ⟨ring, byteAt (r.body s.jrn.gap), cfg, running_eq_true.1 owned.1, by rw [queue]; exact List.cons_ne_nil _ _, owned.2, ?_⟩
      exact folded _ _ _ s
    · exact .inl rfl
  · exact .inl rfl

theorem journalCut_tab (cut : BitVec 32) (s : State) : (journalCut cut s).tab = s.tab := by
  rcases journalCut_cases cut s with same | ⟨ring, bytes, -, -, -, -, written⟩
  · rw [same]
  · rw [written]
    rfl

theorem journalCut_none (s : State) : journalCut 0 s = s := by
  rcases journalCut_cases 0 s with same | ⟨ring, bytes, -, -, -, -, written⟩
  · exact same
  · rw [written]
    have none_chosen : ((List.range 31).filter fun i => (0 : BitVec 32).getLsbD (i + 1)) = [] := by decide
    rw [none_chosen]
    rfl

end Cut

/-! ## While RESET_N is active -/

section Active

variable {s : State}

theorem whileUp_active {f : State → State} (active : s.ctl.resetActive = true) : whileUp f s = s := if_pos active

theorem portUp_active (active : s.ctl.resetActive = true) : s.portUp = false := by
  rw [State.portUp, active]
  exact Bool.and_false _

theorem listTurn_active (active : s.ctl.resetActive = true) : s.listTurn = false := by
  rw [State.listTurn, portUp_active active]
  rfl

theorem gateTaken_active (active : s.ctl.resetActive = true) (k : ReqKind) (claims : Byte → Bool) : s.gateTaken k claims = none := by
  unfold State.gateTaken
  split
  · exact if_neg fun h => by rw [active] at h; exact absurd h.2.1 (by decide)
  · rfl

theorem listTaken_active (active : s.ctl.resetActive = true) (k : ReqKind) (o : Nat) (claims : Byte → Bool) :
    s.listTaken k o claims = none := by
  unfold State.listTaken
  split
  · exact if_neg fun h => by rw [active] at h; exact absurd h.2.1 (by decide)
  · rfl

theorem alertRequest_active (active : s.ctl.resetActive = true) (c : Nat) (action : LaneId → State → State) : alertRequest c action s = s := by
  simp only [alertRequest, gateTaken_active active]

/-- A command of the processor, of a timer or of a ring does nothing while RESET_N is active. -/
theorem exec_active (active : s.ctl.resetActive = true) (c : Instr) (powerOn : c ≠ .powerOn) (resetN : c ≠ .resetN)
    (pins : ∀ i p x, c ≠ .laneEvent i p x) (bus : ∀ w e v, c ≠ .registerWrite w e v) : exec c s = .next s := by
  have up : ∀ f : State → State, Host.Outcome.next (φ := Fault) (ρ := Refusal) (whileUp f s) = .next s := fun f =>
    congrArg _ (whileUp_active active)
  have alert : ∀ n f, Host.Outcome.next (φ := Fault) (ρ := Refusal) (alertRequest n f s) = .next s := fun n f =>
    congrArg _ (alertRequest_active active n f)
  have down := portUp_active active
  have turn := listTurn_active active
  have gate := gateTaken_active active
  have list := listTaken_active active
  have idle : ¬s.ctl.resetActive = false := by rw [active]; decide
  cases c with
  | powerOn => exact absurd rfl powerOn
  | resetN => exact absurd rfl resetN
  | laneEvent i p x => exact absurd rfl (pins i p x)
  | registerWrite w e v => exact absurd rfl (bus w e v)
  | stop f => exact up _
  | init c => exact up _
  | run => exact up _
  | prompt => exact up _
  | noticeWrite e v => exact up _
  | noticeEnWrite e v => exact up _
  | clockWrite e v => exact up _
  | escortTokenExpiry i => exact up _
  | clockSecond => exact up _
  | ringPollExpiry r => exact up _
  | chainWaitExpiry => exact up _
  | journalPollExpiry => exact up _
  | resetNAsserted f c => exact up _
  | tableStep bad => exact if_neg fun h => idle h.1
  | releaseTimerExpiry i =>
    have none_counts : s.countingHold i = none := if_neg fun h => by rw [down] at h; exact absurd h.1 (by decide)
    simp only [exec, execReleaseTimerExpiry, none_counts]
  | present => simp only [exec, execPresent, gate]
  | admissionLookup bad => exact if_neg (by rw [down]; decide)
  | closingOperation bad => exact if_neg (by rw [down]; decide)
  | manualRelease => simp only [exec, execManualRelease, gate]
  | manualEscort => simp only [exec, execManualEscort, gate]
  | lane => simp only [exec, execLane, gate]
  | alertTake => exact alert _ _
  | alertClear => exact alert _ _
  | alertEnable => exact alert _ _
  | alertDisable => exact alert _ _
  | alertRaise => exact alert _ _
  | load => simp only [exec, execLoad, list]
  | batchRecord bad => exact if_neg (by rw [turn]; decide)
  | revoke => simp only [exec, execRevoke, list]
  | restore => simp only [exec, execRestore, list]
  | mark => simp only [exec, execMark, list]
  | query => simp only [exec, execQuery, list]
  | listRequest bad => exact if_neg (by rw [turn]; decide)
  | rebuild => simp only [exec, execRebuild, list]
  | rebuildWalkBucket bad => exact if_neg fun h => by rw [turn] at h; exact absurd h.1 (by decide)
  | zoneSetOccupancy => simp only [exec, execZoneSetOccupancy, list]
  | zoneAdjust => simp only [exec, execZoneAdjust, list]
  | zoneSetCapacity => simp only [exec, execZoneSetCapacity, list]
  | monitor => simp only [exec, execMonitor, list]
  | profile => simp only [exec, execProfile, list]

end Active

/-- The table memory that a STOP leaves is the one that what it meets half done leaves. -/
theorem stopCommand_memory (f : InFlight) (s : State) : (stopCommand f s).tab.memory = (completeFlight f s).tab.memory := by
  by_cases part : s.ctl.part = .running
  · rw [stopCommand_running part, (stopEffects_stopped _).tab]
  · have down : s.portUp = false := Bool.eq_false_iff.2 fun up => part (portUp_running up)
    rw [completeFlight_down f s down]
    unfold stopCommand
    split
    · rfl
    · rw [failSetup_eq]
      rfl
    · rfl
    · next h => exact absurd h part

/-- Settles O40. -/
theorem resetHoldsThePart : Obligations.ResetHoldsThePart := by
  unfold Obligations.ResetHoldsThePart
  refine fun f cut s wf => ⟨fun up => ?_, exec_active⟩
  have whole : exec (.resetNAsserted f cut) s =
      .next ((journalCut cut (completeFlight f s)).setCtl { (journalCut cut (completeFlight f s)).ctl with resetActive := true }) :=
    congrArg Host.Outcome.next (if_neg (by rw [up]; decide))
  refine ⟨_, whole, rfl, fun i => ?_, ⟨_, exec_stop up, ?_⟩, fun idle uncut => ?_, fun idle => ?_⟩
  · rw [State.release, State.freewheel]
    simp
  · rw [stopCommand_memory, State.setCtl_tab, journalCut_tab]
  · rw [idle, uncut, completeFlight_idle, journalCut_none]
  · rw [idle, completeFlight_idle]
    rcases journalCut_cases cut s with same | ⟨ring, bytes, cfg, part, queue, owned, written⟩
    · rw [same]
      exact ⟨rfl, fun b changed => absurd rfl changed⟩
    · rw [written]
      refine ⟨rfl, fun b changed => ?_⟩
      obtain ⟨i, chosen, place⟩ := read_cutBytes wf changed
      obtain ⟨low, bit⟩ := List.mem_filter.1 chosen
      have low := List.mem_range.1 low
      refine ⟨ring, cfg, part, queue, owned, by omega, by omega, ?_⟩
      rw [show b - (ring.base + 32 * s.jrn.put) = i + 1 by omega]
      exact bit

end Sys2Proof.Proofs.Holding

end

section
/-! PROOFS. INIT: the setup block and its checks (O35). -/

namespace Sys2Proof.Proofs.Setup

open Sys2Proof Sys2Proof.Machine Sys2Proof.Proofs.Keeping Sys2Proof.Proofs.Requests Sys2Proof.Proofs.Bytes
  Sys2Proof.Proofs.Commands Sys2Proof.Proofs.Stopping

/-! ## The block as it was read -/

theorem read_clip {a n b : Nat} (low : a ≤ b) (high : b < a + n) (m : List Host.Cell) :
    Memory.read (Memory.clip m a n) b = Memory.read m b := by
  have kept : ∀ m : List Host.Cell, sparseGet Config.unwrittenByte (m.filter fun c => decide (a ≤ c.1 ∧ c.1 < a + n)) b =
      sparseGet Config.unwrittenByte m b := by
    intro m
    induction m with
    | nil => rfl
    | cons c m ih =>
      obtain ⟨k, v⟩ := c
      by_cases here : k = b
      · subst here
        rw [List.filter_cons_of_pos (by simpa using ⟨low, high⟩)]
        simp only [sparseGet, if_true]
      · by_cases inside : a ≤ k ∧ k < a + n
        · rw [List.filter_cons_of_pos (by simpa using inside)]
          simp only [sparseGet, if_neg here, ih]
        · rw [List.filter_cons_of_neg (by simpa using inside), ih]
          simp only [sparseGet, if_neg here]
  exact kept m

/-! ## The checks of the block (R186) -/

section Checks

variable {x : State} {r : SetupRun}

/-- The first 64 bytes of the block that a setup reads stand in a state's exchange memory. -/
def Shows (x : State) (r : SetupRun) : Prop := ∀ j, j < 64 → x.read (r.base + j) = r.byte j

theorem Shows.word (shows_ : Shows x r) {j : Nat} (low : j + 3 < 64) : x.readWord (r.base + j) = (r.word j).toNat := by
  rw [State.readWord, SetupRun.word, Credentials.wordOf_toNat, Nat.add_assoc r.base j 1, Nat.add_assoc r.base j 2, Nat.add_assoc r.base j 3, shows_ j (by omega),
    shows_ (j + 1) (by omega), shows_ (j + 2) (by omega), shows_ (j + 3) (by omega)]
  omega

theorem Shows.byteNat (shows_ : Shows x r) {j : Nat} (low : j < 64) : (x.read (r.base + j)).toNat = (r.byte j).toNat := by
  rw [shows_ j low]

theorem versionOk_iff (shows_ : Shows x r) : x.versionOk r.base ↔ r.half 0 = 1 := by
  have h0 := shows_ 0 (by decide)
  rw [Nat.add_zero] at h0
  rw [State.versionOk, State.readHalf, h0, shows_ 1 (by decide), ← halfOf_toNat]
  show (r.half 0).toNat = 1 ↔ _
  exact ⟨fun h => BitVec.eq_of_toNat_eq h, fun h => by rw [h]; rfl⟩

theorem requestPlaced_iff (y : Ring) : y.requestPlaced = true ↔ requestRingOk y.base y.exp := by
  simp only [Ring.requestPlaced, inWindow, requestRingOk, Bool.and_eq_true, decide_eq_true_eq]
  have region : y.descRegion = 64 * 2 ^ y.exp := rfl
  have window : Config.windowBase = 64 ∧ Config.windowEnd = 0x40000 := ⟨rfl, rfl⟩
  rw [region, window.1, window.2]
  exact ⟨fun ⟨⟨a, b, c⟩, d, e⟩ => ⟨a, b, c, d, e⟩, fun ⟨a, b, c, d, e⟩ => ⟨⟨a, b, c⟩, d, e⟩⟩

theorem journalPlaced_iff (y : Ring) : y.journalPlaced = true ↔ journalRingOk y.base y.exp := by
  simp only [Ring.journalPlaced, inWindow, journalRingOk, Bool.and_eq_true, decide_eq_true_eq]
  have region : y.slotRegion = 32 * 2 ^ y.exp := rfl
  have window : Config.windowBase = 64 ∧ Config.windowEnd = 0x40000 := ⟨rfl, rfl⟩
  rw [region, window.1, window.2]
  exact ⟨fun ⟨⟨a, b, c⟩, d, e⟩ => ⟨a, b, c, d, e⟩, fun ⟨a, b, c, d, e⟩ => ⟨⟨a, b, c⟩, d, e⟩⟩

theorem ringsOk_iff (shows_ : Shows x r) :
    x.ringsOk r.base ↔ (r.gateRing.requestPlaced && r.listRing.requestPlaced && r.journalRing.journalPlaced) = true := by
  rw [State.ringsOk, shows_.word (by decide), shows_.word (by decide), shows_.word (by decide), shows_.byteNat (by decide),
    shows_.byteNat (by decide), shows_.byteNat (by decide), Bool.and_eq_true, Bool.and_eq_true, requestPlaced_iff, requestPlaced_iff,
    journalPlaced_iff, and_assoc]
  rfl

theorem overlap_iff (a b : Nat × Nat) : overlap a b = false ↔ Apart a.1 a.2 b.1 b.2 := by
  rw [overlap, decide_eq_false_iff_not, Apart]
  omega

theorem regionsOk_iff (shows_ : Shows x r) :
    x.regionsOk r.base ↔
      anyOverlap [(r.gateRing.base, r.gateRing.descRegion), (r.listRing.base, r.listRing.descRegion),
        (r.journalRing.base, r.journalRing.slotRegion), (r.base, Config.setupBytes)] = false := by
  rw [State.regionsOk, shows_.word (by decide), shows_.word (by decide), shows_.word (by decide), shows_.byteNat (by decide),
    shows_.byteNat (by decide), shows_.byteNat (by decide)]
  simp only [anyOverlap, List.any_cons, List.any_nil, Bool.or_false, Bool.or_eq_false_iff, overlap_iff]
  exact ⟨fun ⟨a, b, c, d, e, f⟩ => ⟨⟨a, b, c⟩, ⟨d, e⟩, f⟩, fun ⟨⟨a, b, c⟩, ⟨d, e⟩, f⟩ => ⟨a, b, c, d, e, f⟩⟩

theorem geometryOk_iff (shows_ : Shows x r) : x.geometryOk r.base ↔ 12 ≤ r.k ∧ r.k ≤ 17 ∧ 1 ≤ r.u ∧ r.u ≤ 64 := by
  rw [State.geometryOk, shows_.byteNat (by decide), shows_.byteNat (by decide)]
  rfl

/-- The first check that a block fails, in their order. -/
theorem check_eq (shows_ : Shows x r) :
    (¬x.versionOk r.base → r.check = some .version) ∧
      (x.versionOk r.base → ¬x.ringsOk r.base → r.check = some .placement) ∧
      (x.versionOk r.base → x.ringsOk r.base → ¬x.regionsOk r.base → r.check = some .overlap) ∧
      (x.versionOk r.base → x.ringsOk r.base → x.regionsOk r.base → ¬x.geometryOk r.base → r.check = some .geometry) ∧
      (x.versionOk r.base → x.ringsOk r.base → x.regionsOk r.base → x.geometryOk r.base → r.check = none) := by
  rw [versionOk_iff shows_, ringsOk_iff shows_, regionsOk_iff shows_, geometryOk_iff shows_]
  unfold SetupRun.check
  simp only
  refine ⟨fun v => if_pos v, fun v p => ?_, fun v p o => ?_, fun v p o g => ?_, fun v p o g => ?_⟩
  · rw [if_neg (not_not.2 v), Bool.eq_false_iff.2 p]
    rfl
  · rw [if_neg (not_not.2 v), p, Bool.eq_true_of_not_eq_false o]
    rfl
  · rw [if_neg (not_not.2 v), p, o]
    exact if_pos g
  · rw [if_neg (not_not.2 v), p, o]
    exact if_neg (not_not.2 g)

end Checks

/-! ## What INIT leaves alone -/

section Entered

variable {s t : State} {code : FailureCode}

/-- SETTING_UP has been entered, and nothing else but the result, the filter and the table memory has changed (R185). -/
structure SetupEntered (s t : State) : Prop where
  gateRing : t.cfg.gate = none
  listRing : t.cfg.list = none
  journalRing : t.cfg.journal = none
  complete : t.ctl.setupComplete = false
  holds : t.holds = s.holds
  lanes : t.lanes = s.lanes
  zones : t.zones = s.zones
  monitors : t.monitors = s.monitors
  adm : t.adm = s.adm
  gate : t.gate = s.gate
  list : t.list = s.list
  jrn : t.jrn = s.jrn
  clk : t.clk = s.clk

theorem enterSetup_entered (s : State) : SetupEntered s (enterSetup s) := by constructor <;> rfl

theorem SetupEntered.failed (e : SetupEntered s t) (code : FailureCode) : SetupEntered s (failSetup code t) := by
  rw [failSetup_eq]
  exact { e with complete := rfl }

theorem SetupEntered.staged (e : SetupEntered s t) (r : SetupRun) (g : SetupStage) : SetupEntered s (setStage r g t) := { e with }

theorem SetupEntered.begun (e : SetupEntered s t) : SetupEntered s (beginFormat t) := { e with }

theorem SetupEntered.firstChecked (e : SetupEntered s t) : SetupEntered s (makeFirstCheck t) := by
  unfold makeFirstCheck
  split
  · split
    · split
      · exact e.staged _ _
      · exact e.failed _
    · exact e
  · exact e

theorem SetupEntered.blockChecked (e : SetupEntered s t) : SetupEntered s (makeBlockChecks t) := by
  unfold makeBlockChecks
  split
  · split
    · split
      · exact e.failed _
      · split
        · exact (e.staged _ _).begun
        · exact e.staged _ _
    · exact e
  · exact e

theorem startSetup_entered (g : SetupStage) (s : State) : SetupEntered s (startSetup g s) := by
  cases g with
  | entered => exact enterSetup_entered s
  | checking => exact (enterSetup_entered s).firstChecked
  | table => exact (enterSetup_entered s).firstChecked.blockChecked

/-! ## The stages of a setup -/

/-- The setup that INIT starts, with the block read. -/
def initRun (s : State) (g : SetupStage) : SetupRun :=
  ⟨s.ctl.setupAt.toNat, Memory.clip s.xmem s.ctl.setupAt.toNat Config.setupBytes, g⟩

theorem initRun_read (s : State) (g : SetupStage) {j : Nat} (low : j < 1088) :
    Memory.read (initRun s g).block ((initRun s g).base + j) = s.read (s.ctl.setupAt.toNat + j) :=
  read_clip (Nat.le_add_right _ _) (Nat.add_lt_add_left low _) _

theorem initRun_shows (s : State) (g : SetupStage) : Shows s (initRun s g) := fun _ low => (initRun_read s g (by omega)).symm

theorem makeFirstCheck_misplaced (misplaced : ¬blockOk s.ctl.setupAt.toNat) :
    makeFirstCheck (enterSetup s) = failSetup .placement (enterSetup s) := by
  rw [makeFirstCheck_cases (enterSetup s) (initRun s .entered) rfl]
  exact (if_pos rfl).trans (if_neg fun h => misplaced ((blockPlaced_iff _).1 h))

theorem makeFirstCheck_placed (placed : blockOk s.ctl.setupAt.toNat) :
    makeFirstCheck (enterSetup s) = setStage (initRun s .entered) .checking (enterSetup s) := by
  rw [makeFirstCheck_cases (enterSetup s) (initRun s .entered) rfl]
  exact (if_pos rfl).trans (if_pos ((blockPlaced_iff _).2 placed))

theorem makeBlockChecks_over {r : SetupRun} (run : t.ctl.setupRun = none ∨ (t.ctl.setupRun = some r ∧ r.stage ≠ .checking)) :
    makeBlockChecks t = t := by
  rcases run with none_runs | ⟨run, stage⟩
  · simp only [makeBlockChecks, none_runs]
  · rw [makeBlockChecks_cases t r run, if_neg stage]

theorem makeBlockChecks_fails {r : SetupRun} (run : t.ctl.setupRun = some r) (stage : r.stage = .checking) (fails : r.check = some code) :
    makeBlockChecks t = failSetup code t := by
  rw [makeBlockChecks_cases t r run, if_pos stage, fails]

theorem makeBlockChecks_passes {r : SetupRun} (run : t.ctl.setupRun = some r) (stage : r.stage = .checking) (passes : r.check = none) :
    makeBlockChecks t = if r.format then beginFormat (setStage r .table t) else setStage r .table t := by
  rw [makeBlockChecks_cases t r run, if_pos stage, passes]

end Entered

/-! ## The outcomes of INIT -/

section Outcomes

variable {s : State} {code : FailureCode}

/-- The state of a setup whose block is in its place and whose further checks are to be made. -/
def checkingState (s : State) : State := setStage (initRun s .entered) .checking (enterSetup s)

theorem checkingState_run (s : State) : (checkingState s).ctl.setupRun = some (initRun s .checking) := rfl

theorem failSetup_tab (code : FailureCode) (t : State) : (failSetup code t).tab = t.tab := by
  rw [failSetup_eq]
  rfl

theorem startSetup_misplaced {g : SetupStage} (past : g ≠ .entered) (misplaced : ¬blockOk s.ctl.setupAt.toNat) :
    startSetup g s = failSetup .placement (enterSetup s) := by
  have first := makeFirstCheck_misplaced misplaced
  cases g with
  | entered => exact absurd rfl past
  | checking => exact first
  | table =>
    have ended : (failSetup .placement (enterSetup s)).ctl.setupRun = none := by
      rw [failSetup_eq]
      rfl
    exact (congrArg makeBlockChecks first).trans (makeBlockChecks_over (r := initRun s .entered) (.inl ended))

theorem startSetup_table (placed : blockOk s.ctl.setupAt.toNat) : startSetup .table s = makeBlockChecks (checkingState s) :=
  congrArg makeBlockChecks (makeFirstCheck_placed placed)

/-- A check past the first that fails ends the setup, with a result. -/
theorem startSetup_fails (placed : blockOk s.ctl.setupAt.toNat) (wf : Memory.wf s.xmem) (fails : (initRun s .checking).check = some code) :
    SetupFailedWith code s (startSetup .table s) ∧ SetupResult s.ctl.setupAt.toNat 2 code.code 0 0 s (startSetup .table s) ∧
      (startSetup .table s).tab = s.tab := by
  rw [startSetup_table placed, makeBlockChecks_fails (checkingState_run s) rfl fails]
  exact ⟨failSetup_failed code (checkingState s),
    failSetup_result (code := code) (checkingState_run s) (fun h => SetupStage.noConfusion h) wf, failSetup_tab _ _⟩

theorem format_iff : (initRun s .checking).format = true ↔ s.read (s.ctl.setupAt.toNat + 2) = 1 := by
  have second : (initRun s .checking).byte 2 = s.read (s.ctl.setupAt.toNat + 2) := initRun_read s .checking (by decide)
  rw [SetupRun.format, second, decide_eq_true_iff]

theorem startSetup_passes (placed : blockOk s.ctl.setupAt.toNat) (passes : (initRun s .checking).check = none) :
    startSetup .table s =
      if s.read (s.ctl.setupAt.toNat + 2) = 1 then beginFormat (setStage (initRun s .checking) .table (checkingState s))
      else setStage (initRun s .checking) .table (checkingState s) := by
  rw [startSetup_table placed, makeBlockChecks_passes (checkingState_run s) rfl passes]
  simp only [format_iff]

end Outcomes

/-- Settles O35. -/
theorem initChecksTheSetupBlock : Obligations.InitChecksTheSetupBlock := by
  unfold Obligations.InitChecksTheSetupBlock
  intro c s up a goesOn
  refine ⟨fun part => ?_, fun part => ?_, fun idle wf => ?_⟩
  · rw [exec_init up, initCommand, part]
  · have stopped := stopEffects_stopped (completeFlight c.flight s)
    have completed := completeFlight_completed c.flight s
    have hup : (stopEffects (completeFlight c.flight s)).ctl.resetActive = false := by
      rw [stopped.ctl]
      exact completed.resetActive.trans up
    have halted := stopEffects_part (completeFlight c.flight s)
    refine ⟨_, exec_stop_running part up, halted, ?_⟩
    rw [exec_init up, exec_init hup, initCommand, initCommand, part, halted]
  · have whole : exec (.init c) s = .next (startSetup c.stage s) := by
      rw [exec_init up, initCommand]
      rcases idle with part | part <;> rw [part]
    obtain ⟨gateRing, listRing, journalRing, complete, holds, lanes, zones, monitors, adm, gate, list, jrn, clk⟩ :=
      startSetup_entered c.stage s
    refine ⟨_, whole, gateRing, listRing, journalRing, complete, holds, lanes, zones, monitors, adm, gate, list, jrn, clk, ?_⟩
    have reads : ∀ g j, j < 1088 → Memory.read (initRun s g).block (a + j) = s.read (a + j) := fun g j low => initRun_read s g low
    refine ⟨fun stage => ?_, fun past misplaced => ?_, fun stage placed => ?_, fun stage placed => ?_⟩
    · show goesOn (startSetup c.stage s) ∧ _
      rw [stage]
      exact ⟨⟨rfl, rfl, rfl, rfl, initRun s .entered, rfl, rfl, stage.symm, reads .entered⟩, rfl⟩
    · rw [startSetup_misplaced past misplaced]
      refine ⟨failSetup_failed .placement (enterSetup s), failSetup_memory fun r run => ?_, failSetup_tab _ _⟩
      obtain rfl : initRun s .entered = r := Option.some.inj run
      rfl
    · have goes : startSetup c.stage s = checkingState s := by
        rw [stage]
        exact makeFirstCheck_placed placed
      rw [goes]
      exact ⟨⟨rfl, rfl, rfl, rfl, initRun s .checking, rfl, rfl, stage.symm, reads .checking⟩, rfl⟩
    · rw [stage]
      obtain ⟨version, placement, overlap, geometry, passes⟩ := check_eq (initRun_shows s .checking)
      refine ⟨fun v => startSetup_fails placed wf (version v), fun v p => startSetup_fails placed wf (placement v p),
        fun v p o => startSetup_fails placed wf (overlap v p o), fun v p o g => startSetup_fails placed wf (geometry v p o g),
        fun v p o g => ?_⟩
      rw [startSetup_passes placed (passes v p o g)]
      by_cases format : s.read (a + 2) = 1
      · rw [if_pos format]
        exact ⟨⟨rfl, rfl, rfl, rfl, initRun s .table, rfl, rfl, stage.symm, reads .table⟩, fun other => absurd format other,
          fun _ => ⟨rfl, rfl, rfl, rfl⟩⟩
      · rw [if_neg format]
        exact ⟨⟨rfl, rfl, rfl, rfl, initRun s .table, rfl, rfl, stage.symm, reads .table⟩, fun _ => rfl, fun same => absurd same format⟩

end Sys2Proof.Proofs.Setup

end

section
/-! PROOFS. A lane event while SETTING_UP at a lane without a hold, which leaves every other unit but the journal alone (R187, O41). -/

namespace Sys2Proof.Proofs.Setup

open Sys2Proof Sys2Proof.Machine Sys2Proof.Proofs.Keeping Sys2Proof.Proofs.Stopping Sys2Proof.Proofs.Events

/-- Setup programs lane `i`: the part is SETTING_UP and the lane has no hold. -/
structure SettingLane (i : LaneId) (s : State) : Prop where
  part : s.ctl.part = .settingUp
  free : s.hold i = none

/-- From a lane that setup programs: nothing but that lane and the journal changes. -/
def LaneAlone (i : LaneId) (s t : State) : Prop :=
  SettingLane i s → t = { s with lanes := t.lanes, jrn := t.jrn } ∧ ∀ j, j ≠ i → t.lane j = s.lane j

section Alone

variable {i : LaneId} {s t u : State}

theorem SettingLane.idle (h : SettingLane i s) : s.ctl.part ≠ .running := fun r => PartState.noConfusion (h.part.symm.trans r)

theorem SettingLane.standing (h : SettingLane i s) : s.standingHold i = none := by rw [State.standingHold, h.free]; rfl

theorem LaneAlone.setting (a : LaneAlone i s t) (h : SettingLane i s) : SettingLane i t := by
  obtain ⟨eq, -⟩ := a h
  rw [eq]
  exact ⟨h.part, h.free⟩

theorem LaneAlone.refl (i : LaneId) (s : State) : LaneAlone i s s := fun _ => ⟨rfl, fun _ _ => rfl⟩

theorem LaneAlone.trans (a : LaneAlone i s t) (b : LaneAlone i t u) : LaneAlone i s u := fun h => by
  obtain ⟨eq, others⟩ := a h
  obtain ⟨eq', others'⟩ := b (a.setting h)
  refine ⟨?_, fun j other => (others' j other).trans (others j other)⟩
  rw [eq', eq]

theorem setLane_alone (i : LaneId) (l : Lane) (s : State) : LaneAlone i s (s.setLane i l) :=
  fun _ => ⟨rfl, fun _ other => State.setLane_lane_other _ _ _ _ other⟩

theorem emitLane_alone (i : LaneId) (k : RecordKind) (f : RecordFlags) (d : Word) (s : State) : LaneAlone i s (emitLane k i f d s) :=
  fun h => by
    rw [emitLane, emit_halted h.idle]
    exact ⟨rfl, fun _ _ => rfl⟩

theorem endHold_alone (i : LaneId) (o : HoldOutcome) (s : State) : LaneAlone i s (endHold i o s) := fun h => by
  rw [endHold, h.standing]
  exact LaneAlone.refl i s h

theorem reportTallyOnLeave_alone (i : LaneId) (m : LaneMode) (s : State) : LaneAlone i s (reportTallyOnLeave i m s) := by
  unfold reportTallyOnLeave
  split
  · exact (setLane_alone i { s.lane i with tally := 0 } s).trans (emitLane_alone i _ _ _ _)
  · exact LaneAlone.refl i s

theorem takeMode_alone (i : LaneId) (m : LaneMode) (cause : ModeCause) (recorded : Bool) (s : State) :
    LaneAlone i s (takeMode i m cause recorded s) := by
  unfold takeMode
  simp only
  split
  · exact LaneAlone.refl i s
  · have taken := (reportTallyOnLeave_alone i m s).trans (setLane_alone i { (reportTallyOnLeave i m s).lane i with mode := m } _)
    split
    · exact taken.trans (emitLane_alone i _ _ _ _)
    · exact taken

theorem beamRise_alone (i : LaneId) (s : State) : LaneAlone i s (beamRise i s) := fun h => by
  rw [beamRise, h.standing]
  exact LaneAlone.refl i s h

theorem suspendTimer_alone (i : LaneId) (s : State) : LaneAlone i s (suspendTimer i s) := fun h => by
  rw [suspendTimer, h.standing]
  exact LaneAlone.refl i s h

theorem completeTurn_alone (i : LaneId) (forward : Bool) (s : State) : LaneAlone i s (completeTurn i forward s) := fun h => by
  rw [completeTurn, h.standing, if_neg (by simp), anonymousPassage, if_pos h.part]
  exact LaneAlone.refl i s h

theorem trackerStep_alone (i : LaneId) (p : Fin 4) (up : Bool) (s : State) : LaneAlone i s (trackerStep i p up s) := by
  have moved : ∀ t, LaneAlone i s (setTracker i t s) := fun t => setLane_alone i { s.lane i with tracker := t } s
  unfold trackerStep
  simp only
  generalize (if up = true then (s.lane i).tracker.turn + 1 else (s.lane i).tracker.turn - 1) = turn
  split
  · split
    · exact (moved _).trans (completeTurn_alone i true _)
    · split
      · exact (moved _).trans (completeTurn_alone i false _)
      · exact moved _
  · split
    · exact (moved _).trans (suspendTimer_alone i _)
    · exact moved _

theorem trackerMove_alone (i : LaneId) (p : Fin 4) (s : State) : LaneAlone i s (trackerMove i p s) := by
  have moved : ∀ t, LaneAlone i s (setTracker i t s) := fun t => setLane_alone i { s.lane i with tracker := t } s
  unfold trackerMove
  simp only
  split
  · exact LaneAlone.refl i s
  · split
    · exact moved _
    · split
      · exact trackerStep_alone i p true s
      · split
        · exact trackerStep_alone i p false s
        · exact ((moved _).trans (emitLane_alone i _ _ _ _)).trans (endHold_alone i _ _)

theorem fireRise_alone (i : LaneId) (s : State) : LaneAlone i s (fireRise i s) := by
  unfold fireRise
  split
  · exact LaneAlone.refl i s
  · next m _ =>
    exact ((setLane_alone i { s.lane i with afterEmergency := some m } s).trans (takeMode_alone i _ _ _ _)).trans (endHold_alone i _ _)

theorem fireFall_alone (i : LaneId) (s : State) : LaneAlone i s (fireFall i s) := by
  unfold fireFall
  split
  · exact (setLane_alone i { s.lane i with afterEmergency := none } s).trans (takeMode_alone i _ _ _ _)
  · exact LaneAlone.refl i s

theorem takeTerms_alone (i : LaneId) (s : State) : LaneAlone i s (takeTerms i s) := setLane_alone i { s.lane i with prev := s.terms i } s

theorem watchEvent_alone (i : LaneId) (s : State) : LaneAlone i s (watchEvent i s) := fun h => by
  rw [watchEvent, if_neg fun live => live.1 h.part]
  exact takeTerms_alone i s h

theorem levelsChange_alone (i : LaneId) (new : Levels) (s : State) : LaneAlone i s (levelsChange i new s) := by
  have changed := setLane_alone i { s.lane i with level := new } s
  unfold levelsChange
  simp only
  refine LaneAlone.trans (t := _) ?_ (watchEvent_alone i _)
  have seen : LaneAlone i s (if (new.beam && !(s.lane i).level.beam) = true then beamRise i (s.setLane i { s.lane i with level := new })
      else s.setLane i { s.lane i with level := new }) := by
    split
    · exact changed.trans (beamRise_alone i _)
    · exact changed
  generalize (if (new.beam && !(s.lane i).level.beam) = true then beamRise i (s.setLane i { s.lane i with level := new })
      else s.setLane i { s.lane i with level := new }) = w at seen ⊢
  have moved : LaneAlone i s (if (w.lane i).enabled = true ∧
      ((s.lane i).level.armA ≠ new.armA ∨ (s.lane i).level.armB ≠ new.armB) then trackerMove i (armPosition new) w else w) := by
    split
    · exact seen.trans (trackerMove_alone i _ _)
    · exact seen
  split
  · exact moved.trans (fireRise_alone i _)
  · split
    · exact moved.trans (fireFall_alone i _)
    · exact moved

theorem deliverLevels_alone (i : LaneId) (new : Levels) (s : State) : LaneAlone i s (deliverLevels i new s) := by
  unfold deliverLevels
  split
  · exact LaneAlone.refl i s
  · exact levelsChange_alone i new s

theorem restartConditioning_alone (i : LaneId) (p : Period) (s : State) : LaneAlone i s (restartConditioning i p s) := by
  have restarted := setLane_alone i { s.lane i with period := p, agree := Agreement.zero, sampleMs := 0 } s
  unfold restartConditioning
  simp only
  split
  · exact restarted.trans (deliverLevels_alone i _ _)
  · exact restarted

theorem programLane_alone (r : SetupRun) (i : LaneId) (s : State) : LaneAlone i s (programLane r s i) :=
  ((setLane_alone i (r.programmed i (s.lane i)) s).trans (takeTerms_alone i _)).trans (restartConditioning_alone i _ _)

end Alone

end Sys2Proof.Proofs.Setup

end

section
/-! PROOFS. What setup writes into the lanes, zones, monitors and profiles (R187, O41). -/

namespace Sys2Proof.Proofs.Setup

open Sys2Proof Sys2Proof.Machine Sys2Proof.Proofs.Keeping Sys2Proof.Proofs.Events Sys2Proof.Proofs.Settings

/-! ## Codes of the block -/

theorem clamp_eq {lo hi : Nat} (ordered : lo ≤ hi) (n : Nat) : clamp lo hi n = max lo (min hi n) := by
  unfold clamp
  split
  · omega
  · split <;> omega

theorem asked_mode (b : Byte) :
    (BaseMode.ofCode b).getD .closed = if b.toNat = 0 then .opened else if b.toNat = 2 then .free else .closed := by
  revert b
  decide

theorem asked_period (b : Byte) :
    (Period.ofCode b).getD .ms16 = if b.toNat = 0 then .raw else if b.toNat = 1 then .ms1 else if b.toNat = 2 then .ms4 else .ms16 := by
  revert b
  decide

theorem asked_watchMode (b : Byte) :
    (WatchMode.ofCode b).getD .any = if b.toNat = 0 then .all else if b.toNat = 2 then .first else .any := by
  revert b
  decide

theorem flagOf_iff (b : Byte) : flagOf b = true ↔ b.toNat ≠ 0 := by
  revert b
  decide

theorem toNat_eq_one (b : Byte) : b = 1 ↔ b.toNat = 1 := by
  revert b
  decide

theorem asked_zone (b : Byte) :
    ((zoneOf b).isSome = true ↔ b.toNat < 16) ∧ ((zoneOf b).getD 0).val = if b.toNat < 16 then b.toNat else 0 := by
  revert b
  decide

theorem asked_tier (b : Byte) : ((tierOf b).getD 3).val = if b.toNat < 4 then b.toNat else 3 := by
  revert b
  decide

theorem armPosition_home (l : Levels) : armPosition l ≠ 0 ↔ l.armA = true ∨ l.armB = true := by
  obtain ⟨a, b, c, d⟩ := l
  cases a <;> cases b <;> simp [armPosition]

/-! ## One lane -/

section Lane

variable {i : LaneId} {s w : State} (r : SetupRun)

/-- The state as a lane's settings have been written, before its pins are looked at. -/
def laneWritten (r : SetupRun) (i : LaneId) (s : State) : State := takeTerms i (s.setLane i (r.programmed i (s.lane i)))

theorem laneWritten_lane (i : LaneId) (s : State) :
    (laneWritten r i s).lane i =
      { r.programmed i (s.lane i) with prev := (s.setLane i (r.programmed i (s.lane i))).terms i } := by
  rw [laneWritten, takeTerms, State.setLane_lane_same, State.setLane_lane_same]

theorem laneByte (i : LaneId) (j : Nat) : Memory.read r.block (r.base + 0x40 + 32 * i.val + j) = r.byte (laneSection i + j) := by
  rw [SetupRun.byte, laneSection, Nat.add_assoc r.base, Nat.add_assoc r.base]

theorem laneWritten_programmed (free : s.hold i = none) : LaneProgrammed r i (s.lane i) ((laneWritten r i s).lane i) := by
  rw [laneWritten_lane]
  have half : ∀ j, (r.half (laneSection i + j)).toNat = (r.byte (laneSection i + j)).toNat + 256 * (r.byte (laneSection i + j + 1)).toNat :=
    fun j => Bytes.halfOf_toNat _ _
  unfold LaneProgrammed
  simp only [laneByte]
  refine ⟨rfl, rfl, rfl, ?_, ?_, (asked_zone _).2, asked_tier _, flagOf_iff _, asked_period _, flagOf_iff _, ?_, ?_, fun t => ?_,
    asked_watchMode _, flagOf_iff _, ?_, ?_, rfl, rfl, rfl, rfl, rfl, ?_, ?_⟩
  · show (flagOf _ && (zoneOf _).isSome) = true ↔ _
    rw [Bool.and_eq_true, flagOf_iff, (asked_zone _).1]
    rfl
  · show (if r.byte (laneSection i + 1) = 1 then Direction.exit else .entry) = _
    simp only [toNat_eq_one]
  · show clampHold (r.half (laneSection i + 8)).toNat = _
    rw [clampHold, clamp_eq (by decide), half]
  · show clampEscort (r.half (laneSection i + 10)).toNat = _
    rw [clampEscort, clamp_eq (by decide), half]
  · show (Vector.ofFn fun t : Fin 6 => (TermSpec.ofCode (r.byte (laneSection i + 12 + t.val))).getD .ignore).get t = _
    rw [Vector.get_ofFn, BitVec.ofNat_toNat, BitVec.setWidth_eq, Nat.add_assoc]
  · show (if (s.lane i).level.fire = true then LaneMode.emergency else .base (r.laneMode i)) = _
    rw [SetupRun.laneMode, asked_mode]
  · show (if (s.lane i).level.fire = true then some (r.laneMode i) else none) = _
    rw [SetupRun.laneMode, asked_mode]
  · show setupTracker (r.laneSettings i (s.lane i)) = _
    rw [setupTracker]
    simp only [armPosition_home]
    rfl
  · show (s.setLane i (r.programmed i (s.lane i))).terms i = _
    unfold State.terms
    rw [State.setLane_lane_same, State.setLane_hold, free]
    rfl

theorem laneWritten_restarted (i : LaneId) (s : State) :
    (laneWritten r i s).setLane i { (laneWritten r i s).lane i with agree := Agreement.zero, sampleMs := 0 } = laneWritten r i s := by
  have same : { (laneWritten r i s).lane i with agree := Agreement.zero, sampleMs := 0 } = (laneWritten r i s).lane i := by
    rw [laneWritten_lane]
    rfl
  rw [same, setLane_self]

theorem laneWritten_pins (i : LaneId) (s : State) : ((laneWritten r i s).lane i).pins = (s.lane i).pins := by
  rw [laneWritten_lane]
  rfl

theorem laneWritten_level (i : LaneId) (s : State) : ((laneWritten r i s).lane i).level = (s.lane i).level := by
  rw [laneWritten_lane]
  rfl

theorem programLane_eq (i : LaneId) (s : State) :
    programLane r s i =
      if ((laneWritten r i s).lane i).period = .raw then deliverLevels i (s.lane i).pins (laneWritten r i s) else laneWritten r i s := by
  show restartConditioning i ((laneWritten r i s).lane i).period (laneWritten r i s) = _
  unfold restartConditioning
  simp only [laneWritten_restarted r i s]
  rw [laneWritten_pins]

/-- A lane with a sample period, or with its pins at its levels, is as it was written. -/
theorem programLane_quiet (quiet : ((laneWritten r i s).lane i).period ≠ .raw ∨ (s.lane i).pins = (s.lane i).level) :
    programLane r s i = laneWritten r i s := by
  rw [programLane_eq]
  rcases quiet with period | pins
  · rw [if_neg period]
  · rw [deliverLevels, laneWritten_level, if_pos pins.symm, ite_self]

/-- A RAW lane takes its pins as a lane event. -/
theorem programLane_raw (raw : ((laneWritten r i s).lane i).period = .raw) (up : s.ctl.resetActive = false) :
    exec (.laneEvent i (s.lane i).pins false) (laneWritten r i s) = .next (programLane r s i) := by
  have same : { (laneWritten r i s).lane i with pins := (s.lane i).pins } = (laneWritten r i s).lane i := by
    rw [← laneWritten_pins r]
  rw [exec_laneEvent_live (by exact up), pinsChange_raw raw, same, setLane_self, programLane_eq, if_pos raw]

theorem laneWritten_period (free : s.hold i = none) :
    ((laneWritten r i s).lane i).period = .raw ↔ (r.byte (laneSection i + 6)).toNat = 0 := by
  obtain ⟨-, -, -, -, -, -, -, -, period, -⟩ := laneWritten_programmed r free
  simp only [laneByte] at period
  rw [period]
  split
  · next h => exact ⟨fun _ => h, fun _ => rfl⟩
  · next h =>
    refine ⟨fun e => ?_, fun e => absurd e h⟩
    split at e
    · cases e
    · split at e <;> cases e

theorem programLane_level (raw : ((laneWritten r i s).lane i).period = .raw) : ((programLane r s i).lane i).level = (s.lane i).pins := by
  rw [programLane_eq, if_pos raw]
  exact (deliverLevels_lanes i (s.lane i).pins (laneWritten r i s)).2.1

end Lane

/-! ## Every lane -/

section Lanes

variable {s : State} (r : SetupRun)

/-- Setup programs the lanes: the part is SETTING_UP, RESET_N is not active, and no lane has a hold. -/
structure SettingUp (s : State) : Prop where
  part : s.ctl.part = .settingUp
  up : s.ctl.resetActive = false
  free : ∀ i, s.hold i = none

theorem SettingUp.lane (h : SettingUp s) (i : LaneId) : SettingLane i s := ⟨h.part, h.free i⟩

/-- The lane and its journal are as the settings were written. -/
def QuietLane (r : SetupRun) (s : State) (i : LaneId) : Prop :=
  (r.byte (laneSection i + 6)).toNat ≠ 0 ∨ (s.lane i).pins = (s.lane i).level

theorem programLane_quietLane {i : LaneId} (h : SettingUp s) (quiet : QuietLane r s i) : programLane r s i = laneWritten r i s :=
  programLane_quiet r (quiet.imp_left (mt (laneWritten_period r (h.free i)).1))

/-- The programming of some lanes: which state each lane is programmed in, and what it leaves of the rest. -/
theorem programLanes_lanes (l : List LaneId) (distinct : l.Nodup) {s : State} (h : SettingUp s) :
    let t := l.foldl (programLane r) s
    t = { s with lanes := t.lanes, jrn := t.jrn } ∧ (∀ j, j ∉ l → t.lane j = s.lane j) ∧
      (∀ j, j ∈ l → ∃ w, SettingUp w ∧ w.clk = s.clk ∧ w.lane j = s.lane j ∧ t.lane j = (programLane r w j).lane j) ∧
      ((∀ j, j ∈ l → QuietLane r s j) → t.jrn = s.jrn) := by
  induction l generalizing s with
  | nil => exact ⟨rfl, fun _ _ => rfl, fun _ member => absurd member List.not_mem_nil, fun _ => rfl⟩
  | cons i l ih =>
    obtain ⟨apart, distinct⟩ := List.nodup_cons.1 distinct
    obtain ⟨first, others⟩ := programLane_alone r i s (h.lane i)
    have setting : SettingUp (programLane r s i) := by
      rw [first]
      exact ⟨h.part, h.up, h.free⟩
    have clk : (programLane r s i).clk = s.clk := by rw [first]
    obtain ⟨rest, outside, inside, journal⟩ := ih distinct setting
    refine ⟨?_, fun j out => ?_, fun j member => ?_, fun quiet => ?_⟩
    · rw [List.foldl_cons, rest, first]
    · obtain ⟨other, out⟩ := not_or.1 (mt List.mem_cons.2 out)
      exact (outside j out).trans (others j other)
    · rcases List.mem_cons.1 member with rfl | member
      · exact ⟨s, h, rfl, rfl, outside j apart⟩
      · obtain ⟨w, hw, clock, lane, here⟩ := inside j member
        have other : j ≠ i := fun e => apart (e ▸ member)
        exact ⟨w, hw, clock.trans clk, lane.trans (others j other), here⟩
    · have here : (programLane r s i).jrn = s.jrn := by
        rw [programLane_quietLane r h (quiet i List.mem_cons_self)]
        rfl
      refine (journal fun j member => ?_).trans here
      have other : j ≠ i := fun e => apart (e ▸ member)
      rw [QuietLane, others j other]
      exact quiet j (List.mem_cons_of_mem i member)

/-- A lane that setup has programmed. -/
theorem programLanes_quiet (i : LaneId) (h : SettingUp s) (quiet : QuietLane r s i) :
    LaneProgrammed r i (s.lane i) ((laneOrder.foldl (programLane r) s).lane i) := by
  obtain ⟨-, -, inside, -⟩ := programLanes_lanes r laneOrder nodup_laneOrder h
  obtain ⟨w, hw, -, lane, here⟩ := inside i (mem_laneOrder i)
  rw [here, programLane_quietLane r hw (by rwa [QuietLane, lane]), ← lane]
  exact laneWritten_programmed r (hw.free i)

/-- A RAW lane that setup has programmed. -/
theorem programLanes_raw (i : LaneId) (h : SettingUp s) (raw : (r.byte (laneSection i + 6)).toNat = 0) :
    ((laneOrder.foldl (programLane r) s).lane i).level = (s.lane i).pins ∧
      ∃ u v, u.ctl.part = .settingUp ∧ u.ctl.resetActive = false ∧ u.hold i = none ∧ u.clk = s.clk ∧
        LaneProgrammed r i (s.lane i) (u.lane i) ∧ exec (.laneEvent i (s.lane i).pins false) u = .next v ∧
        (laneOrder.foldl (programLane r) s).lane i = v.lane i := by
  obtain ⟨-, -, inside, -⟩ := programLanes_lanes r laneOrder nodup_laneOrder h
  obtain ⟨w, hw, clk, lane, here⟩ := inside i (mem_laneOrder i)
  have period := (laneWritten_period r (hw.free i)).2 raw
  refine ⟨?_, laneWritten r i w, programLane r w i, hw.part, hw.up, hw.free i, clk, ?_, ?_, here⟩
  · rw [here, programLane_level r period, lane]
  · rw [← lane]
    exact laneWritten_programmed r (hw.free i)
  · rw [← lane]
    exact programLane_raw r period hw.up

end Lanes

end Sys2Proof.Proofs.Setup

end

section
/-! PROOFS. The state that setup leaves (R187, O41). -/

namespace Sys2Proof.Proofs.Setup

open Sys2Proof Sys2Proof.Machine Sys2Proof.Proofs.Keeping Sys2Proof.Proofs.Registers Sys2Proof.Proofs.Settings Sys2Proof.Proofs.Stopping

section Zones

variable (r : SetupRun)

theorem setZones_zone (l : List ZoneId) (s : State) (z : ZoneId) :
    (l.foldl (fun t y => t.setZone y (r.zone y)) s).zone z = if z ∈ l then r.zone z else s.zone z := by
  induction l generalizing s with
  | nil => rfl
  | cons y l ih =>
    rw [List.foldl_cons, ih, State.setZone_zone]
    by_cases later : z ∈ l
    · rw [if_pos later, if_pos (List.mem_cons_of_mem y later)]
    · by_cases here : z = y
      · rw [if_neg later, if_pos here, if_pos (here ▸ List.mem_cons_self), here]
      · rw [if_neg later, if_neg here, if_neg (not_or.2 ⟨here, later⟩ ∘ List.mem_cons.1)]

theorem setZones_eq (l : List ZoneId) (s : State) :
    l.foldl (fun t y => t.setZone y (r.zone y)) s = { s with zones := (l.foldl (fun t y => t.setZone y (r.zone y)) s).zones } := by
  induction l generalizing s with
  | nil => rfl
  | cons y l ih => exact ih (s.setZone y (r.zone y))

/-- Monitor `m` as the block says, evaluated at the occupancy of its zone. -/
def monitorAt (s : State) (m : MonitorId) : Monitor := (r.monitor m).recompute (s.zone (r.monitor m).zone).occupancy

theorem setMonitors_monitor (l : List MonitorId) (s : State) (m : MonitorId) :
    (l.foldl (fun t n => t.setMonitor n (monitorAt r t n)) s).monitor m = if m ∈ l then monitorAt r s m else s.monitor m := by
  induction l generalizing s with
  | nil => rfl
  | cons n l ih =>
    have same : monitorAt r (s.setMonitor n (monitorAt r s n)) m = monitorAt r s m := rfl
    rw [List.foldl_cons, ih, State.setMonitor_monitor, same]
    by_cases later : m ∈ l
    · rw [if_pos later, if_pos (List.mem_cons_of_mem n later)]
    · by_cases here : m = n
      · rw [if_neg later, if_pos here, if_pos (here ▸ List.mem_cons_self), here]
      · rw [if_neg later, if_neg here, if_neg (not_or.2 ⟨here, later⟩ ∘ List.mem_cons.1)]

theorem setMonitors_eq (l : List MonitorId) (s : State) :
    l.foldl (fun t n => t.setMonitor n (monitorAt r t n)) s =
      { s with monitors := (l.foldl (fun t n => t.setMonitor n (monitorAt r t n)) s).monitors } := by
  induction l generalizing s with
  | nil => rfl
  | cons n l ih => exact ih (s.setMonitor n (monitorAt r s n))

theorem programZones_eq (s : State) :
    programZones r s =
        { s with zones := (programZones r s).zones, monitors := (programZones r s).monitors, adm := ⟨Vector.ofFn r.profile, r.scheme⟩ } ∧
      (∀ z, (programZones r s).zone z = r.zone z) ∧
      ∀ m, (programZones r s).monitor m = (r.monitor m).recompute ((programZones r s).zone (r.monitor m).zone).occupancy := by
  have zones := setZones_zone r zoneOrder s
  have zonesOnly := setZones_eq r zoneOrder s
  have whole : programZones r s =
      (monitorOrder.foldl (fun t n => t.setMonitor n (monitorAt r t n)) (zoneOrder.foldl (fun t y => t.setZone y (r.zone y)) s)).setAdm
        ⟨Vector.ofFn r.profile, r.scheme⟩ := rfl
  generalize zoneOrder.foldl (fun t y => t.setZone y (r.zone y)) s = w at zones zonesOnly whole
  have monitors := setMonitors_monitor r monitorOrder w
  have monitorsOnly := setMonitors_eq r monitorOrder w
  generalize monitorOrder.foldl (fun t n => t.setMonitor n (monitorAt r t n)) w = x at monitors monitorsOnly whole
  have zone : ∀ z, x.zone z = r.zone z := fun z => by
    rw [monitorsOnly]
    exact (zones z).trans (if_pos (mem_zoneOrder z))
  clear zones
  generalize programZones r s = t at whole ⊢
  generalize (⟨Vector.ofFn r.profile, r.scheme⟩ : Admission) = adm at whole ⊢
  subst whole
  refine ⟨?_, zone, fun m => ?_⟩
  · rw [monitorsOnly, zonesOnly]
    rfl
  · have member : m ∈ monitorOrder := by
      revert m
      decide
    refine (monitors m).trans ((if_pos member).trans ?_)
    rw [monitorAt]
    show _ = (r.monitor m).recompute (x.zone (r.monitor m).zone).occupancy
    rw [monitorsOnly]
    rfl

end Zones

/-! ## What a programmed unit is -/

section Units

variable {s : State} (r : SetupRun)

theorem programRings_setting (part : s.ctl.part = .settingUp) (up : s.ctl.resetActive = false) : SettingUp (programRings r s) := by
  obtain ⟨v, eq, free⟩ := programRings_eq r s
  refine ⟨?_, ?_, free⟩
  · rw [eq]; exact part
  · rw [eq]; exact up

/-- What setup's units are before its result: the rings, the list unit and the journal fresh, no hold, and every lane, zone and monitor
as the block says. -/
theorem programmedUnits_programmed (part : s.ctl.part = .settingUp) (up : s.ctl.resetActive = false) :
    let t := programmedUnits r s
    t = { s with
        cfg := ⟨some r.gateRing, some r.listRing, some r.journalRing, r.poll, r.chainWait⟩, gate := ⟨0, none, none⟩,
        list := ⟨0, none, none, false, none, Counts.zero, none⟩, tab := { s.tab with k := r.k, u := r.u, port := [] },
        adm := ⟨Vector.ofFn r.profile, r.scheme⟩, holds := t.holds, lanes := t.lanes, zones := t.zones, monitors := t.monitors,
        jrn := t.jrn } ∧
      (∀ i, t.hold i = none) ∧ (∀ z, t.zone z = r.zone z) ∧
      (∀ m, t.monitor m = (r.monitor m).recompute (t.zone (r.monitor m).zone).occupancy) ∧
      (∀ i, QuietLane r s i → LaneProgrammed r i (s.lane i) (t.lane i)) ∧
      (∀ i, (r.byte (laneSection i + 6)).toNat = 0 → (t.lane i).level = (s.lane i).pins ∧
        ∃ u v, u.ctl.part = .settingUp ∧ u.ctl.resetActive = false ∧ u.hold i = none ∧ u.clk = s.clk ∧
          LaneProgrammed r i (s.lane i) (u.lane i) ∧ exec (.laneEvent i (s.lane i).pins false) u = .next v ∧ t.lane i = v.lane i) ∧
      ((∀ i, QuietLane r s i) → t.jrn = ⟨0, [], 0, none⟩) := by
  intro t
  have whole : t = programZones r (laneOrder.foldl (programLane r) (programRings r s)) := rfl
  have setting := programRings_setting r part up
  obtain ⟨v, rings, free⟩ := programRings_eq r s
  obtain ⟨lanesOnly, -, -, journal⟩ := programLanes_lanes r laneOrder nodup_laneOrder setting
  have quietLanes := fun i => programLanes_quiet r i setting
  have rawLanes := fun i => programLanes_raw r i setting
  generalize programRings r s = x at *
  generalize laneOrder.foldl (programLane r) x = y at *
  obtain ⟨zonesOnly, zones, monitors⟩ := programZones_eq r y
  generalize (⟨Vector.ofFn r.profile, r.scheme⟩ : Admission) = adm at zonesOnly ⊢
  clear_value t
  rw [← whole] at zonesOnly zones monitors
  have lane : ∀ i, t.lane i = y.lane i := fun i => by rw [zonesOnly]; rfl
  have before : ∀ i, x.lane i = s.lane i := fun i => by rw [rings]; rfl
  have clk : x.clk = s.clk := by rw [rings]
  refine ⟨?_, fun i => ?_, zones, monitors, fun i quiet => ?_, fun i raw => ?_, fun quiet => ?_⟩
  · rw [zonesOnly, lanesOnly, rings]
    rfl
  · rw [zonesOnly, lanesOnly]
    exact free i
  · rw [lane, ← before]
    exact quietLanes i (by rwa [QuietLane, before])
  · rw [lane, ← before, ← clk]
    exact rawLanes i raw
  · have same : t.jrn = y.jrn := by rw [zonesOnly]
    rw [same, journal fun i _ => by rw [QuietLane, before]; exact quiet i, rings]

/-- A monitor section of the block. -/
theorem programmed_monitor (m : MonitorId) (occupancy : Nat) :
    let byte := fun j => (r.byte (0x1C0 + 16 * m.val + j)).toNat
    let half := fun j => byte j + 256 * byte (j + 1)
    let x := (r.monitor m).recompute occupancy
    if byte 1 < 16 ∧ byte 2 ≤ 1 ∧ byte 3 ≤ 2 ∧ byte 4 ≤ 7 ∧ byte 6 ≤ 3 then
      x.enable = decide (byte 0 ≠ 0) ∧ x.zone.val = byte 1 ∧ x.mode.code.toNat = byte 2 ∧ x.edge.code.toNat = byte 3 ∧
        x.steadiness = byte 4 ∧ x.recordOn = decide (byte 5 ≠ 0) ∧ x.link.code.toNat = byte 6 ∧ x.level = half 8 ∧
        x.low = half 10 ∧ x.high = half 12 ∧ x.count = 0 ∧ x.output = (x.enable && x.raw occupancy)
    else x = ⟨false, 0, .level, 0, 0, 0, .rise, 0, false, .none, false, 0⟩ := by
  intro byte half x
  have halves : ∀ j, (r.half (0x1C0 + 16 * m.val + j)).toNat = half j := fun j => Bytes.halfOf_toNat _ _
  have flag : ∀ j, flagOf (r.byte (0x1C0 + 16 * m.val + j)) = decide (byte j ≠ 0) := fun j => by
    rw [Bool.eq_iff_iff, flagOf_iff, decide_eq_true_iff]
  have level : ∀ j, (r.half (0x1C0 + 16 * m.val + j)).toNat ≤ 65535 := fun j => Nat.le_of_lt_succ (r.half _).isLt
  split
  · next fits =>
    obtain ⟨zone, mode, edge, steady, link⟩ := fits
    obtain ⟨z, mo, e, l, zoneIs, modeIs, edgeIs, linkIs, parsed⟩ :=
      parseMonitor_some (en := r.byte (0x1C0 + 16 * m.val)) (rec := r.byte (0x1C0 + 16 * m.val + 5))
        ⟨zone, mode, edge, steady, link, level 8, level 10, level 12⟩
    have monitor : r.monitor m = _ := congrArg (Option.getD · Monitor.powerOn) parsed
    have x_eq : x = (r.monitor m).recompute occupancy := rfl
    rw [x_eq, monitor]
    refine ⟨flag 0, ?_, congrArg BitVec.toNat modeIs, congrArg BitVec.toNat edgeIs, rfl, flag 5, congrArg BitVec.toNat linkIs, halves 8, halves 10,
      halves 12, rfl, rfl⟩
    show z.val = (r.byte (0x1C0 + 16 * m.val + 1)).toNat
    rw [zoneIs, BitVec.toNat_ofNat, Nat.mod_eq_of_lt (by omega)]
  · next fails =>
    have parsed := parseMonitor_none (en := r.byte (0x1C0 + 16 * m.val)) (zone := r.byte (0x1C0 + 16 * m.val + 1))
      (mode := r.byte (0x1C0 + 16 * m.val + 2)) (edge := r.byte (0x1C0 + 16 * m.val + 3)) (steady := r.byte (0x1C0 + 16 * m.val + 4))
      (rec := r.byte (0x1C0 + 16 * m.val + 5)) (link := r.byte (0x1C0 + 16 * m.val + 6)) (level := (r.half (0x1C0 + 16 * m.val + 8)).toNat)
      (low := (r.half (0x1C0 + 16 * m.val + 10)).toNat) (high := (r.half (0x1C0 + 16 * m.val + 12)).toNat)
      fun well => fails (by
        obtain ⟨zone, mode, edge, steady, link, -⟩ := well
        exact ⟨zone, mode, edge, steady, link⟩)
    have monitor : r.monitor m = Monitor.powerOn := congrArg (Option.getD · Monitor.powerOn) parsed
    have x_eq : x = (r.monitor m).recompute occupancy := rfl
    rw [x_eq, monitor]
    rfl

end Units

end Sys2Proof.Proofs.Setup

end

section
/-! PROOFS. TABLE_STEP: how a setup ends (O41). -/

namespace Sys2Proof.Proofs.Setup

open Sys2Proof Sys2Proof.Machine Sys2Proof.Proofs.Keeping Sys2Proof.Proofs.Registers Sys2Proof.Proofs.Settings Sys2Proof.Proofs.Stopping

/-! ## The table memory -/

theorem mem_addWords {w : TableWord} (bad ws : List TableWord) : w ∈ addWords bad ws ↔ w ∈ bad ∨ w ∈ ws := by
  induction bad generalizing ws with
  | nil => simp [addWords]
  | cons x bad ih =>
    have whole : addWords (x :: bad) ws = addWords bad (if x ∈ ws then ws else ws ++ [x]) := rfl
    rw [whole, ih]
    split
    · next member =>
      rw [List.mem_cons]
      exact ⟨fun h => h.imp_left .inr, fun h => by
        rcases h with (rfl | h) | h
        · exact .inr member
        · exact .inl h
        · exact .inr h⟩
    · rw [List.mem_append, List.mem_singleton, List.mem_cons, or_comm (a := w ∈ ws), ← or_assoc, or_comm (a := w ∈ bad)]

theorem bucket_eq_some {w : TableWord} {b : Nat} : TableWord.bucket? w = some b ↔ w = .head b ∨ ∃ i, w = .slot b i := by
  cases w <;> simp [TableWord.bucket?]

/-- A format ends at no bucket exactly where no word of a bucket of the geometry fails. -/
theorem failingBucket_eq_none {k : Nat} {bad : List TableWord} :
    failingBucket k bad = none ↔ ¬∃ w ∈ bad, ∃ b, (w = .head b ∨ ∃ i, w = .slot b i) ∧ b < 2 ^ k := by
  rw [failingBucket, List.min?_eq_none_iff, List.filter_eq_nil_iff]
  constructor
  · rintro clear ⟨w, member, b, word, low⟩
    exact clear b (List.mem_filterMap.2 ⟨w, member, bucket_eq_some.2 word⟩) (decide_eq_true low)
  · intro clear b member low
    obtain ⟨w, bad, word⟩ := List.mem_filterMap.1 member
    exact clear ⟨w, bad, b, bucket_eq_some.1 word, of_decide_eq_true low⟩

/-- The marker that a reuse accepts. -/
theorem reusable_damage {k u : Nat} {bad : List TableWord} {s : State} {m : Marker} :
    reusable k u (damage bad s).tab.memory = some m ↔
      TableWord.marker ∉ s.tab.memory.damaged ∧ TableWord.marker ∉ bad ∧ s.tab.memory.marker = some m ∧ m.k = k ∧ m.u = u := by
  have fails : (damage bad s).tab.memory.fails .marker = decide (TableWord.marker ∈ bad ∨ TableWord.marker ∈ s.tab.memory.damaged) :=
    decide_eq_decide.2 (mem_addWords bad _)
  have marker : (damage bad s).tab.memory.marker = s.tab.memory.marker := rfl
  rw [reusable, fails, marker]
  by_cases hit : TableWord.marker ∈ bad ∨ TableWord.marker ∈ s.tab.memory.damaged
  · rw [if_pos (decide_eq_true hit)]
    refine ⟨fun h => absurd h (Option.some_ne_none m).symm, fun ⟨whole, readable, _⟩ => ?_⟩
    exact absurd hit (not_or.2 ⟨readable, whole⟩)
  · rw [if_neg (by simpa using hit), Option.filter_eq_some_iff, decide_eq_true_iff]
    obtain ⟨readable, whole⟩ := not_or.1 hit
    exact ⟨fun h => ⟨whole, readable, h⟩, fun h => h.2.2⟩

/-! ## The checks still to be made -/

section Checks

variable {s : State} {r : SetupRun} {code : FailureCode} {bad : List TableWord}

theorem exec_tableStep (part : s.ctl.part = .settingUp) (up : s.ctl.resetActive = false) :
    exec (.tableStep bad) s = .next (endSetup bad (advanceSetup .table s)) :=
  if_pos ⟨up, part⟩

theorem endSetup_ended (ended : s.ctl.setupRun = none) : endSetup bad s = s := by rw [endSetup, ended]

theorem failSetup_run (code : FailureCode) (s : State) : (failSetup code s).ctl.setupRun = none := by
  rw [failSetup_eq]
  rfl

/-- Check 1 fails and ends the setup. -/
theorem endSetup_misplaced (run : s.ctl.setupRun = some r) (stage : r.stage = .entered) (misplaced : ¬blockOk r.base) :
    endSetup bad (advanceSetup .table s) = failSetup .placement s := by
  have first : makeFirstCheck s = failSetup .placement s := by
    rw [makeFirstCheck_cases s r run, if_pos stage, if_neg fun h => misplaced ((blockPlaced_iff _).1 h)]
  have whole : advanceSetup .table s = failSetup .placement s := by
    show makeBlockChecks (makeFirstCheck s) = _
    rw [first, makeBlockChecks_over (r := r) (.inl (failSetup_run _ _))]
  rw [whole, endSetup_ended (failSetup_run _ _)]

/-- Check 1 has passed, or passes now. -/
theorem makeFirstCheck_checking (run : s.ctl.setupRun = some r) (stage : r.stage = .entered ∨ r.stage = .checking) (placed : blockOk r.base) :
    makeFirstCheck s = setStage r .checking s := by
  rw [makeFirstCheck_cases s r run]
  rcases stage with stage | stage
  · rw [if_pos stage, if_pos ((blockPlaced_iff _).2 placed)]
  · have same : { r with stage := .checking } = r := by rw [← stage]
    rw [if_neg (by rw [stage]; decide), setStage, same, ← run]
    rfl

/-- A check past the first fails and ends the setup. -/
theorem endSetup_fails (run : s.ctl.setupRun = some r) (stage : r.stage = .entered ∨ r.stage = .checking) (placed : blockOk r.base)
    (fails : r.check = some code) : endSetup bad (advanceSetup .table s) = failSetup code (setStage r .checking s) := by
  have whole : advanceSetup .table s = failSetup code (setStage r .checking s) := by
    show makeBlockChecks (makeFirstCheck s) = _
    rw [makeFirstCheck_checking run stage placed]
    exact makeBlockChecks_fails (r := { r with stage := .checking }) rfl rfl fails
  rw [whole, endSetup_ended (failSetup_run _ _)]

/-- The checks pass. -/
theorem advanceSetup_passes (run : s.ctl.setupRun = some r) (stage : r.stage = .entered ∨ r.stage = .checking) (placed : blockOk r.base)
    (passes : r.check = none) :
    advanceSetup .table s = if r.format then beginFormat (setStage r .table s) else setStage r .table s := by
  show makeBlockChecks (makeFirstCheck s) = _
  rw [makeFirstCheck_checking run stage placed]
  exact makeBlockChecks_passes (r := { r with stage := .checking }) rfl rfl passes

theorem format_eq (r : SetupRun) : r.format = true ↔ (r.byte 2).toNat = 1 := by rw [SetupRun.format, decide_eq_true_iff, toNat_eq_one]

/-- The first check that fails, by number or by code. -/
theorem check_of_setupChecks {code : Option FailureCode} (placed : blockOk r.base) (checks : (s.ofBlock r).setupChecks r.base code) :
    r.check = code := by
  have shows_ : Shows (s.ofBlock r) r := fun _ _ => rfl
  obtain ⟨version, placement, overlap, geometry, passes⟩ := check_eq shows_
  rcases checks with ⟨h, -⟩ | ⟨-, v, rfl⟩ | ⟨-, v, p, rfl⟩ | ⟨-, v, p, o, rfl⟩ | ⟨-, v, p, o, g, rfl⟩ | ⟨-, v, p, o, g, rfl⟩
  · exact absurd placed h
  · exact version v
  · exact placement v p
  · exact overlap v p o
  · exact geometry v p o g
  · exact passes v p o g

theorem placed_of_setupChecks (checks : (s.ofBlock r).setupChecks r.base none) : blockOk r.base := by
  rcases checks with ⟨_, h⟩ | ⟨h, -⟩ | ⟨h, -⟩ | ⟨h, -⟩ | ⟨h, -⟩ | ⟨h, -⟩
  · cases h
  all_goals exact h

theorem misplaced_code {code : Option FailureCode} (misplaced : ¬blockOk r.base) (checks : (s.ofBlock r).setupChecks r.base code) :
    code = some .placement := by
  rcases checks with ⟨-, h⟩ | ⟨h, -⟩ | ⟨h, -⟩ | ⟨h, -⟩ | ⟨h, -⟩ | ⟨h, -⟩
  · exact h
  all_goals exact absurd h misplaced

end Checks

/-! ## The end of a setup -/

section End

variable {s : State} {r : SetupRun} {bad : List TableWord}

/-- Every programmed unit, the clock and the filter are as before. -/
def UnitsAsBefore (s t : State) : Prop :=
  t.lanes = s.lanes ∧ t.zones = s.zones ∧ t.monitors = s.monitors ∧ t.adm = s.adm ∧ t.gate = s.gate ∧ t.list = s.list ∧
    t.jrn = s.jrn ∧ t.cfg = s.cfg ∧ t.clk = s.clk ∧ t.tab.filter = s.tab.filter ∧ t.tab.presence = s.tab.presence

theorem failSetup_asBefore (code : FailureCode) (s : State) : UnitsAsBefore s (failSetup code s) := by
  rw [failSetup_eq]
  exact ⟨rfl, rfl, rfl, rfl, rfl, rfl, rfl, rfl, rfl, rfl, rfl⟩

theorem endSetup_table (run : s.ctl.setupRun = some r) (stage : r.stage = .table) :
    endSetup bad (advanceSetup .table s) = if r.format then formatStep r bad s else reuseStep r bad s := by
  rw [advanceSetup_table .table s r run stage, endSetup, run]

/-- What is written at the end of a setup, over the programmed units `x`. -/
def finished (r : SetupRun) (o : TableOutcome) (n : Nat) (x : State) : State :=
  (notify .setupDone (writeResult r true .none o n x)).setCtl
    { (notify .setupDone (writeResult r true .none o n x)).ctl with part := .standby, setupComplete := true, setupRun := none }

theorem completeSetup_finished (o : TableOutcome) (n : Nat) : completeSetup r o n s = finished r o n (programmedUnits r s) :=
  completeSetup_eq r o n s

theorem finished_eq (o : TableOutcome) (n : Nat) (x : State) :
    finished r o n x =
      { x with
        ctl := { (notify .setupDone x).ctl with part := .standby, setupComplete := true, setupRun := none },
        xmem := (writeResult r true .none o n x).xmem } := rfl

/-- Where setup ends: STANDBY with a valid setup and SETUP_DONE, over the programmed units. -/
theorem completeSetup_fields (o : TableOutcome) (n : Nat) {x t : State} (units : programmedUnits r s = x) (ends : completeSetup r o n s = t)
    (ctl : x.ctl = s.ctl) (xmem : x.xmem = s.xmem) :
    t = { x with ctl := t.ctl, xmem := t.xmem } ∧ t.ctl.part = .standby ∧ t.ctl.setupComplete = true ∧ t.ctl.setupRun = none ∧
      (∀ f, t.flagSet f = (s.flagSet f || decide (f = .setupDone))) ∧ t.xmem = (writeResult r true .none o n s).xmem := by
  subst ends
  rw [completeSetup_finished, units, finished_eq]
  refine ⟨rfl, rfl, rfl, rfl, fun f => ?_, ?_⟩
  · have same : x.flagSet f = s.flagSet f := by rw [State.flagSet, ctl]; rfl
    rw [← same]
    exact notify_flagSet .setupDone f x
  · show Memory.writeBytes (Memory.writeBytes (Memory.writeBytes x.xmem _ _) _ _) _ _ = _
    rw [xmem]
    rfl

/-- The result in the setup block of a setup that ends. -/
theorem completeSetup_result (o : TableOutcome) {n : Nat} {t : State} (wf : Memory.wf s.xmem) (small : n < 2 ^ 32)
    (xmem : t.xmem = (writeResult r true .none o n s).xmem) : SetupResult r.base 1 0 o.code n s t := by
  have result := writeResult_setupResult (code := .none) wf r true o n small
  unfold SetupResult State.readWord at result ⊢
  simp only [State.read_def] at result ⊢
  rw [xmem]
  exact result

end End

end Sys2Proof.Proofs.Setup

end

section
/-! PROOFS. TABLE_STEP (O41). -/

namespace Sys2Proof.Proofs.Setup

open Sys2Proof Sys2Proof.Machine Sys2Proof.Proofs.Keeping Sys2Proof.Proofs.Registers Sys2Proof.Proofs.Settings Sys2Proof.Proofs.Stopping

section Block

variable (r : SetupRun)

theorem word_eq (j : Nat) :
    (r.word j).toNat =
      (r.byte j).toNat + 256 * (r.byte (j + 1)).toNat + 65536 * ((r.byte (j + 2)).toNat + 256 * (r.byte (j + 3)).toNat) := by
  rw [SetupRun.word, Credentials.wordOf_toNat]
  omega

theorem half_eq (j : Nat) : (r.half j).toNat = (r.byte j).toNat + 256 * (r.byte (j + 1)).toNat := Bytes.halfOf_toNat _ _

theorem poll_eq : r.poll = max 1 (min 250 (r.byte 6).toNat) := clamp_eq (by decide) _

theorem chainWait_eq : r.chainWait = max 1 (r.byte 7).toNat := by
  have bound := (r.byte 7).isLt
  rw [SetupRun.chainWait, clamp_eq (by decide)]
  omega

theorem scheme_eq : r.scheme = if (r.byte 3).toNat = 1 then .mod10 else .none := by
  simp only [SetupRun.scheme, toNat_eq_one]

theorem quietLane_iff {r : SetupRun} {s : State} {i : LaneId} :
    QuietLane r s i ↔ (r.byte (0x46 + 32 * i.val)).toNat ≠ 0 ∨ (s.lane i).pins = (s.lane i).level := by
  have offset : laneSection i + 6 = 0x46 + 32 * i.val := by
    unfold laneSection
    omega
  rw [QuietLane, offset]

end Block

/-- Settles O41. -/
theorem tableStepEndsSetup : Obligations.TableStepEndsSetup := by
  unfold Obligations.TableStepEndsSetup
  intro bad s r up part run wf sound byte half word places withdrawn badBucket marked quiet asBefore setUp begun
  have words : ∀ j, (r.word j).toNat = word j := fun j => word_eq r j
  have halves : ∀ j, (r.half j).toNat = half j := fun j => half_eq r j
  have format : r.format = true ↔ byte 2 = 1 := format_eq r
  have complete : ∀ (y : State) (o : TableOutcome) (n : Nat), y.ctl = s.ctl → y.xmem = s.xmem → y.lanes = s.lanes → y.clk = s.clk →
      setUp (completeSetup r o n y) ∧ (completeSetup r o n y).xmem = (writeResult r true .none o n s).xmem := by
    intro y o n ctl xmem lanes clk
    have ready : y.ctl.part = .settingUp ∧ y.ctl.resetActive = false := by rw [ctl]; exact ⟨part, up⟩
    obtain ⟨units, free, zones, monitors, quietLanes, rawLanes, journal⟩ := programmedUnits_programmed r ready.1 ready.2
    generalize finish : completeSetup r o n y = t
    generalize isUnits : programmedUnits r y = x at units free zones monitors quietLanes rawLanes journal
    obtain ⟨whole, standby, valid, ended, flags, memory⟩ :=
      completeSetup_fields o n isUnits finish (by rw [units]) (by rw [units])
    have lane : ∀ i, y.lane i = s.lane i := fun i => by rw [State.lane, lanes]; rfl
    have quietAt : ∀ i, quiet i → QuietLane r y i := fun i h => quietLane_iff.2 (by rw [lane]; exact h)
    refine ⟨⟨standby, valid, ended, ?_, ?_, ?_, ?_, ?_, ?_, ?_, ?_, ?_, ?_, ?_, ?_, ?_, ?_, ?_, ?_⟩, ?_⟩
    · intro f
      rw [flags, State.flagSet, ctl]
      rfl
    · rw [whole, units]
      show (⟨some r.gateRing, some r.listRing, some r.journalRing, r.poll, r.chainWait⟩ : RingConfig) = _
      rw [poll_eq, chainWait_eq, SetupRun.gateRing, SetupRun.listRing, SetupRun.journalRing, words, words, words]
      rfl
    · rw [whole, units]
    · rw [whole, units]
      rfl
    · intro i
      rw [whole]
      exact free i
    · rw [whole, units]
      rfl
    · rw [whole, units]
      rfl
    · rw [whole, units]
    · rw [whole, units]
      exact clk
    · intro i h
      rw [whole, ← lane]
      exact quietLanes i (quietAt i h)
    · intro i raw
      rw [whole, ← lane, ← clk]
      have offset : laneSection i + 6 = 0x46 + 32 * i.val := by
        unfold laneSection
        omega
      exact rawLanes i (by rw [offset]; exact raw)
    · intro h
      rw [whole]
      exact journal fun i => quietAt i (h i)
    · intro z
      rw [whole]
      have second : 0x142 + 8 * z.val = 0x140 + 8 * z.val + 2 := by omega
      refine (zones z).trans ?_
      rw [SetupRun.zone, second]
      simp only [halves]
    · intro m
      have monitor := programmed_monitor r m (x.zone (r.monitor m).zone).occupancy
      rw [← monitors m] at monitor
      have zone : (x.monitor m).zone = (r.monitor m).zone := by rw [monitors]; rfl
      rw [← zone] at monitor
      rw [whole]
      exact monitor
    · intro p
      have profile : t.adm.profiles.get p = r.profile p := by
        rw [whole, units]
        exact Vector.get_ofFn _ _
      simp only [profile]
      exact ⟨words _, words _, rfl, rfl⟩
    · rw [whole, units]
      exact scheme_eq r
    · rw [memory]
      show Memory.writeBytes (Memory.writeBytes (Memory.writeBytes y.xmem _ _) _ _) _ _ = _
      rw [xmem]
      rfl
  refine ⟨fun code stage checks => ?_, fun stage checks => ?_, fun stage asked hit => ?_, fun stage reuse unmarked => ?_,
    fun stage asked clear => ?_, fun m stage reuse mark => ?_⟩
  · refine ⟨_, exec_tableStep part up, ?_⟩
    by_cases placed : blockOk r.base
    · rw [endSetup_fails run (stage.imp_right And.left) placed (check_of_setupChecks placed checks)]
      exact ⟨failSetup_failed code (setStage r .checking s), failSetup_asBefore code (setStage r .checking s), failSetup_tab _ _,
        fun _ => failSetup_result (s := setStage r .checking s) (r := { r with stage := .checking }) rfl (fun h => SetupStage.noConfusion h) wf,
        fun h => absurd placed h⟩
    · have entered : r.stage = .entered := stage.resolve_right fun h => placed h.2
      obtain rfl : code = .placement := Option.some.inj (misplaced_code placed checks)
      rw [endSetup_misplaced run entered placed]
      refine ⟨failSetup_failed _ s, failSetup_asBefore _ s, failSetup_tab _ _, fun h => absurd h placed, fun _ => ?_⟩
      exact failSetup_memory fun r' run' => by
        obtain rfl : r = r' := Option.some.inj (run.symm.trans run')
        exact entered
  · have placed := placed_of_setupChecks checks
    have early : r.stage = .entered ∨ r.stage = .checking := by
      cases h : r.stage with
      | entered => exact .inl rfl
      | checking => exact .inr rfl
      | table => exact absurd h stage
    have advanced : advanceSetup .table s = begun := by
      rw [advanceSetup_passes run early placed (check_of_setupChecks placed checks)]
      by_cases asked : byte 2 = 1
      · rw [if_pos (format.2 asked)]
        exact (congrArg (State.setTab _) (if_pos asked)).symm
      · rw [if_neg (mt format.1 asked)]
        have kept : begun = (setStage r .table s).setTab s.tab := congrArg (State.setTab _) (if_neg asked)
        exact kept.symm
    rw [exec_tableStep part up, exec_tableStep (s := begun) part up, advanced,
      advanceSetup_table .table begun { r with stage := .table } rfl rfl]
  · have ends : endSetup bad (advanceSetup .table s) = formatStep r bad s := by rw [endSetup_table run stage, if_pos (format.2 asked)]
    obtain ⟨b, failing⟩ := Option.ne_none_iff_exists'.1 (mt failingBucket_eq_none.1 (not_not.2 hit))
    have step : formatStep r bad s = failSetup .tableTest (s.setMemory (halfFormatted b s.tab.memory)) := by
      rw [formatStep, show failingBucket r.k bad = some b from failing]
    refine ⟨_, (exec_tableStep part up).trans (congrArg _ (ends.trans step)), failSetup_failed .tableTest (s.setMemory _),
      failSetup_result (s := s.setMemory _) run (by rw [stage]; decide) wf, by rw [failSetup_tab]; rfl,
      failSetup_asBefore .tableTest (s.setMemory _)⟩
  · have ends : endSetup bad (advanceSetup .table s) = reuseStep r bad s := by rw [endSetup_table run stage, if_neg (mt format.1 reuse)]
    have unusable : reusable r.k r.u (damage bad s).tab.memory = none :=
      Option.eq_none_iff_forall_ne_some.2 fun m usable => unmarked m (reusable_damage.1 usable)
    have step : reuseStep r bad s = failSetup .unformatted (damage bad s) := by
      rw [reuseStep]
      simp only [unusable]
    refine ⟨_, (exec_tableStep part up).trans (congrArg _ (ends.trans step)), failSetup_failed .unformatted (damage bad s),
      failSetup_result (s := damage bad s) run (by rw [stage]; decide) wf, failSetup_asBefore .unformatted (damage bad s), ?_⟩
    rw [failSetup_tab]
    rfl
  · have ends : endSetup bad (advanceSetup .table s) = formatStep r bad s := by rw [endSetup_table run stage, if_pos (format.2 asked)]
    have step : formatStep r bad s = completeSetup r .formatted withdrawn.length
        (s.setTab { s.tab with memory := formatted r.k r.u bad, presence := [], filter := .valid }) := by
      rw [formatStep, show failingBucket r.k bad = none from failingBucket_eq_none.2 clear]
      rfl
    have few : withdrawn.length < 2 ^ 32 := by
      have bound := (r.byte 5).isLt
      have le : withdrawn.length ≤ places.length := List.length_filter_le _ _
      have size : places.length = 1024 * (r.byte 5).toNat := List.length_range
      omega
    have tab := completeSetup_tab r .formatted withdrawn.length
      (s.setTab { s.tab with memory := formatted r.k r.u bad, presence := [], filter := .valid })
    obtain ⟨programmed, memory⟩ := complete
      (s.setTab { s.tab with memory := formatted r.k r.u bad, presence := [], filter := .valid }) .formatted withdrawn.length rfl rfl rfl rfl
    refine ⟨_, (exec_tableStep part up).trans (congrArg _ (ends.trans step)), programmed, completeSetup_result .formatted wf few memory, ?_, ?_, ?_⟩
    all_goals
      rw [tab]
      rfl
  · have ends : endSetup bad (advanceSetup .table s) = reuseStep r bad s := by rw [endSetup_table run stage, if_neg (mt format.1 reuse)]
    have usable : reusable r.k r.u (damage bad s).tab.memory = some m := reusable_damage.2 mark
    have step : reuseStep r bad s = completeSetup r .reused m.withdrawn (damage bad s) := by
      rw [reuseStep]
      simp only [usable]
    have few : m.withdrawn < 2 ^ 32 := by
      obtain ⟨-, -, isMarker, -, unit⟩ := mark
      obtain ⟨-, places, counted⟩ := sound.2 m isMarker
      have bound := (r.byte 5).isLt
      have total := places.length_eq
      have size : m.u = (r.byte 5).toNat := unit
      rw [List.length_append, List.length_append, List.length_range, size] at total
      omega
    have tab := completeSetup_tab r .reused m.withdrawn (damage bad s)
    obtain ⟨programmed, memory⟩ := complete (damage bad s) .reused m.withdrawn rfl rfl rfl rfl
    refine ⟨_, (exec_tableStep part up).trans (congrArg _ (ends.trans step)), programmed, completeSetup_result .reused wf few memory, ?_, ?_, ?_⟩
    all_goals
      rw [tab]
      rfl

end Sys2Proof.Proofs.Setup

end

section
/-! PROOFS. The LANE request (O49). -/

namespace Sys2Proof.Proofs.LaneRequest

open Sys2Proof Sys2Proof.Machine Sys2Proof.Proofs.Keeping Sys2Proof.Proofs.Requests Sys2Proof.Proofs.Setup

/-! ## The payload -/

theorem mode_isSome (b : Byte) : (BaseMode.ofCode b).isSome = true ↔ b.toNat ≤ 2 := by
  revert b
  decide

theorem mode_ofCode_code (m : BaseMode) : BaseMode.ofCode m.code = some m := by cases m <;> rfl

theorem watchMode_ofCode_code (m : WatchMode) : WatchMode.ofCode m.code = some m := by cases m <;> rfl

theorem tierOf_isSome (b : Byte) : (tierOf b).isSome = true ↔ b.toNat ≤ 3 := by
  revert b
  decide

theorem tierOf_low (b : Byte) : b.toNat ≤ 3 → tierOf b = some (BitVec.toFin (b.setWidth 2)) := by
  revert b
  decide

theorem period_isSome (b : Byte) : (Period.ofCode b).isSome = true ↔ b.toNat ≤ 3 := by
  revert b
  decide

theorem term_isSome (b : Byte) : (TermSpec.ofCode b).isSome = true ↔ b.toNat ≤ 5 := by
  revert b
  decide

theorem watchMode_isSome (b : Byte) : (WatchMode.ofCode b).isSome = true ↔ b.toNat ≤ 2 := by
  revert b
  decide

/-- Six terms read from six bytes. -/
theorem terms_ofFn (w : WatchSpec) :
    Vector.ofFn (fun i : Fin 6 =>
      [w.terms.get 0, w.terms.get 1, w.terms.get 2, w.terms.get 3, w.terms.get 4, w.terms.get 5].getD i.val .ignore) = w.terms := by
  refine Vector.ext fun i low => ?_
  rw [Vector.getElem_ofFn]
  match i, low with
  | 0, _ => rfl
  | 1, _ => rfl
  | 2, _ => rfl
  | 3, _ => rfl
  | 4, _ => rfl
  | 5, _ => rfl

/-- A watch specification from its codes. -/
theorem parseWatch_some {b : Fin 6 → Byte} {mode lock : Byte} {w : WatchSpec} (terms : ∀ t, TermSpec.ofCode (b t) = some (w.terms.get t))
    (modeIs : mode = w.mode.code) (lockIs : w.lock = true ↔ lock ≠ 0) :
    parseWatch [b 0, b 1, b 2, b 3, b 4, b 5] mode lock = some w := by
  have flag : flagOf lock = w.lock := by
    rw [Bool.eq_iff_iff, lockIs, flagOf, decide_eq_true_iff]
  unfold parseWatch
  simp only [List.map_cons, List.map_nil, terms, modeIs, watchMode_ofCode_code, flag, terms_ofFn]

theorem parseWatch_well {b : Fin 6 → Byte} {mode lock : Byte} {w : WatchSpec}
    (parsed : parseWatch [b 0, b 1, b 2, b 3, b 4, b 5] mode lock = some w) : (∀ t, (b t).toNat ≤ 5) ∧ mode.toNat ≤ 2 := by
  unfold parseWatch at parsed
  split at parsed
  · next t0 t1 t2 t3 t4 t5 m terms modeIs =>
    simp only [List.map_cons, List.map_nil, List.cons.injEq, and_true] at terms
    obtain ⟨h0, h1, h2, h3, h4, h5⟩ := terms
    have low : ∀ {c : Byte} {x : TermSpec}, TermSpec.ofCode c = some x → c.toNat ≤ 5 := fun h => (term_isSome _).1 (by rw [h]; rfl)
    refine ⟨fun t => ?_, (watchMode_isSome _).1 (by rw [modeIs]; rfl)⟩
    fin_cases t
    · exact low h0
    · exact low h1
    · exact low h2
    · exact low h3
    · exact low h4
    · exact low h5
  · cases parsed

section Parse

variable {d : Desc}

/-- The fields in range of a LANE request. -/
def WellFormed (d : Desc) : Prop :=
  d.lane.toNat < 8 ∧ (d.byte 0).toNat ≤ 2 ∧ (d.byte 1).toNat ≤ 3 ∧ (d.byte 2).toNat ≤ 3 ∧ (∀ t : Fin 6, (d.byte (8 + t.val)).toNat ≤ 5) ∧
    (d.byte 14).toNat ≤ 2

theorem parseLane_none (bad : ¬WellFormed d) : parseLane d = none := by
  unfold parseLane
  split
  · next i m t p w lane mode tier period watch =>
    obtain ⟨terms, watchMode⟩ := parseWatch_well (b := fun t => d.byte (8 + t.val)) watch
    refine absurd ⟨?_, (mode_isSome _).1 (by rw [mode]; rfl), (tierOf_isSome _).1 (by rw [tier]; rfl),
      (period_isSome _).1 (by rw [period]; rfl), terms, watchMode⟩ bad
    exact Nat.not_le.1 (mt laneOf_eq_none.2 (by rw [lane]; exact Option.some_ne_none i))
  · rfl

/-- The request that a well-formed descriptor makes, from its settings. -/
theorem parseLane_some {i : LaneId} {m : BaseMode} {p : Period} {w : WatchSpec} (lane : d.lane = BitVec.ofNat 8 i.val)
    (mode : d.byte 0 = m.code) (tier : (d.byte 1).toNat ≤ 3) (period : Period.ofCode (d.byte 2) = some p)
    (terms : ∀ t : Fin 6, TermSpec.ofCode (d.byte (8 + t.val)) = some (w.terms.get t)) (watchMode : d.byte 14 = w.mode.code)
    (lock : w.lock = true ↔ d.byte 15 ≠ 0) :
    parseLane d =
      some ⟨i, m, BitVec.toFin ((d.byte 1).setWidth 2), p, decide (d.byte 3 ≠ 0),
        max 5 (min 600 ((d.byte 4).toNat + 256 * (d.byte 5).toNat)), max 1 (min 120 ((d.byte 6).toNat + 256 * (d.byte 7).toNat)), w⟩ := by
  have holdTime : clampHold (halfAt d.payload 4).toNat = max 5 (min 600 ((d.byte 4).toNat + 256 * (d.byte 5).toNat)) := by
    rw [clampHold, clamp_eq (by decide)]
    exact congrArg (fun n => max 5 (min 600 n)) (Bytes.halfOf_toNat _ _)
  have escortTime : clampEscort (halfAt d.payload 6).toNat = max 1 (min 120 ((d.byte 6).toNat + 256 * (d.byte 7).toNat)) := by
    rw [clampEscort, clamp_eq (by decide)]
    exact congrArg (fun n => max 1 (min 120 n)) (Bytes.halfOf_toNat _ _)
  have watch : parseWatch [d.byte 8, d.byte 9, d.byte 10, d.byte 11, d.byte 12, d.byte 13] (d.byte 14) (d.byte 15) = some w :=
    parseWatch_some (b := fun t => d.byte (8 + t.val)) terms watchMode lock
  have modeIs : BaseMode.ofCode (d.byte 0) = some m := by rw [mode, mode_ofCode_code]
  unfold parseLane
  simp only [lane, laneOf_ofNat, modeIs, tierOf_low _ tier, period, watch, holdTime, escortTime, flagOf]

end Parse

/-! ## The effects -/

section Effects

variable {s : State} (f : LaneFields)

/-- The lane that a LANE request writes, from the state its mode has left. -/
def lanePut (f : LaneFields) (u : State) : Lane :=
  { u.lane f.lane with
    tier := f.tier, retrigger := f.retrigger, holdTime := f.holdTime, escortTime := f.escortTime, watch := f.watch,
    prev := u.terms f.lane, period := f.period, agree := ⟨0, 0, 0, 0⟩, sampleMs := 0 }

theorem laneEffects_eq :
    laneEffects f s =
      if f.period = .raw then
        deliverLevels f.lane (s.lane f.lane).pins
          ((changeMode f.lane f.mode .request s).setLane f.lane (lanePut f (changeMode f.lane f.mode .request s)))
      else (changeMode f.lane f.mode .request s).setLane f.lane (lanePut f (changeMode f.lane f.mode .request s)) := by
  have pins : ((changeMode f.lane f.mode .request s).lane f.lane).pins = (s.lane f.lane).pins := by
    have modes := changeMode_modesFrame f.lane f.mode .request s f.lane
    unfold ModesOnly at modes
    rw [modes]
  unfold laneEffects
  simp only
  generalize changeMode f.lane f.mode .request s = u at pins ⊢
  have terms : (u.setLane f.lane (f.settings (u.lane f.lane))).terms f.lane = u.terms f.lane := by
    unfold State.terms
    rw [State.setLane_lane_same, State.setLane_hold]
    rfl
  have written : takeTerms f.lane (u.setLane f.lane (f.settings (u.lane f.lane))) =
      u.setLane f.lane { f.settings (u.lane f.lane) with prev := u.terms f.lane } := by
    rw [takeTerms, terms, State.setLane_lane_same, State.setLane_setLane]
  rw [written, restartConditioning]
  simp only [State.setLane_lane_same, State.setLane_setLane]
  rw [← pins]
  rfl

theorem laneEffects_cfg : (laneEffects f s).cfg = s.cfg := by
  unfold laneEffects
  simp only
  rw [(restartConditioning_eventFrame f.lane f.period _).cfg]
  exact changeMode_cfg f.lane f.mode .request s

end Effects

/-- Settles O49. -/
theorem laneRequests : Obligations.LaneRequests := by
  unfold Obligations.LaneRequests
  intro s ring d took well
  have taken := gateTaken_of_took (claims := claimsAll) took rfl
  refine ⟨fun bad => ?_, ?_⟩
  · have none_parsed : parseLane d = none := parseLane_none bad
    show execLane s = _
    rw [execLane, taken]
    simp only [none_parsed]
    exact congrArg _ (returnGate_eq took.2.2.1)
  · intro i m p w lane mode tier period terms watchMode lock l u set v n opt
    have code : Period.ofCode (d.byte 2) = some p := by
      rw [period]
      cases p <;> rfl
    have termCodes : ∀ t : Fin 6, TermSpec.ofCode (d.byte (8 + t.val)) = some (w.terms.get t) := fun t => by
      rw [terms t]
      cases w.terms.get t <;> rfl
    have parsed := parseLane_some lane mode tier code termCodes watchMode lock
    generalize fields : LaneFields.mk i m _ p _ _ _ w = f at parsed
    have effects : laneEffects f s = v := by
      rw [laneEffects_eq, ← fields]
      rfl
    have defers : (if s.defers i = true then Status.deferred else .done) = if l.mode ≠ .emergency ∧ s.hold i ≠ none then .deferred else .done := by
      have waits : s.defers i = true ↔ l.mode ≠ .emergency ∧ s.hold i ≠ none := by
        rw [State.defers, Bool.and_eq_true, decide_eq_true_iff, Option.isSome_iff_ne_none]
      simp only [waits]
    have codes : ∀ x, BaseMode.optCode x = opt x := fun x => by cases x <;> rfl
    have place : f.lane = i := by rw [← fields]
    have cfg : v.cfg.gate = some ring := by rw [← effects, laneEffects_cfg]; exact took.2.2.1
    show execLane s = _
    rw [execLane, taken]
    simp only [parsed, effects, place]
    rw [returnGate_eq cfg, laneReply, defers, codes, codes]
    rfl

end Sys2Proof.Proofs.LaneRequest

end

section
/-! PROOFS. What the events of a lane leave of the journal unit and of the exchange memory (O2): records join the queue, are counted,
or are written into the journal ring. -/

namespace Sys2Proof.Proofs.Millisecond

open Sys2Proof Sys2Proof.Machine Sys2Proof.Proofs.Keeping Sys2Proof.Proofs.Bytes

/-- Two states between which only records are made, as far as the journal unit and the exchange memory go. -/
structure Recorded (s t : State) : Prop where
  cfg : t.cfg = s.cfg
  wf : Memory.wf s.xmem → Memory.wf t.xmem
  poll : t.jrn.poll = s.jrn.poll ∨ t.jrn.poll = none ∨ t.jrn.poll = some s.cfg.poll
  put : ∀ x, s.cfg.journal = some x → t.jrn.put = s.jrn.put ∨ t.jrn.put < 2 ^ x.exp
  outside : Memory.wf s.xmem → ∀ a, s.OutsideJournal a → t.read a = s.read a
  noRing : s.cfg.journal = none → t.xmem = s.xmem
  waiting : s.jrn.queue ≠ [] →
    t.xmem = s.xmem ∧ t.jrn.put = s.jrn.put ∧ t.jrn.poll = s.jrn.poll ∧ s.jrn.queue <+: t.jrn.queue ∧ s.jrn.gap ≤ t.jrn.gap

section Records

variable {s t u : State} {i : LaneId}

theorem Recorded.of_eq (cfg : t.cfg = s.cfg) (xmem : t.xmem = s.xmem) (jrn : t.jrn = s.jrn) : Recorded s t where
  cfg := cfg
  wf h := by rw [xmem]; exact h
  poll := .inl (by rw [jrn])
  put _ _ := .inl (by rw [jrn])
  outside _ _ _ := by rw [State.read_def, xmem]; rfl
  noRing _ := xmem
  waiting _ := by rw [xmem, jrn]; exact ⟨rfl, rfl, rfl, ⟨[], List.append_nil _⟩, le_refl _⟩

theorem Recorded.refl (s : State) : Recorded s s := .of_eq rfl rfl rfl

theorem Recorded.outsideJournal (a : Recorded s t) {b : Nat} (h : s.OutsideJournal b) : t.OutsideJournal b := fun x ring => by
  rw [a.cfg] at ring
  obtain ⟨region, slot⟩ := h x ring
  refine ⟨region, ?_⟩
  rcases a.put x ring with same | low
  · rw [same]
    exact slot
  · omega

theorem Recorded.trans (a : Recorded s t) (b : Recorded t u) : Recorded s u where
  cfg := b.cfg.trans a.cfg
  wf h := b.wf (a.wf h)
  poll := by
    rcases b.poll with same | none_left | loaded
    · rw [same]
      exact a.poll
    · exact .inr (.inl none_left)
    · rw [a.cfg] at loaded
      exact .inr (.inr loaded)
  put x ring := by
    rcases b.put x (by rw [a.cfg]; exact ring) with same | low
    · rw [same]
      exact a.put x ring
    · exact .inr low
  outside wf c h := (b.outside (a.wf wf) c (a.outsideJournal h)).trans (a.outside wf c h)
  noRing none_placed := (b.noRing (by rw [a.cfg]; exact none_placed)).trans (a.noRing none_placed)
  waiting some_wait := by
    obtain ⟨xmem, put, poll, queue, gap⟩ := a.waiting some_wait
    have still : t.jrn.queue ≠ [] := fun empty => by
      rw [empty] at queue
      exact some_wait (by simpa using queue)
    obtain ⟨xmem', put', poll', queue', gap'⟩ := b.waiting still
    exact ⟨xmem'.trans xmem, put'.trans put, poll'.trans poll, queue.trans queue', le_trans gap gap'⟩

theorem Recorded.foldl {α : Type} (f : State → α → State) (hf : ∀ s x, Recorded s (f s x)) (l : List α) (s : State) :
    Recorded s (l.foldl f s) := by
  induction l generalizing s with
  | nil => exact Recorded.refl s
  | cons x l ih => exact (hf s x).trans (ih (f s x))

/-! ## One record -/

/-- A record that joins an empty queue: the slot at the put position is written, or STARVED is set, or nothing can be written. -/
theorem journalExamine_single {ring : Ring} {r : Record} (cfg : s.cfg.journal = some ring) (queue : s.jrn.queue = [r]) :
    journalExamine s = s ∨ journalExamine s = journalWrite ring r [] s ∨
      journalExamine s = notify .starved (s.setJrn { s.jrn with poll := some s.cfg.poll }) := by
  by_cases running : s.ctl.part = .running
  · by_cases lent : s.read (ring.slotAddr s.jrn.put) = 1
    · rw [journalExamine_lent running cfg queue lent]
      exact .inr (.inl (journalExamine_empty rfl))
    · exact .inr (.inr (journalExamine_starved running cfg queue lent))
  · exact .inl (journalExamine_idle running)

theorem journalWrite_jrn (ring : Ring) (r : Record) (rest : List Record) (s : State) :
    (journalWrite ring r rest s).jrn = ⟨ring.next s.jrn.put, rest, 0, none⟩ := rfl

theorem journalWrite_cfg (ring : Ring) (r : Record) (rest : List Record) (s : State) : (journalWrite ring r rest s).cfg = s.cfg := rfl

theorem journalWrite_recorded {ring : Ring} (cfg : s.cfg.journal = some ring) (r : Record) (rest : List Record) {from_ : State}
    (joins : Recorded from_ s) (empty : from_.jrn.queue = []) : Recorded from_ (journalWrite ring r rest s) where
  cfg := (journalWrite_cfg ring r rest s).trans joins.cfg
  wf h := by
    rw [journalWrite_xmem]
    exact Memory.writeBytes_wf _ _ _ (Memory.writeBytes_wf _ _ _ (joins.wf h))
  poll := .inr (.inl (by rw [journalWrite_jrn]))
  put x here := by
    rw [← joins.cfg, cfg] at here
    obtain rfl : ring = x := Option.some.inj here
    rw [journalWrite_jrn]
    exact .inr (Nat.mod_lt _ (Nat.two_pow_pos _))
  outside wf a h := (journalWrite_outside r rest (joins.wf wf) (joins.outsideJournal h ring cfg).2).trans (joins.outside wf a h)
  noRing none_placed := by
    rw [← joins.cfg, cfg] at none_placed
    cases none_placed
  waiting some_wait := absurd empty some_wait

theorem starved_recorded {from_ : State} (joins : Recorded from_ s) (empty : from_.jrn.queue = []) :
    Recorded from_ (notify .starved (s.setJrn { s.jrn with poll := some s.cfg.poll })) where
  cfg := joins.cfg
  wf := joins.wf
  poll := .inr (.inr (congrArg some (congrArg RingConfig.poll joins.cfg)))
  put := joins.put
  outside := joins.outside
  noRing := joins.noRing
  waiting some_wait := absurd empty some_wait

theorem queue_recorded {j : Journal} (poll : j.poll = s.jrn.poll) (put : j.put = s.jrn.put) (queue : s.jrn.queue <+: j.queue)
    (gap : s.jrn.gap ≤ j.gap) : Recorded s (s.setJrn j) :=
  ⟨rfl, id, .inl poll, fun _ _ => .inl put, fun _ _ _ => rfl, fun _ => rfl, fun _ => ⟨rfl, put, poll, queue, gap⟩⟩

theorem emit_recorded (r : Record) (s : State) : Recorded s (emit r s) := by
  unfold emit
  split
  · have joins := queue_recorded (s := s) (j := { s.jrn with queue := s.jrn.queue ++ [r] }) rfl rfl ⟨[r], rfl⟩ (le_refl _)
    have queue : (s.setJrn { s.jrn with queue := s.jrn.queue ++ [r] }).jrn.queue = s.jrn.queue ++ [r] := rfl
    simp only
    generalize s.setJrn { s.jrn with queue := s.jrn.queue ++ [r] } = u at joins queue ⊢
    split
    · next empty =>
      rw [empty, List.nil_append] at queue
      cases placed : u.cfg.journal with
      | none =>
        rw [journalExamine_noRing placed]
        exact joins
      | some ring =>
        rcases journalExamine_single placed queue with same | written | starved
        · rw [same]
          exact joins
        · rw [written]
          exact journalWrite_recorded placed r [] joins empty
        · rw [starved]
          exact starved_recorded joins empty
    · exact joins
  · refine queue_recorded rfl rfl ⟨[], List.append_nil _⟩ ?_
    show s.jrn.gap ≤ saturate _ _
    unfold saturate
    split <;> omega

theorem emitLane_recorded (k : RecordKind) (i : LaneId) (f : RecordFlags) (d : Word) (s : State) : Recorded s (emitLane k i f d s) :=
  emit_recorded _ s

/-! ## The events of a lane -/

theorem setLane_recorded (s : State) (i : LaneId) (l : Lane) : Recorded s (s.setLane i l) := .of_eq rfl rfl rfl

theorem setHold_recorded (s : State) (i : LaneId) (h : Option Hold) : Recorded s (s.setHold i h) := .of_eq rfl rfl rfl

theorem reportTally_recorded (i : LaneId) (cause : Byte) (s : State) : Recorded s (reportTally i cause s) :=
  (setLane_recorded s i { s.lane i with tally := 0 }).trans (emitLane_recorded _ _ _ _ _)

theorem takeMode_recorded (i : LaneId) (m : LaneMode) (cause : ModeCause) (recorded : Bool) (s : State) :
    Recorded s (takeMode i m cause recorded s) := by
  have left : Recorded s (reportTallyOnLeave i m s) := by
    unfold reportTallyOnLeave
    split
    · exact reportTally_recorded i 1 s
    · exact Recorded.refl s
  have taken := left.trans (setLane_recorded _ i { (reportTallyOnLeave i m s).lane i with mode := m })
  unfold takeMode
  simp only
  split
  · exact Recorded.refl s
  · split
    · exact taken.trans (emitLane_recorded _ _ _ _ _)
    · exact taken

theorem changeMode_recorded (i : LaneId) (m : BaseMode) (c : ModeCause) (s : State) : Recorded s (changeMode i m c s) := by
  unfold changeMode
  simp only
  split
  · exact setLane_recorded s i _
  · split
    · exact setLane_recorded s i _
    · exact takeMode_recorded i _ c true s

theorem deliverLink_recorded (n : MonitorId) (link : LinkAction) (z : ZoneId) (s : State) : Recorded s (deliverLink n link z s) := by
  unfold deliverLink
  split
  · exact Recorded.refl s
  · refine Recorded.foldl _ (fun t i => ?_) laneOrder s
    split
    · exact changeMode_recorded i _ _ t
    · exact Recorded.refl t

theorem monitorEvent_recorded (n : MonitorId) (rising : Bool) (s : State) : Recorded s (monitorEvent n rising s) := by
  unfold monitorEvent
  simp only
  split
  · exact (emit_recorded _ s).trans (deliverLink_recorded _ _ _ _)
  · exact deliverLink_recorded _ _ _ s

theorem evaluateMonitor_recorded (z : ZoneId) (s : State) (n : MonitorId) : Recorded s (evaluateMonitor z s n) := by
  unfold evaluateMonitor
  simp only
  split
  · have evaluated : Recorded s (s.setMonitor n ((s.monitor n).evaluate (s.zone z).occupancy)) := .of_eq rfl rfl rfl
    split
    · exact evaluated.trans (monitorEvent_recorded n _ _)
    · exact evaluated
  · exact Recorded.refl s

theorem setOccupancy_recorded (z : ZoneId) (v : Nat) (s : State) : Recorded s (setOccupancy z v s) := by
  unfold setOccupancy
  split
  · exact Recorded.refl s
  · have stored : Recorded s (s.setZone z { s.zone z with occupancy := v }) := .of_eq rfl rfl rfl
    exact stored.trans (Recorded.foldl _ (evaluateMonitor_recorded z) monitorOrder _)

theorem movePerson_recorded (z : ZoneId) (up : Bool) (s : State) : Recorded s (movePerson z up s) := setOccupancy_recorded z _ s

theorem removeHold_recorded (i : LaneId) (recorded : Bool) (s : State) : Recorded s (removeHold i recorded s) := by
  have removed := setHold_recorded s i none
  unfold removeHold
  simp only
  split
  · exact removed
  · have applied := removed.trans (setLane_recorded _ i { (s.setHold i none).lane i with pendingMode := none })
    split
    · exact applied.trans (setLane_recorded _ i _)
    · exact applied.trans (takeMode_recorded i _ _ _ _)

theorem finishHold_recorded (i : LaneId) (h : Hold) (o : HoldOutcome) (c : Closing) (s : State) : Recorded s (finishHold i h o c s) := by
  have released : Recorded s (releaseReserved h s) := by
    unfold releaseReserved
    split
    · exact .of_eq rfl rfl rfl
    · exact Recorded.refl s
  unfold finishHold
  simp only
  split
  · exact (released.trans (emit_recorded _ _)).trans (removeHold_recorded i true _)
  · exact ((released.trans (movePerson_recorded _ _ _)).trans (emit_recorded _ _)).trans (removeHold_recorded i true _)

theorem endHold_recorded (i : LaneId) (o : HoldOutcome) (s : State) : Recorded s (endHold i o s) := by
  unfold endHold
  split
  · exact Recorded.refl s
  · next h _ =>
    have closing := setHold_recorded s i (some { h with phase := .closing o })
    simp only
    split
    · exact closing.trans (.of_eq rfl rfl rfl)
    · exact closing.trans (finishHold_recorded _ _ _ _ _)

theorem beamRise_recorded (i : LaneId) (s : State) : Recorded s (beamRise i s) := by
  unfold beamRise
  split
  · exact Recorded.refl s
  · split <;> exact setHold_recorded s i _

theorem suspendTimer_recorded (i : LaneId) (s : State) : Recorded s (suspendTimer i s) := by
  unfold suspendTimer
  split
  · exact Recorded.refl s
  · exact setHold_recorded s i _

theorem countFree_recorded (i : LaneId) (s : State) : Recorded s (countFree i s) := by
  have counted := setLane_recorded s i { s.lane i with tally := (s.lane i).tally + 1 }
  unfold countFree
  simp only
  split
  · exact counted.trans (reportTally_recorded i 0 _)
  · exact counted

theorem anonymousPassage_recorded (i : LaneId) (forward : Bool) (s : State) : Recorded s (anonymousPassage i forward s) := by
  unfold anonymousPassage
  simp only
  split
  · exact Recorded.refl s
  · split
    · split
      · exact (movePerson_recorded _ _ s).trans (countFree_recorded i _)
      · exact (movePerson_recorded _ _ s).trans (emitLane_recorded _ _ _ _ _)
    · exact (movePerson_recorded _ _ s).trans (emitLane_recorded _ _ _ _ _)

theorem completeTurn_recorded (i : LaneId) (forward : Bool) (s : State) : Recorded s (completeTurn i forward s) := by
  unfold completeTurn
  split
  · exact endHold_recorded i _ s
  · exact anonymousPassage_recorded i forward s

theorem setTracker_recorded (i : LaneId) (t : Tracker) (s : State) : Recorded s (setTracker i t s) := setLane_recorded s i _

theorem trackerStep_recorded (i : LaneId) (p : Fin 4) (up : Bool) (s : State) : Recorded s (trackerStep i p up s) := by
  unfold trackerStep
  simp only
  generalize (if up = true then (s.lane i).tracker.turn + 1 else (s.lane i).tracker.turn - 1) = turn
  split
  · split
    · exact (setTracker_recorded i _ s).trans (completeTurn_recorded i true _)
    · split
      · exact (setTracker_recorded i _ s).trans (completeTurn_recorded i false _)
      · exact setTracker_recorded i _ s
  · split
    · exact (setTracker_recorded i _ s).trans (suspendTimer_recorded i _)
    · exact setTracker_recorded i _ s

theorem trackerMove_recorded (i : LaneId) (p : Fin 4) (s : State) : Recorded s (trackerMove i p s) := by
  unfold trackerMove
  simp only
  split
  · exact Recorded.refl s
  · split
    · exact setTracker_recorded i _ s
    · split
      · exact trackerStep_recorded i p true s
      · split
        · exact trackerStep_recorded i p false s
        · exact ((setTracker_recorded i _ s).trans (emitLane_recorded _ _ _ _ _)).trans (endHold_recorded i _ _)

theorem fireRise_recorded (i : LaneId) (s : State) : Recorded s (fireRise i s) := by
  unfold fireRise
  split
  · exact Recorded.refl s
  · next m _ =>
    exact ((setLane_recorded s i { s.lane i with afterEmergency := some m }).trans (takeMode_recorded i _ _ _ _)).trans
      (endHold_recorded i _ _)

theorem fireFall_recorded (i : LaneId) (s : State) : Recorded s (fireFall i s) := by
  unfold fireFall
  split
  · exact (setLane_recorded s i { s.lane i with afterEmergency := none }).trans (takeMode_recorded i _ _ _ _)
  · exact Recorded.refl s

theorem takeTerms_recorded (i : LaneId) (s : State) : Recorded s (takeTerms i s) := setLane_recorded s i _

theorem watchEvent_recorded (i : LaneId) (s : State) : Recorded s (watchEvent i s) := by
  unfold watchEvent reachAlert
  simp only
  split
  · split
    · exact takeTerms_recorded i s
    · split
      · exact ((takeTerms_recorded i s).trans (setLane_recorded _ i _)).trans (emitLane_recorded _ _ _ _ _)
      · exact (takeTerms_recorded i s).trans (setLane_recorded _ i _)
  · exact takeTerms_recorded i s

theorem levelsChange_recorded (i : LaneId) (new : Levels) (s : State) : Recorded s (levelsChange i new s) := by
  have changed := setLane_recorded s i { s.lane i with level := new }
  unfold levelsChange
  simp only
  refine Recorded.trans (t := _) ?_ (watchEvent_recorded i _)
  have seen : Recorded s (if (new.beam && !(s.lane i).level.beam) = true then beamRise i (s.setLane i { s.lane i with level := new })
      else s.setLane i { s.lane i with level := new }) := by
    split
    · exact changed.trans (beamRise_recorded i _)
    · exact changed
  generalize (if (new.beam && !(s.lane i).level.beam) = true then beamRise i (s.setLane i { s.lane i with level := new })
      else s.setLane i { s.lane i with level := new }) = w at seen ⊢
  have moved : Recorded s (if (w.lane i).enabled = true ∧
      ((s.lane i).level.armA ≠ new.armA ∨ (s.lane i).level.armB ≠ new.armB) then trackerMove i (armPosition new) w else w) := by
    split
    · exact seen.trans (trackerMove_recorded i _ _)
    · exact seen
  split
  · exact moved.trans (fireRise_recorded i _)
  · split
    · exact moved.trans (fireFall_recorded i _)
    · exact moved

theorem deliverLevels_recorded (i : LaneId) (new : Levels) (s : State) : Recorded s (deliverLevels i new s) := by
  unfold deliverLevels
  split
  · exact Recorded.refl s
  · exact levelsChange_recorded i new s

/-! ## One millisecond of the lanes -/

theorem tickLane_recorded (s : State) (i : LaneId) : Recorded s (tickLane s i) := by
  have hold : Recorded s (tickHold i s) := by
    unfold tickHold
    split
    · exact Recorded.refl s
    · split
      · next h _ _ _ =>
        unfold lapse
        simp only
        have ended := (setHold_recorded s i (some { h with remaining := 0, ms := 0 })).trans (endHold_recorded i .lapsed _)
        split
        · exact ended.trans (watchEvent_recorded i _)
        · exact ended
      · exact setHold_recorded s i _
  have token : ∀ t, Recorded t (tickToken i t) := fun t => by
    unfold tickToken
    split
    · exact Recorded.refl t
    · exact setLane_recorded t i _
  have sample : ∀ t, Recorded t (tickSample i t) := fun t => by
    unfold tickSample
    split
    · exact Recorded.refl t
    · split
      · exact (setLane_recorded t i _).trans (deliverLevels_recorded i _ _)
      · exact setLane_recorded t i _
  exact (hold.trans (token _)).trans (sample _)

end Records

end Sys2Proof.Proofs.Millisecond

end

section
/-! PROOFS. One millisecond at one lane (O2): its sample, its release timer and its escort token. -/

namespace Sys2Proof.Proofs.Millisecond

open Sys2Proof Sys2Proof.Machine Sys2Proof.Proofs.Keeping Sys2Proof.Proofs.Events Sys2Proof.Proofs.Endings

/-! ## The hold of a lane whose levels change -/

section Settled

variable {s t u : State} {i : LaneId}

/-- Where lane `i` has no STANDING hold, what it has stays. -/
def Settled (i : LaneId) (s t : State) : Prop := s.standingHold i = none → t.hold i = s.hold i

theorem Settled.refl (i : LaneId) (s : State) : Settled i s s := fun _ => rfl

theorem Settled.trans (a : Settled i s t) (b : Settled i t u) : Settled i s u := fun h => by
  have same := a h
  exact (b (by rw [State.standingHold, same]; exact h)).trans same

theorem Settled.of_unit (f : UnitFrame s t) : Settled i s t := fun _ => congrArg (fun v => v.get i) f.holds

theorem endHold_settled (i : LaneId) (o : HoldOutcome) (s : State) : Settled i s (endHold i o s) := fun h => by rw [endHold, h]

theorem completeTurn_settled (i : LaneId) (forward : Bool) (s : State) : Settled i s (completeTurn i forward s) := fun h => by
  rw [completeTurn, h, if_neg (by simp)]
  exact Settled.of_unit (anonymousPassage_frame i forward s) h

theorem setTracker_settled (i : LaneId) (t : Tracker) (s : State) : Settled i s (setTracker i t s) := fun _ => rfl

theorem trackerStep_settled (i : LaneId) (p : Fin 4) (up : Bool) (s : State) : Settled i s (trackerStep i p up s) := by
  have suspend : ∀ t, Settled i t (suspendTimer i t) := fun t h => by rw [suspendTimer, h]
  unfold trackerStep
  simp only
  generalize (if up = true then (s.lane i).tracker.turn + 1 else (s.lane i).tracker.turn - 1) = turn
  split
  · split
    · exact (setTracker_settled i _ s).trans (completeTurn_settled i true _)
    · split
      · exact (setTracker_settled i _ s).trans (completeTurn_settled i false _)
      · exact setTracker_settled i _ s
  · split
    · exact (setTracker_settled i _ s).trans (suspend _)
    · exact setTracker_settled i _ s

theorem trackerMove_settled (i : LaneId) (p : Fin 4) (s : State) : Settled i s (trackerMove i p s) := by
  unfold trackerMove
  simp only
  split
  · exact Settled.refl i s
  · split
    · exact setTracker_settled i _ s
    · split
      · exact trackerStep_settled i p true s
      · split
        · exact trackerStep_settled i p false s
        · exact ((setTracker_settled i _ s).trans (.of_unit (emitLane_frame _ _ _ _ _).unit)).trans (endHold_settled i _ _)

theorem fireArrives_settled (i : LaneId) (was now : Bool) (s : State) : Settled i s (s.fireArrives i was now) := by
  have rise : Settled i s (fireRise i s) := by
    unfold fireRise
    split
    · exact Settled.refl i s
    · next m _ =>
      exact ((Settled.of_unit (setLane_frame s i { s.lane i with afterEmergency := some m })).trans
        (.of_unit (takeMode_frame _ _ _ _ _))).trans (endHold_settled i _ _)
  cases was <;> cases now
  · rw [fireArrives_idle]; exact Settled.refl i s
  · rw [← fireRise_fireArrives]; exact rise
  · rw [← fireFall_fireArrives]; exact .of_unit (fireFall_frame i s)
  · rw [fireArrives_idle]; exact Settled.refl i s

theorem eventEnds_settled (i : LaneId) (was now : Levels) (s : State) : Settled i s (s.eventEnds i was now) :=
  (fireArrives_settled i was.fire now.fire s).trans (.of_unit (watchEvent_frame i _))

/-- Levels that change leave a hold that does not stand as it was. -/
theorem deliverLevels_settled (i : LaneId) (new : Levels) (s : State) : Settled i s (deliverLevels i new s) := by
  unfold deliverLevels
  split
  · exact Settled.refl i s
  · rw [levelsChange_eventEnds]
    have changed : Settled i s (s.setLane i { s.lane i with level := new }) := fun _ => rfl
    have seen : ∀ t, Settled i t (t.beamArrives i (s.lane i).level.beam new.beam) := fun t h => by
      rw [beamArrives_none i _ _ t fun x hold standing => ?_]
      rw [standingHold_eq_some_iff.2 ⟨hold, standing⟩] at h
      cases h
    simp only
    split
    · exact ((changed.trans (seen _)).trans (trackerMove_settled i _ _)).trans (eventEnds_settled i _ _ _)
    · exact (changed.trans (seen _)).trans (eventEnds_settled i _ _ _)

/-- Of a change of BEAM alone the hold sees only the rise. -/
theorem deliverLevels_beam {new : Levels} (only : new = { (s.lane i).level with beam := new.beam }) :
    (deliverLevels i new s).hold i =
      if (s.lane i).level.beam = false ∧ new.beam = true then
        (s.hold i).map (fun h => if h.phase = .standing then h.beamArrives (s.lane i).retrigger else h)
      else s.hold i := by
  have arms : ¬((s.lane i).enabled = true ∧ ((s.lane i).level.armA ≠ new.armA ∨ (s.lane i).level.armB ≠ new.armB)) := by
    rw [only]
    simp
  have fire : new.fire = (s.lane i).level.fire := by rw [only]
  unfold deliverLevels
  split
  · next same => rw [if_neg (by rw [same]; cases new.beam <;> decide)]
  · rw [levelsChange_eventEnds]
    simp only
    rw [if_neg arms, State.eventEnds, fire, fireArrives_idle, watchEvent_hold]
    split
    · next rise =>
      unfold State.beamArrives
      simp only [State.setLane_hold]
      cases hold : s.hold i with
      | none => exact hold
      | some h =>
        simp only [Option.map_some]
        by_cases standing : h.phase = .standing
        · rw [if_pos ⟨rise.1, rise.2, standing⟩, if_pos standing, State.setHold_hold, if_pos rfl, State.setLane_lane_same]
        · rw [if_neg (fun k => standing k.2.2), if_neg standing]
          exact hold
    · next still =>
      rw [beamArrives_idle _ _ _ _ still]
      rfl

end Settled

/-! ## The inputs of a lane -/

section Inputs

variable {s t : State} {i : LaneId} {l l' l'' : Lane}

/-- A lane is as before but for its modes and tally, its previous terms and its alert. -/
def InputsKept (l l' : Lane) : Prop :=
  l' = { l with
    mode := l'.mode, pendingMode := l'.pendingMode, afterEmergency := l'.afterEmergency, tally := l'.tally, prev := l'.prev,
    alert := l'.alert, overrun := l'.overrun }

theorem InputsKept.of_modes (h : ModesOnly l l') : InputsKept l l' := by
  unfold ModesOnly at h
  unfold InputsKept
  rw [h]

theorem InputsKept.of_watch (h : WatchLane l l') : InputsKept l l' := by
  unfold WatchLane at h
  unfold InputsKept
  rw [h]

theorem InputsKept.trans (a : InputsKept l l') (b : InputsKept l' l'') : InputsKept l l'' := by
  unfold InputsKept at a b ⊢
  rw [b, a]

/-- Between two states lies what a millisecond does at lane `i`: nothing else of another lane than its modes and tally. -/
structure AtLane (i : LaneId) (s t : State) : Prop where
  frame : EventFrame i s t
  others : ∀ j, j ≠ i → ModesOnly (s.lane j) (t.lane j)

theorem AtLane.trans {u : State} (a : AtLane i s t) (b : AtLane i t u) : AtLane i s u :=
  ⟨a.frame.trans b.frame, fun j other => (a.others j other).trans (b.others j other)⟩

theorem AtLane.refl (i : LaneId) (s : State) : AtLane i s s := ⟨EventFrame.refl i s, fun _ _ => ModesOnly.refl _⟩

theorem setHold_atLane (s : State) (i : LaneId) (h : Option Hold) : AtLane i s (s.setHold i h) :=
  ⟨setHold_eventFrame s i h, fun _ _ => ModesOnly.refl _⟩

theorem setLane_atLane (s : State) (i : LaneId) (l : Lane) : AtLane i s (s.setLane i l) :=
  ⟨setLane_eventFrame s i i l, fun _ other => by rw [State.setLane_lane_other _ _ _ _ other]; exact ModesOnly.refl _⟩

/-! ## The release timer -/

theorem lapse_atLane (i : LaneId) (h : Hold) (s : State) : AtLane i s (lapse i h s) ∧ InputsKept (s.lane i) ((lapse i h s).lane i) := by
  have modes : ModesFrame s (endHold i .lapsed (s.setHold i (some { h with remaining := 0, ms := 0 }))) :=
    endHold_modesFrame i .lapsed (s.setHold i (some { h with remaining := 0, ms := 0 }))
  have ended : AtLane i s (endHold i .lapsed (s.setHold i (some { h with remaining := 0, ms := 0 }))) :=
    ⟨(setHold_eventFrame s i _).trans (endHold_eventFrame i _ _), fun j _ => modes j⟩
  unfold lapse
  simp only
  split
  · have watch := watchEvent_laneFrame i (endHold i .lapsed (s.setHold i (some { h with remaining := 0, ms := 0 })))
    refine ⟨ended.trans ⟨.of_unit watch.unit i, fun j other => ?_⟩, (InputsKept.of_modes (modes i)).trans (.of_watch (watchEvent_watchLane i _))⟩
    rw [watch.others j other]
    exact ModesOnly.refl _
  · exact ⟨ended, .of_modes (modes i)⟩

theorem tickHold_none (off : s.countingHold i = none) : tickHold i s = s := by rw [tickHold, off]

theorem tickHold_some {h : Hold} (on : s.countingHold i = some h) :
    tickHold i s =
      match countedMs ⟨h.remaining, h.ms⟩ 100 with
      | none => lapse i h s
      | some c => s.setHold i (some { h with remaining := c.units, ms := c.ms }) := by
  have unit : Config.unitMs = 100 := rfl
  rw [tickHold, on, countedMs_pass, ← unit] <;> rfl

theorem tickHold_atLane (i : LaneId) (s : State) : AtLane i s (tickHold i s) ∧ InputsKept (s.lane i) ((tickHold i s).lane i) := by
  cases on : s.countingHold i with
  | none =>
    rw [tickHold_none on]
    exact ⟨AtLane.refl i s, rfl⟩
  | some h =>
    rw [tickHold_some on]
    split
    · exact lapse_atLane i h s
    · exact ⟨setHold_atLane s i _, rfl⟩

theorem countingHold_eq (up : s.ctl.resetActive = false) :
    s.countingHold i = if s.ctl.part = .running ∧ (s.lane i).tracker.state = .rest then s.standingHold i else none := by
  have port : s.portUp = true ↔ s.ctl.part = .running := by
    rw [State.portUp, up, Bool.not_false, Bool.and_true, Requests.running_eq_true]
  simp only [State.countingHold, port]

/-- A release timer that runs out, where the hold waits at the table port. -/
theorem lapse_asking {h : Hold} (standing : h.phase = .standing) (asks : h.needsClosing .lapsed = true) :
    (lapse i h s).hold i = some { h with remaining := 0, ms := 0, phase := .closing .lapsed } := by
  have ended := endHold_standing (i := i) (o := .lapsed) (s := s.setHold i (some { h with remaining := 0, ms := 0 }))
    (h := { h with remaining := 0, ms := 0 }) (by rw [State.setHold_hold, if_pos rfl]) standing
  rw [if_pos (show Hold.needsClosing { h with remaining := 0, ms := 0 } .lapsed = true from asks)] at ended
  have held : (endHold i .lapsed (s.setHold i (some { h with remaining := 0, ms := 0 }))).hold i =
      some { h with remaining := 0, ms := 0, phase := .closing .lapsed } := by
    rw [ended, State.setTab_hold, State.setHold_hold, if_pos rfl]
  unfold lapse
  simp only
  rw [if_neg (by rw [held]; simp)]
  exact held

/-- A release timer that runs out, where the hold asks for no operation. -/
theorem lapse_plain {h : Hold} (standing : h.phase = .standing) (plain : ¬h.needsClosing .lapsed = true) : (lapse i h s).hold i = none := by
  have ended := endHold_standing (i := i) (o := .lapsed) (s := s.setHold i (some { h with remaining := 0, ms := 0 }))
    (h := { h with remaining := 0, ms := 0 }) (by rw [State.setHold_hold, if_pos rfl]) standing
  rw [if_neg (show ¬Hold.needsClosing { h with remaining := 0, ms := 0 } .lapsed = true from plain)] at ended
  have gone : (endHold i .lapsed (s.setHold i (some { h with remaining := 0, ms := 0 }))).hold i = none := by
    rw [ended]
    exact finishHold_hold _ _ _ _ _
  unfold lapse
  simp only
  rw [if_pos (by rw [gone]; rfl), watchEvent_hold]
  exact gone

/-! ## The token and the sample -/

theorem tickToken_eq (i : LaneId) (s : State) :
    tickToken i s = s.setLane i { s.lane i with token := (s.lane i).token.bind (fun c => countedMs c 1000) } := by
  have second : Config.secondMs = 1000 := rfl
  unfold tickToken
  split
  · next token =>
    have same : { s.lane i with token := (s.lane i).token.bind (fun c => countedMs c 1000) } = s.lane i := by
      rw [token, Option.bind_none, ← token]
    rw [same, setLane_self]
  · next c token => rw [token, Option.bind_some, countedMs_pass, second]

end Inputs

end Sys2Proof.Proofs.Millisecond

end

section
/-! PROOFS. One millisecond at every lane (O2). -/

namespace Sys2Proof.Proofs.Millisecond

open Sys2Proof Sys2Proof.Machine Sys2Proof.Proofs.Keeping Sys2Proof.Proofs.Events Sys2Proof.Proofs.Endings

section Sample

variable {s : State} {i : LaneId}

/-- The milliseconds of a sample period, 0 for RAW. -/
def periodMs : Period → Nat
  | .raw => 0
  | .ms1 => 1
  | .ms4 => 4
  | .ms16 => 16

theorem period_length {p : Period} (period : p ≠ .raw) : p.length = some (periodMs p) := by
  cases p with
  | raw => exact absurd rfl period
  | ms1 => rfl
  | ms4 => rfl
  | ms16 => rfl

theorem tickSample_raw (raw : (s.lane i).period = .raw) : tickSample i s = s := by
  rw [tickSample, raw]
  rfl

theorem tickSample_between (period : (s.lane i).period ≠ .raw) (early : (s.lane i).sampleMs + 1 < periodMs (s.lane i).period) :
    tickSample i s = s.setLane i { s.lane i with sampleMs := (s.lane i).sampleMs + 1 } := by
  rw [tickSample, period_length period]
  exact if_neg (Nat.not_le.2 early)

theorem tickSample_due (period : (s.lane i).period ≠ .raw) (due : periodMs (s.lane i).period ≤ (s.lane i).sampleMs + 1) :
    tickSample i s =
      deliverLevels i (sampledLevel (s.lane i))
        (s.setLane i { s.lane i with pins := (s.lane i).pins, agree := sampledAgree (s.lane i), sampleMs := 0 }) := by
  rw [tickSample, period_length period]
  exact (if_pos due).trans (takeSample_eq i s)

/-- What a millisecond of sampling leaves of the inputs of a lane. -/
structure SampleTaken (l n : Lane) : Prop where
  token : n.token = l.token
  raw : l.period = .raw → n.level = l.level ∧ n.agree = l.agree ∧ n.sampleMs = l.sampleMs
  between : l.period ≠ .raw → l.sampleMs + 1 < periodMs l.period → n.level = l.level ∧ n.agree = l.agree ∧ n.sampleMs = l.sampleMs + 1
  due : l.period ≠ .raw → periodMs l.period ≤ l.sampleMs + 1 →
    n.sampleMs = 0 ∧ Conditioned l.level.armA l.agree.armA l.pins.armA n.level.armA n.agree.armA ∧
      Conditioned l.level.armB l.agree.armB l.pins.armB n.level.armB n.agree.armB ∧
      Conditioned l.level.beam l.agree.beam l.pins.beam n.level.beam n.agree.beam ∧
      Conditioned l.level.fire l.agree.fire l.pins.fire n.level.fire n.agree.fire

/-- A hold as the levels that a sample brings leave it. -/
structure SampleHeld (i : LaneId) (s t : State) : Prop where
  settled : Settled i s t
  still : (t.lane i).level = (s.lane i).level → t.hold i = s.hold i
  beam : (t.lane i).level = { (s.lane i).level with beam := (t.lane i).level.beam } →
    t.hold i =
      if (s.lane i).level.beam = false ∧ (t.lane i).level.beam = true then
        (s.hold i).map (fun h => if h.phase = .standing then h.beamArrives (s.lane i).retrigger else h)
      else s.hold i

theorem SampleHeld.of_still {t : State} (hold : t.hold i = s.hold i) (level : (t.lane i).level = (s.lane i).level) : SampleHeld i s t :=
  ⟨fun _ => hold, fun _ => hold, fun _ => by rw [if_neg (by rw [level]; cases (s.lane i).level.beam <;> decide), hold]⟩

theorem tickSample_lane (i : LaneId) (s : State) :
    AtLane i s (tickSample i s) ∧ SampleTaken (s.lane i) ((tickSample i s).lane i) ∧ SampleHeld i s (tickSample i s) := by
  by_cases raw : (s.lane i).period = .raw
  · rw [tickSample_raw raw]
    exact ⟨AtLane.refl i s, ⟨rfl, fun _ => ⟨rfl, rfl, rfl⟩, fun h => absurd raw h, fun h => absurd raw h⟩, .of_still rfl rfl⟩
  · rcases Nat.lt_or_ge ((s.lane i).sampleMs + 1) (periodMs (s.lane i).period) with early | due
    · rw [tickSample_between raw early]
      refine ⟨setLane_atLane s i _, ?_, .of_still rfl (by rw [State.setLane_lane_same])⟩
      rw [State.setLane_lane_same]
      exact ⟨rfl, fun h => absurd h raw, fun _ _ => ⟨rfl, rfl, rfl⟩, fun _ due => absurd early (Nat.not_lt.2 due)⟩
    · rw [tickSample_due raw due]
      obtain ⟨pins, level, agree, ms, quiet, lane, others, frame⟩ :=
        deliverLevels_inputs i (sampledLevel (s.lane i)) (s.lane i).pins (sampledAgree (s.lane i)) 0 s
      have written : Settled i s
          (s.setLane i { s.lane i with pins := (s.lane i).pins, agree := sampledAgree (s.lane i), sampleMs := 0 }) := fun _ => rfl
      have settled := written.trans (deliverLevels_settled i (sampledLevel (s.lane i)) _)
      have beam := deliverLevels_beam (i := i) (new := sampledLevel (s.lane i))
        (s := s.setLane i { s.lane i with pins := (s.lane i).pins, agree := sampledAgree (s.lane i), sampleMs := 0 })
      rw [State.setLane_lane_same] at beam
      generalize deliverLevels i (sampledLevel (s.lane i))
        (s.setLane i { s.lane i with pins := (s.lane i).pins, agree := sampledAgree (s.lane i), sampleMs := 0 }) = t at *
      refine ⟨⟨frame, others⟩, ⟨by rw [lane], fun h => absurd h raw, fun _ early => absurd early (Nat.not_lt.2 due), fun _ _ => ?_⟩,
        settled, fun same => ?_, fun only => ?_⟩
      · rw [level, agree]
        exact ⟨ms, conditionInput_conditioned _ _ _, conditionInput_conditioned _ _ _, conditionInput_conditioned _ _ _,
          conditionInput_conditioned _ _ _⟩
      · rw [quiet (level.symm.trans same)]
        rfl
      · rw [level] at only ⊢
        exact beam only

end Sample

/-! ## One lane -/

section Lane

variable {s t : State} {i : LaneId}

/-- What a millisecond does at lane `i`, whose release timer counts where `h` is given. -/
structure LaneTicked (i : LaneId) (s t : State) : Prop where
  inputs : SampleTaken { s.lane i with token := (s.lane i).token.bind (fun c => countedMs c 1000) } (t.lane i)
  counted : ∀ h, s.countingHold i = some h → ∀ c, countedMs ⟨h.remaining, h.ms⟩ 100 = some c →
    (t.lane i).level = { (s.lane i).level with beam := (t.lane i).level.beam } →
      t.hold i =
        some (if (s.lane i).level.beam = false ∧ (t.lane i).level.beam = true then
          Hold.beamArrives (s.lane i).retrigger { h with remaining := c.units, ms := c.ms }
        else { h with remaining := c.units, ms := c.ms })
  lapsed : ∀ h, s.countingHold i = some h → countedMs ⟨h.remaining, h.ms⟩ 100 = none →
    (h.needsClosing .lapsed = true → t.hold i = some { h with remaining := 0, ms := 0, phase := .closing .lapsed }) ∧
      (¬h.needsClosing .lapsed = true → t.hold i = none)
  settled : Settled i s t
  still : (t.lane i).level = (s.lane i).level → s.countingHold i = none → t.hold i = s.hold i

theorem countingHold_standing {h : Hold} (on : s.countingHold i = some h) : s.standingHold i = some h := by
  unfold State.countingHold at on
  split at on
  · exact on
  · cases on

theorem tickLane_ticked (i : LaneId) (s : State) : AtLane i s (tickLane s i) ∧ LaneTicked i s (tickLane s i) := by
  obtain ⟨held, kept⟩ := tickHold_atLane i s
  have token := tickToken_eq i (tickHold i s)
  have spent : AtLane i (tickHold i s) (tickToken i (tickHold i s)) := by
    rw [token]
    exact setLane_atLane _ i _
  have hold : (tickToken i (tickHold i s)).hold i = (tickHold i s).hold i := by
    rw [token]
    rfl
  have lane : InputsKept { s.lane i with token := (s.lane i).token.bind (fun c => countedMs c 1000) }
      ((tickToken i (tickHold i s)).lane i) := by
    rw [token, State.setLane_lane_same]
    unfold InputsKept at kept ⊢
    rw [kept]
  obtain ⟨sampled, taken, beam⟩ := tickSample_lane i (tickToken i (tickHold i s))
  have whole : tickLane s i = tickSample i (tickToken i (tickHold i s)) := rfl
  rw [whole]
  generalize tickSample i (tickToken i (tickHold i s)) = t at *
  generalize tickToken i (tickHold i s) = m at *
  have level : (m.lane i).level = (s.lane i).level := by rw [lane]
  have retrigger : (m.lane i).retrigger = (s.lane i).retrigger := by rw [lane]
  refine ⟨(held.trans spent).trans sampled, ?_, fun h on c counts only => ?_, fun h on ends => ?_, fun none_stands => ?_,
    fun same off => ?_⟩
  · obtain ⟨tokenIs, raw, between, due⟩ := taken
    rw [lane] at tokenIs raw between due
    exact ⟨tokenIs, raw, between, due⟩
  · have standing := (standingHold_eq_some_iff.1 (countingHold_standing on)).2
    have counting : m.hold i = some { h with remaining := c.units, ms := c.ms } := by
      rw [hold, tickHold_some on, counts]
      simp only [State.setHold_hold, if_true]
    rw [beam.beam (by rw [level]; exact only), level, retrigger, counting, Option.map_some]
    rw [if_pos (show Hold.phase { h with remaining := c.units, ms := c.ms } = .standing from standing)]
    split <;> rfl
  · have standing := (standingHold_eq_some_iff.1 (countingHold_standing on)).2
    have lapsed : m.hold i = (lapse i h s).hold i := by rw [hold, tickHold_some on, ends]
    refine ⟨fun asks => ?_, fun plain => ?_⟩
    · have closing := lapsed.trans (lapse_asking standing asks)
      rw [beam.settled (by rw [State.standingHold, closing]; rfl), closing]
    · have gone := lapsed.trans (lapse_plain standing plain)
      rw [beam.settled (by rw [State.standingHold, gone]; rfl), gone]
  · have off : s.countingHold i = none := by
      cases on : s.countingHold i with
      | none => rfl
      | some h => rw [countingHold_standing on] at none_stands; cases none_stands
    have same : m.hold i = s.hold i := by rw [hold, tickHold_none off]
    rw [beam.settled (by rw [State.standingHold, same]; exact none_stands), same]
  · rw [beam.still (same.trans level.symm), hold, tickHold_none off]

end Lane

/-! ## Every lane -/

section Lanes

variable {s t : State}

/-- Between the states lies what a millisecond does at some lanes. -/
structure LanesTicked (s t : State) : Prop where
  ctl : t.ctl = { s.ctl with notice := t.ctl.notice }
  clk : t.clk = s.clk
  cfg : t.cfg = s.cfg
  gate : t.gate = s.gate
  list : t.list = s.list
  pending : t.pending = s.pending
  recorded : Recorded s t

theorem LanesTicked.refl (s : State) : LanesTicked s s := ⟨rfl, rfl, rfl, rfl, rfl, rfl, Recorded.refl s⟩

theorem tickLane_lanesTicked (s : State) (i : LaneId) : LanesTicked s (tickLane s i) :=
  have f := (tickLane_ticked i s).1.frame
  ⟨f.ctl, f.clk, f.cfg, f.gate, f.list, f.pending, tickLane_recorded s i⟩

theorem LanesTicked.trans {u : State} (a : LanesTicked s t) (b : LanesTicked t u) : LanesTicked s u where
  ctl := by rw [b.ctl, a.ctl]
  clk := b.clk.trans a.clk
  cfg := b.cfg.trans a.cfg
  gate := b.gate.trans a.gate
  list := b.list.trans a.list
  pending := b.pending.trans a.pending
  recorded := a.recorded.trans b.recorded

/-- A lane and its hold are as before but for the lane's modes and tally. -/
def HeldAlike (i : LaneId) (s t : State) : Prop := ModesOnly (s.lane i) (t.lane i) ∧ t.hold i = s.hold i

theorem HeldAlike.trans {i : LaneId} {u : State} (a : HeldAlike i s t) (b : HeldAlike i t u) : HeldAlike i s u :=
  ⟨a.1.trans b.1, b.2.trans a.2⟩

theorem tickLane_heldAlike {i j : LaneId} (other : j ≠ i) (s : State) : HeldAlike j s (tickLane s i) :=
  have at_ := (tickLane_ticked i s).1
  ⟨at_.others j other, at_.frame.hold j other⟩

/-- The millisecond of some lanes, and the state in which that of each of them falls. -/
theorem tickLanes_lanes (l : List LaneId) (distinct : l.Nodup) (s : State) :
    let t := l.foldl tickLane s
    LanesTicked s t ∧ (∀ j, j ∉ l → HeldAlike j s t) ∧
      ∀ j, j ∈ l → ∃ w, LanesTicked s w ∧ HeldAlike j s w ∧ HeldAlike j (tickLane w j) t := by
  induction l generalizing s with
  | nil => exact ⟨LanesTicked.refl s, fun _ _ => ⟨ModesOnly.refl _, rfl⟩, fun _ member => absurd member List.not_mem_nil⟩
  | cons i l ih =>
    obtain ⟨apart, distinct⟩ := List.nodup_cons.1 distinct
    obtain ⟨rest, outside, inside⟩ := ih distinct (tickLane s i)
    have first := tickLane_lanesTicked s i
    refine ⟨first.trans rest, fun j out => ?_, fun j member => ?_⟩
    · obtain ⟨other, out⟩ := not_or.1 (mt List.mem_cons.2 out)
      exact (tickLane_heldAlike other s).trans (outside j out)
    · rcases List.mem_cons.1 member with rfl | member
      · exact ⟨s, LanesTicked.refl s, ⟨ModesOnly.refl _, rfl⟩, outside j apart⟩
      · obtain ⟨w, ticked, alike, ends⟩ := inside j member
        have other : j ≠ i := fun e => apart (e ▸ member)
        exact ⟨w, first.trans ticked, (tickLane_heldAlike other s).trans alike, ends⟩

/-- The millisecond of a lane, its modes and tally apart. -/
theorem tickLanes_ticked (i : LaneId) (up : s.ctl.resetActive = false) : LaneTicked i s (laneOrder.foldl tickLane s) := by
  obtain ⟨-, -, inside⟩ := tickLanes_lanes laneOrder nodup_laneOrder s
  obtain ⟨w, before, ⟨laneBefore, holdBefore⟩, laneAfter, holdAfter⟩ := inside i (mem_laneOrder i)
  obtain ⟨-, inputs, counted, lapsed, settled, still⟩ := tickLane_ticked i w
  have counting : w.countingHold i = s.countingHold i := by
    have reset : w.ctl.resetActive = false := by rw [before.ctl]; exact up
    have part : w.ctl.part = s.ctl.part := by rw [before.ctl]
    have tracker : (w.lane i).tracker = (s.lane i).tracker := by rw [laneBefore]
    rw [countingHold_eq reset, countingHold_eq up, part, tracker, State.standingHold, holdBefore]
    rfl
  generalize laneOrder.foldl tickLane s = t at *
  generalize tickLane w i = x at *
  have level : (t.lane i).level = (x.lane i).level := by rw [laneAfter]
  have levelBefore : (w.lane i).level = (s.lane i).level := by rw [laneBefore]
  have retrigger : (w.lane i).retrigger = (s.lane i).retrigger := by rw [laneBefore]
  rw [counting, levelBefore, retrigger] at counted
  rw [counting] at lapsed
  rw [counting, levelBefore] at still
  refine ⟨?_, ?_, ?_, ?_, ?_⟩
  · obtain ⟨token, raw, between, due⟩ := inputs
    rw [laneBefore] at token raw between due
    refine ⟨?_, ?_, ?_, ?_⟩
    · rw [laneAfter]; exact token
    · rw [laneAfter]; exact raw
    · rw [laneAfter]; exact between
    · rw [laneAfter]; exact due
  · rw [level, holdAfter]
    exact counted
  · rw [holdAfter]
    exact lapsed
  · intro none_stands
    rw [holdAfter, settled (by rw [State.standingHold, holdBefore]; exact none_stands), holdBefore]
  · rw [level, holdAfter, ← holdBefore]
    exact still

end Lanes

end Sys2Proof.Proofs.Millisecond

end

section
/-! PROOFS. What the examinations of a request ring leave (O2): the other units, the journal, and the bytes outside the ring. -/

namespace Sys2Proof.Proofs.Millisecond

open Sys2Proof Sys2Proof.Machine Sys2Proof.Proofs.Keeping Sys2Proof.Proofs.Returns Sys2Proof.Proofs.Loads Sys2Proof.Proofs.Examine

section Return

variable {s : State} {ring : Ring} {i b : Nat} {flag : NoticeFlag} {n : Bool} {r : Reply}

theorem writeReturn_wf (wf : Memory.wf s.xmem) : Memory.wf (writeReturn flag (ring.descAddr i) n r s).xmem := by
  by_cases owned : s.read (ring.descAddr i) = 1
  · rw [writeReturn_xmem owned]
    exact Memory.write_wf _ _ _ (answered_wf wf)
  · rw [writeReturn, if_neg owned]
    exact wf

/-- A return writes no byte outside its descriptor. -/
theorem writeReturn_outside (wf : Memory.wf s.xmem) (fits : ∀ w ∈ r.overlay, w.1 + w.2.length ≤ 40)
    (outside : b < ring.base + 64 * i ∨ ring.base + 64 * i + 64 ≤ b) :
    (writeReturn flag (ring.descAddr i) n r s).read b = s.read b := by
  have addr : ring.descAddr i = ring.base + 64 * i := rfl
  by_cases owned : s.read (ring.descAddr i) = 1
  · rw [writeReturn_read wf owned, addr, if_neg (by omega), read_answered wf fun w hw => by have := fits w hw; omega, if_neg (by omega),
      if_neg (by omega)]
  · rw [writeReturn, if_neg owned]

end Return

/-! ## The gate ring -/

section Gate

variable {s t u : State} {b : Nat}

/-- A byte stands outside the gate ring and the descriptor at the take position. -/
def OutsideGate (s : State) (b : Nat) : Prop := OutsideRing s.cfg.gate s.gate.take b

/-- Between the states lie examinations of the gate ring. -/
structure GateExamined (s t : State) : Prop where
  frame : ∀ g, JournalFrame (s.setGate g) (t.setGate g)
  jrn : t.jrn = s.jrn
  wf : Memory.wf s.xmem → Memory.wf t.xmem
  outside : Memory.wf s.xmem → ∀ b, OutsideGate s b → t.read b = s.read b ∧ OutsideGate t b

theorem GateExamined.refl (s : State) : GateExamined s s := ⟨fun _ => JournalFrame.refl _, rfl, id, fun _ _ h => ⟨rfl, h⟩⟩

theorem GateExamined.trans (a : GateExamined s t) (b : GateExamined t u) : GateExamined s u where
  frame g := (a.frame g).trans (b.frame g)
  jrn := b.jrn.trans a.jrn
  wf h := b.wf (a.wf h)
  outside wf c h := by
    obtain ⟨same, still⟩ := a.outside wf c h
    obtain ⟨same', still'⟩ := b.outside (a.wf wf) c still
    exact ⟨same'.trans same, still'⟩

theorem setGate_examined (s : State) (g : GateUnit) (take : g.take = s.gate.take) : GateExamined s (s.setGate g) :=
  ⟨fun _ => JournalFrame.refl _, rfl, id, fun _ b h => ⟨rfl, by
    rw [OutsideGate]
    show OutsideRing s.cfg.gate g.take b
    rw [take]
    exact h⟩⟩

/-- A position of the ring lies in its region. -/
theorem outside_position {ring : Ring} {take j : Nat} (h : OutsideRing (some ring) take b) (low : j < 2 ^ ring.exp) :
    OutsideRing (some ring) j b := fun x here => by
  obtain rfl : ring = x := Option.some.inj here
  obtain ⟨region, -⟩ := h ring rfl
  exact ⟨region, by omega⟩

theorem outside_take {ring : Ring} {take : Nat} (h : OutsideRing (some ring) take b) :
    b < ring.base + 64 * take ∨ ring.base + 64 * take + 64 ≤ b := (h ring rfl).2

theorem gateHandBack_examined {ring : Ring} (cfg : s.cfg.gate = some ring) (d : Desc) (st : Status) :
    GateExamined s (gateHandBack ring d (Reply.bare st) s) where
  frame g := by
    have f := writeReturn_frame .gateReturned (ring.descAddr s.gate.take) d.notify (Reply.bare st) s
    exact ⟨f.ctl, f.clk, f.cfg, rfl, f.list, f.tab, f.adm, f.holds, f.lanes, f.zones, f.monitors, f.pending⟩
  jrn := writeReturn_jrn _ _ _ _ _
  wf := writeReturn_wf
  outside wf b h := by
    have here : OutsideRing (some ring) s.gate.take b := by rw [← cfg]; exact h
    refine ⟨writeReturn_outside wf (bare_fits st) (outside_take here), ?_⟩
    have same : (gateHandBack ring d (Reply.bare st) s).cfg.gate = some ring := by rw [gateHandBack_cfg]; exact cfg
    rw [OutsideGate, same]
    exact outside_position here (next_lt ring _)

theorem gateExamine_examined (n : Nat) (s : State) : GateExamined s (gateExamine n s) := by
  induction n generalizing s with
  | zero => exact GateExamined.refl s
  | succ n ih =>
    cases cfg : s.cfg.gate with
    | none =>
      rw [gateExamine, cfg]
      exact GateExamined.refl s
    | some ring =>
      rw [gateExamine_succ cfg]
      split
      · split
        · exact setGate_examined s _ rfl
        · exact (gateHandBack_examined cfg _ _).trans (ih _)
      · exact setGate_examined s _ rfl

theorem examineGate_examined (s : State) : GateExamined s (examineGate s) := by
  unfold examineGate
  split
  · exact gateExamine_examined _ s
  · exact GateExamined.refl s

end Gate

/-! ## The list ring -/

section ListRing

variable {s t u : State} {b : Nat}

/-- A byte stands outside the list ring, the descriptor at the take position and the kept descriptor. -/
def OutsideList (s : State) (b : Nat) : Prop :=
  OutsideRing s.cfg.list s.list.take b ∧ ∀ k, s.list.kept = some k → OutsideRing s.cfg.list k.index b

/-- Between the states lie examinations of the list ring and the breaking of a chain. -/
structure ListExamined (s t : State) : Prop where
  frame : ∀ l, JournalFrame (s.setList l) (t.setList l)
  jrn : t.jrn = s.jrn
  wf : Memory.wf s.xmem → Memory.wf t.xmem
  outside : Memory.wf s.xmem → ∀ b, OutsideList s b → t.read b = s.read b ∧ OutsideList t b

theorem ListExamined.refl (s : State) : ListExamined s s := ⟨fun _ => JournalFrame.refl _, rfl, id, fun _ _ h => ⟨rfl, h⟩⟩

theorem ListExamined.trans (a : ListExamined s t) (b : ListExamined t u) : ListExamined s u where
  frame l := (a.frame l).trans (b.frame l)
  jrn := b.jrn.trans a.jrn
  wf h := b.wf (a.wf h)
  outside wf c h := by
    obtain ⟨same, still⟩ := a.outside wf c h
    obtain ⟨same', still'⟩ := b.outside (a.wf wf) c still
    exact ⟨same'.trans same, still'⟩

theorem setList_examined (s : State) (l : ListUnit) (take : l.take = s.list.take) (kept : l.kept = s.list.kept ∨ l.kept = none) :
    ListExamined s (s.setList l) :=
  ⟨fun _ => JournalFrame.refl _, rfl, id, fun _ b h => ⟨rfl, by
    refine ⟨?_, fun k hk => ?_⟩
    · show OutsideRing s.cfg.list l.take b
      rw [take]
      exact h.1
    · have hk : l.kept = some k := hk
      rcases kept with same | gone
      · exact h.2 k (same.symm.trans hk)
      · rw [gone] at hk
        cases hk⟩⟩

theorem breakChain_examined (s : State) : ListExamined s (breakChain s) := by
  by_cases chain : s.list.chainOpen = true
  · have closing : ListExamined s (returnKept .chainBroken true s) := by
      cases kept : s.list.kept with
      | none =>
        rw [returnKept_none kept]
        exact ListExamined.refl s
      | some k =>
        cases cfg : s.cfg.list with
        | none =>
          have idle : returnKept .chainBroken true s = s := by simp only [returnKept, cfg, kept]
          rw [idle]
          exact ListExamined.refl s
        | some ring =>
          rw [returnKept_kept cfg kept]
          have f := writeReturn_frame .listReturned (ring.base + 64 * k.index) k.notify
            ⟨.chainBroken, k.counts.resultBytes, if true then [(0, s.list.totals.totalBytes)] else []⟩ s
          refine ⟨fun l => ⟨f.ctl, f.clk, f.cfg, f.gate, rfl, f.tab, f.adm, f.holds, f.lanes, f.zones, f.monitors, f.pending⟩,
            writeReturn_jrn _ _ _ _ _, writeReturn_wf (ring := ring), fun wf b h => ⟨?_, ?_⟩⟩
          · have here := h.2 k kept
            rw [cfg] at here
            refine writeReturn_outside (ring := ring) wf (fun w hw => ?_) (outside_take here)
            cases List.mem_singleton.1 hw
            exact Nat.le_of_ble_eq_true rfl
          · rw [OutsideList, f.cfg, f.list]
            exact h
    rw [breakChain_open chain, ← returnKept_list .chainBroken true s]
    exact closing.trans (setList_examined _ _ rfl (.inr rfl))
  · rw [breakChain_closed (Bool.eq_false_iff.2 chain)]
    exact ListExamined.refl s

theorem refused_examined {ring : Ring} (cfg : s.cfg.list = some ring) (st : Status) : ListExamined s (refused ring st s) := by
  have broken := breakChain_examined s
  have cfg' : (breakChain s).cfg.list = some ring := by rw [breakChain_cfg]; exact cfg
  refine broken.trans ?_
  unfold refused
  generalize breakChain s = w at cfg' ⊢
  generalize readDesc s.xmem (ring.descAddr s.list.take) = d
  have f := writeReturn_frame .listReturned (ring.descAddr w.list.take) d.notify (Reply.bare st) w
  refine ⟨fun l => ⟨f.ctl, f.clk, f.cfg, f.gate, rfl, f.tab, f.adm, f.holds, f.lanes, f.zones, f.monitors, f.pending⟩,
    writeReturn_jrn _ _ _ _ _, writeReturn_wf, fun wf b h => ?_⟩
  have here : OutsideRing (some ring) w.list.take b := by rw [← cfg']; exact h.1
  refine ⟨writeReturn_outside wf (bare_fits st) (outside_take here), ?_, fun k hk => ?_⟩
  · have same : (listHandBack ring d (Reply.bare st) w).cfg.list = some ring := (congrArg RingConfig.list f.cfg).trans cfg'
    rw [same]
    exact outside_position here (next_lt ring _)
  · have same : (listHandBack ring d (Reply.bare st) w).cfg.list = w.cfg.list := congrArg RingConfig.list f.cfg
    have list : (writeReturn .listReturned (ring.descAddr w.list.take) d.notify (Reply.bare st) w).list = w.list := f.list
    rw [same]
    refine h.2 k ?_
    rw [← hk, ← list]
    rfl

theorem listWait_examined (s : State) : ListExamined s (listWait s) := setList_examined s _ rfl (.inl rfl)

theorem listExamine_examined (n : Nat) (s : State) : ListExamined s (listExamine n s) := by
  induction n generalizing s with
  | zero => exact ListExamined.refl s
  | succ n ih =>
    cases cfg : s.cfg.list with
    | none =>
      rw [listExamine, cfg]
      exact ListExamined.refl s
    | some ring =>
      rw [listExamine_succ cfg]
      split
      · split
        · exact setList_examined s _ rfl (.inl rfl)
        · exact (refused_examined cfg _).trans (ih _)
      · exact listWait_examined s

theorem examineList_examined (s : State) : ListExamined s (examineList s) := by
  unfold examineList
  split
  · exact listExamine_examined _ s
  · exact ListExamined.refl s

theorem chainWaitOut_examined (s : State) : ListExamined s (chainWaitOut s) := by
  unfold chainWaitOut
  split
  · split
    · have stopped := setList_examined s { s.list with wait := none } rfl (.inl rfl)
      simp only
      split
      · exact stopped.trans (examineList_examined _)
      · exact (stopped.trans (breakChain_examined _)).trans (listWait_examined _)
    · exact ListExamined.refl s
  · exact ListExamined.refl s

end ListRing

end Sys2Proof.Proofs.Millisecond

end

section
/-! PROOFS. One millisecond (O2): the clock, the poll timers and the chain wait, and the order of the timers. -/

namespace Sys2Proof.Proofs.Millisecond

open Sys2Proof Sys2Proof.Machine Sys2Proof.Proofs.Keeping Sys2Proof.Proofs.Events Sys2Proof.Proofs.Endings Sys2Proof.Proofs.Examine

/-! ## The clock -/

/-- The event clock after a millisecond. -/
def clockTicked (k : Clock) : Clock :=
  if k.valid = false then k
  else if k.ms + 1 < 1000 then ⟨k.value, true, k.ms + 1⟩
  else if k.value = 0x7FFFFFFF then ⟨k.value, true, 0⟩
  else ⟨k.value + 1, true, 0⟩

theorem tickClock_eq (s : State) : tickClock s = s.setClk (clockTicked s.clk) := by
  have second : Config.secondMs = 1000 := rfl
  unfold tickClock clockTicked
  by_cases invalid : s.clk.valid = false
  · rw [if_pos invalid, if_pos invalid]
    rfl
  · have valid : s.clk.valid = true := Bool.eq_true_of_not_eq_false invalid
    rw [if_neg invalid, if_neg invalid, second]
    by_cases early : s.clk.ms + 1 < 1000
    · rw [if_neg (Nat.not_le.2 early), if_pos early, ← valid]
    · rw [if_pos (Nat.not_lt.1 early), if_neg early, clockAdvance, if_pos valid]
      split <;> rfl

/-! ## The poll timers and the chain wait -/

section Timers

variable {s : State}

/-- A poll timer does not run out in this millisecond. -/
def GoesOn (poll : Option Nat) : Prop := ∀ k, poll = some k → 1 < k

theorem not_goesOn {poll : Option Nat} (h : ¬GoesOn poll) : ∃ k, poll = some k ∧ k ≤ 1 := by
  unfold GoesOn at h
  push Not at h
  exact h

theorem tickGatePoll_goesOn (goes : GoesOn s.gate.poll) :
    tickGatePoll s = s.setGate { s.gate with poll := s.gate.poll.map (fun k => k - 1) } := by
  unfold tickGatePoll
  cases poll : s.gate.poll with
  | none =>
    have same : s.gate = { s.gate with poll := none } := by rw [← poll]
    exact (congrArg s.setGate same : s.setGate s.gate = _)
  | some k => exact if_neg (Nat.not_le.2 (goes k poll))

theorem tickGatePoll_ends (ends : ¬GoesOn s.gate.poll) : tickGatePoll s = examineGate s ∧ s.gate.poll.isSome = true := by
  obtain ⟨k, poll, low⟩ := not_goesOn ends
  rw [tickGatePoll, poll]
  exact ⟨if_pos low, rfl⟩

theorem tickGatePoll_examined (s : State) : GateExamined s (tickGatePoll s) := by
  by_cases goes : GoesOn s.gate.poll
  · rw [tickGatePoll_goesOn goes]
    exact setGate_examined s _ rfl
  · rw [(tickGatePoll_ends goes).1]
    exact examineGate_examined s

theorem tickListPoll_goesOn (goes : GoesOn s.list.poll) :
    tickListPoll s = s.setList { s.list with poll := s.list.poll.map (fun k => k - 1) } := by
  unfold tickListPoll
  cases poll : s.list.poll with
  | none =>
    have same : s.list = { s.list with poll := none } := by rw [← poll]
    exact (congrArg s.setList same : s.setList s.list = _)
  | some k => exact if_neg (Nat.not_le.2 (goes k poll))

theorem tickListPoll_ends (ends : ¬GoesOn s.list.poll) : tickListPoll s = examineList s ∧ s.list.poll.isSome = true := by
  obtain ⟨k, poll, low⟩ := not_goesOn ends
  rw [tickListPoll, poll]
  exact ⟨if_pos low, rfl⟩

theorem tickListPoll_examined (s : State) : ListExamined s (tickListPoll s) := by
  by_cases goes : GoesOn s.list.poll
  · rw [tickListPoll_goesOn goes]
    exact setList_examined s _ rfl (.inl rfl)
  · rw [(tickListPoll_ends goes).1]
    exact examineList_examined s

theorem tickChainWait_none (off : s.list.wait = none) : tickChainWait s = s := by rw [tickChainWait, off]

theorem tickChainWait_some {c : Countdown} (on : s.list.wait = some c) :
    tickChainWait s =
      match countedMs c 100 with
      | none => chainWaitOut s
      | some c1 => s.setList { s.list with wait := some c1 } := by
  have unit : Config.unitMs = 100 := rfl
  rw [tickChainWait, on, countedMs_pass, ← unit] <;> rfl

theorem tickRunningWait_examined (ran : Bool) (s : State) : ListExamined s (tickRunningWait ran s) := by
  unfold tickRunningWait
  split
  · cases on : s.list.wait with
    | none =>
      rw [tickChainWait_none on]
      exact ListExamined.refl s
    | some c =>
      rw [tickChainWait_some on]
      split
      · exact chainWaitOut_examined s
      · exact setList_examined s _ rfl (.inl rfl)
  · exact ListExamined.refl s

theorem exec_chainWait (up : s.ctl.resetActive = false) : exec .chainWaitExpiry s = .next (chainWaitOut s) :=
  congrArg _ (if_neg (by rw [up]; decide))

theorem exec_journalPoll (up : s.ctl.resetActive = false) (poll : s.jrn.poll.isSome = true) :
    exec .journalPollExpiry s = .next (journalExamine s) := by
  have live : ¬s.ctl.resetActive = true := by rw [up]; decide
  show Host.Outcome.next (if s.ctl.resetActive = true then s else if s.jrn.poll.isSome = true then journalExamine s else s) = _
  rw [if_neg live, if_pos poll]

theorem tickJournalPoll_frame (s : State) : JournalFrame s (tickJournalPoll s) := by
  unfold tickJournalPoll
  split
  · exact JournalFrame.refl s
  · split
    · exact journalExamine_frame s
    · constructor <;> rfl

theorem tickRunningPoll_frame (ran : Bool) (s : State) : JournalFrame s (tickRunningPoll ran s) := by
  unfold tickRunningPoll
  split
  · exact tickJournalPoll_frame s
  · exact JournalFrame.refl s

theorem tickRunningPoll_goesOn (goes : GoesOn s.jrn.poll) :
    tickRunningPoll s.jrn.poll.isSome s = s.setJrn { s.jrn with poll := s.jrn.poll.map (fun k => k - 1) } := by
  unfold tickRunningPoll tickJournalPoll
  cases poll : s.jrn.poll with
  | none =>
    have same : s.jrn = { s.jrn with poll := none } := by rw [← poll]
    exact (congrArg s.setJrn same : s.setJrn s.jrn = _)
  | some k => exact if_neg (Nat.not_le.2 (goes k poll))

theorem tickRunningPoll_ends (ends : ¬GoesOn s.jrn.poll) :
    tickRunningPoll s.jrn.poll.isSome s = journalExamine s ∧ s.jrn.poll.isSome = true := by
  obtain ⟨k, poll, low⟩ := not_goesOn ends
  rw [tickRunningPoll, tickJournalPoll, poll]
  exact ⟨if_pos low, rfl⟩

end Timers

/-! ## The order of the timers -/

section Stages

variable {s : State}

/-- What a millisecond is, once the clock and the lanes have counted it in the state `l`. -/
def timersTicked (s l : State) : State :=
  tickRunningPoll s.jrn.poll.isSome (tickRunningWait s.list.wait.isSome (tickListPoll (tickGatePoll l)))

theorem tick_eq (up : s.ctl.resetActive = false) :
    tick s = timersTicked s (laneOrder.foldl tickLane (s.setClk (clockTicked s.clk))) := by
  rw [tick, if_neg (by rw [up]; decide), tickClock_eq]
  rfl

/-- The clock and the lanes of the millisecond. -/
structure LanesCounted (s l : State) : Prop where
  ctl : l.ctl = { s.ctl with notice := l.ctl.notice }
  clk : l.clk = clockTicked s.clk
  cfg : l.cfg = s.cfg
  gate : l.gate = s.gate
  list : l.list = s.list
  pending : l.pending = s.pending
  recorded : Recorded s l
  lane : ∀ i, LaneTicked i s l

theorem tickLanes_counted (up : s.ctl.resetActive = false) :
    LanesCounted s (laneOrder.foldl tickLane (s.setClk (clockTicked s.clk))) := by
  obtain ⟨⟨ctl, clk, cfg, gate, list, pending, recorded⟩, -, -⟩ := tickLanes_lanes laneOrder nodup_laneOrder (s.setClk (clockTicked s.clk))
  have clock : Recorded s (s.setClk (clockTicked s.clk)) := .of_eq rfl rfl rfl
  refine ⟨ctl, clk, cfg, gate, list, pending, clock.trans recorded, fun i => ?_⟩
  obtain ⟨inputs, counted, lapsed, settled, still⟩ := tickLanes_ticked i (s := s.setClk (clockTicked s.clk)) up
  exact ⟨inputs, counted, lapsed, settled, still⟩

/-- The units apart from those of the request rings, after the ring timers. -/
structure RestAlike (l t : State) : Prop where
  ctl : t.ctl = { l.ctl with notice := t.ctl.notice }
  clk : t.clk = l.clk
  cfg : t.cfg = l.cfg
  holds : t.holds = l.holds
  lanes : t.lanes = l.lanes
  pending : t.pending = l.pending

theorem RestAlike.trans {l t u : State} (a : RestAlike l t) (b : RestAlike t u) : RestAlike l u :=
  ⟨by rw [b.ctl, a.ctl], b.clk.trans a.clk, b.cfg.trans a.cfg, b.holds.trans a.holds, b.lanes.trans a.lanes, b.pending.trans a.pending⟩

theorem GateExamined.rest {l t : State} (e : GateExamined l t) : RestAlike l t :=
  have f := e.frame l.gate
  ⟨f.ctl, f.clk, f.cfg, f.holds, f.lanes, f.pending⟩

theorem GateExamined.list {l t : State} (e : GateExamined l t) : t.list = l.list := (e.frame l.gate).list

theorem ListExamined.rest {l t : State} (e : ListExamined l t) : RestAlike l t :=
  have f := e.frame l.list
  ⟨f.ctl, f.clk, f.cfg, f.holds, f.lanes, f.pending⟩

theorem ListExamined.gate {l t : State} (e : ListExamined l t) : t.gate = l.gate := (e.frame l.list).gate

theorem JournalFrame.rest {l t : State} (f : JournalFrame l t) : RestAlike l t := ⟨f.ctl, f.clk, f.cfg, f.holds, f.lanes, f.pending⟩

end Stages

end Sys2Proof.Proofs.Millisecond

end

section
/-! PROOFS. A step on an empty queue (O2). -/

namespace Sys2Proof.Proofs.Millisecond

open Sys2Proof Sys2Proof.Machine Sys2Proof.Proofs.Keeping Sys2Proof.Proofs.Events Sys2Proof.Proofs.Endings Sys2Proof.Proofs.Examine

/-- The states of a millisecond: after the lanes, the gate ring's timer, the list ring's timer, the chain wait, and the journal's
timer. -/
structure Stages (s l g p w t : State) : Prop where
  up : s.ctl.resetActive = false
  lanes : LanesCounted s l
  gate : g = tickGatePoll l
  list : p = tickListPoll g
  wait : w = tickRunningWait s.list.wait.isSome p
  poll : t = tickRunningPoll s.jrn.poll.isSome w

theorem tick_stages {s : State} (up : s.ctl.resetActive = false) : ∃ l g p w, Stages s l g p w (tick s) := by
  have lanes := tickLanes_counted up
  have whole := tick_eq up
  generalize laneOrder.foldl tickLane (s.setClk (clockTicked s.clk)) = l at lanes whole
  exact ⟨l, _, _, _, up, lanes, rfl, rfl, rfl, whole⟩

/-- A state is as the millisecond began, but for what the lanes and, where the gate ring's timer has run out, its examinations have
written. -/
def ActsOn (s : State) (quiet : Prop) (u : State) : Prop :=
  u.cfg = s.cfg ∧ u.ctl.part = s.ctl.part ∧ u.ctl.resetActive = false ∧
    (quiet → s.jrn.queue ≠ [] ∨ s.cfg.journal = none → u.xmem = s.xmem) ∧
    (Memory.wf s.xmem → ∀ a, s.OutsideJournal a → quiet ∨ OutsideRing s.cfg.gate s.gate.take a → u.read a = s.read a)

section Stage

variable {s l g p w t : State}

theorem Stages.gateExamined (h : Stages s l g p w t) : GateExamined l g := by
  rw [h.gate]
  exact tickGatePoll_examined l

theorem Stages.listExamined (h : Stages s l g p w t) : ListExamined g p := by
  rw [h.list]
  exact tickListPoll_examined g

theorem Stages.waitExamined (h : Stages s l g p w t) : ListExamined p w := by
  rw [h.wait]
  exact tickRunningWait_examined _ p

theorem Stages.journalFrame (h : Stages s l g p w t) : JournalFrame w t := by
  rw [h.poll]
  exact tickRunningPoll_frame _ w

theorem Stages.rest (h : Stages s l g p w t) : RestAlike l t :=
  ((h.gateExamined.rest.trans h.listExamined.rest).trans h.waitExamined.rest).trans (JournalFrame.rest h.journalFrame)

theorem RestAlike.resetActive (r : RestAlike l t) : t.ctl.resetActive = l.ctl.resetActive := by rw [r.ctl]

theorem RestAlike.part (r : RestAlike l t) : t.ctl.part = l.ctl.part := by rw [r.ctl]

theorem Stages.laneUp (h : Stages s l g p w t) : l.ctl.resetActive = false := by
  rw [h.lanes.ctl]
  exact h.up

theorem Stages.gateUp (h : Stages s l g p w t) : g.ctl.resetActive = false := h.gateExamined.rest.resetActive.trans h.laneUp

theorem Stages.listUp (h : Stages s l g p w t) : p.ctl.resetActive = false := h.listExamined.rest.resetActive.trans h.gateUp

theorem Stages.waitUp (h : Stages s l g p w t) : w.ctl.resetActive = false := h.waitExamined.rest.resetActive.trans h.listUp

theorem Stages.gateUnit (h : Stages s l g p w t) : t.gate = g.gate :=
  h.journalFrame.gate.trans (h.waitExamined.gate.trans h.listExamined.gate)

theorem Stages.listUnit (h : Stages s l g p w t) : t.list = w.list := h.journalFrame.list

theorem Stages.listBefore (h : Stages s l g p w t) : g.list = s.list := h.gateExamined.list.trans h.lanes.list

/-! ## What an expiry finds -/

theorem Stages.actsOn_lanes (h : Stages s l g p w t) : ActsOn s True l := by
  refine ⟨h.lanes.cfg, by rw [h.lanes.ctl], h.laneUp, fun _ still => ?_, fun wf a outside _ => h.lanes.recorded.outside wf a outside⟩
  rcases still with waits | unplaced
  · exact (h.lanes.recorded.waiting waits).1
  · exact h.lanes.recorded.noRing unplaced

theorem Stages.actsOn_gate (h : Stages s l g p w t) : ActsOn s (GoesOn s.gate.poll) g := by
  obtain ⟨cfg, part, -, still, reads⟩ := h.actsOn_lanes
  have quiet : GoesOn s.gate.poll → g.xmem = l.xmem := fun goes => by
    rw [h.gate, tickGatePoll_goesOn (by rw [h.lanes.gate]; exact goes)]
    rfl
  refine ⟨h.gateExamined.rest.cfg.trans cfg, h.gateExamined.rest.part.trans part, h.gateUp, fun goes why => ?_, fun wf a outside where_ => ?_⟩
  · exact (quiet goes).trans (still trivial why)
  · have first := reads wf a outside (.inl trivial)
    rcases where_ with goes | apart
    · rw [← first, State.read_def, quiet goes]
      rfl
    · have apart : OutsideGate l a := by rw [OutsideGate, h.lanes.cfg, h.lanes.gate]; exact apart
      exact (h.gateExamined.outside (h.lanes.recorded.wf wf) a apart).1.trans first

theorem ActsOn.of_list {quiet : Prop} (a : ActsOn s quiet g) (unit : ListUnit) : ActsOn s quiet (g.setList unit) := a

/-! ## The gate ring -/

theorem Stages.gate_goesOn (h : Stages s l g p w t) (goes : GoesOn s.gate.poll) :
    t.gate = { s.gate with poll := s.gate.poll.map (fun k => k - 1) } := by
  rw [h.gateUnit, h.gate, tickGatePoll_goesOn (by rw [h.lanes.gate]; exact goes), h.lanes.gate]
  rfl

theorem Stages.gate_ends (h : Stages s l g p w t) (ends : ¬GoesOn s.gate.poll) :
    ∃ u v, ActsOn s True u ∧ u.gate = s.gate ∧ exec (.ringPollExpiry .gate) u = .next v ∧ t.gate = v.gate := by
  obtain ⟨examined, on⟩ := tickGatePoll_ends (s := l) (by rw [h.lanes.gate]; exact ends)
  refine ⟨l, examineGate l, h.actsOn_lanes, h.lanes.gate, exec_gatePoll h.laneUp on, ?_⟩
  rw [h.gateUnit, h.gate, examined]

/-! ## The list ring -/

theorem Stages.list_polled (h : Stages s l g p w t) (goes : GoesOn s.list.poll) :
    p = g.setList { s.list with poll := s.list.poll.map (fun k => k - 1) } := by
  rw [h.list, tickListPoll_goesOn (by rw [h.listBefore]; exact goes), h.listBefore]

theorem Stages.list_goesOn (h : Stages s l g p w t) (goes : GoesOn s.list.poll)
    (waits : ∀ c, s.list.wait = some c → countedMs c 100 ≠ none) :
    t.list = { s.list with
      poll := s.list.poll.map (fun k => k - 1), wait := s.list.wait.bind (fun c => countedMs c 100) } := by
  have polled := h.list_polled goes
  rw [h.listUnit, h.wait, tickRunningWait]
  cases on : s.list.wait with
  | none =>
    rw [if_neg (by simp), polled, Option.bind_none, ← on]
    rfl
  | some c =>
    obtain ⟨c', counts⟩ := Option.ne_none_iff_exists'.1 (waits c on)
    have here : p.list.wait = some c := by
      rw [polled]
      exact on
    rw [Option.isSome_some, if_pos rfl, tickChainWait_some here, counts, polled, Option.bind_some, counts]
    rfl

theorem Stages.list_ends (h : Stages s l g p w t) (ends : ¬GoesOn s.list.poll) :
    ∃ u v, ActsOn s (GoesOn s.gate.poll) u ∧ u.list = s.list ∧ exec (.ringPollExpiry .list) u = .next v ∧
      (s.list.wait = none ∨ v.list.wait = none → t.list = v.list) ∧
      ∀ c, s.list.wait ≠ none → v.list.wait = some c →
        (∀ c', countedMs c 100 = some c' → t.list = { v.list with wait := some c' }) ∧
          (countedMs c 100 = none → ∃ x, exec .chainWaitExpiry v = .next x ∧ t.list = x.list) := by
  obtain ⟨examined, on⟩ := tickListPoll_ends (s := g) (by rw [h.listBefore]; exact ends)
  refine ⟨g, p, h.actsOn_gate, h.listBefore, ?_, fun off => ?_, fun c ran waits => ⟨fun c' counts => ?_, fun out => ?_⟩⟩
  · rw [h.list, examined]
    exact exec_listPoll h.gateUp on
  · rw [h.listUnit, h.wait, tickRunningWait]
    rcases off with off | off
    · rw [off, if_neg (by simp)]
    · rw [tickChainWait_none off, ite_self]
  · rw [h.listUnit, h.wait, tickRunningWait, if_pos (Option.isSome_iff_ne_none.2 ran), tickChainWait_some waits, counts]
    rfl
  · refine ⟨chainWaitOut p, exec_chainWait h.listUp, ?_⟩
    rw [h.listUnit, h.wait, tickRunningWait, if_pos (Option.isSome_iff_ne_none.2 ran), tickChainWait_some waits, out]

theorem Stages.wait_ends (h : Stages s l g p w t) {c : Countdown} (goes : GoesOn s.list.poll) (waits : s.list.wait = some c)
    (out : countedMs c 100 = none) :
    ∃ u v, ActsOn s (GoesOn s.gate.poll) u ∧ u.list = { s.list with poll := s.list.poll.map (fun k => k - 1) } ∧
      exec .chainWaitExpiry u = .next v ∧ t.list = v.list := by
  have polled := h.list_polled goes
  have here : p.list.wait = some c := by
    rw [polled]
    exact waits
  refine ⟨p, chainWaitOut p, ?_, ?_, exec_chainWait h.listUp, ?_⟩
  · rw [polled]
    exact h.actsOn_gate.of_list _
  · rw [polled]
    rfl
  · rw [h.listUnit, h.wait, tickRunningWait, waits, Option.isSome_some, if_pos rfl, tickChainWait_some here, out]

/-! ## The journal -/

theorem Stages.jrnBefore (h : Stages s l g p w t) : w.jrn = l.jrn :=
  h.waitExamined.jrn.trans (h.listExamined.jrn.trans h.gateExamined.jrn)

theorem Stages.journal_stopped (h : Stages s l g p w t) (stopped : s.jrn.poll = none) :
    t.jrn.poll = none ∨ t.jrn.poll = some s.cfg.poll := by
  have same : t = w := by
    rw [h.poll, stopped]
    rfl
  rw [same, h.jrnBefore]
  rcases h.lanes.recorded.poll with kept | off | loaded
  · exact .inl (kept.trans stopped)
  · exact .inl off
  · exact .inr loaded

theorem Stages.journal_goesOn (h : Stages s l g p w t) (waits : s.jrn.queue ≠ []) (goes : GoesOn s.jrn.poll) :
    t.jrn.poll = s.jrn.poll.map (fun k => k - 1) ∧ t.jrn.put = s.jrn.put ∧ s.jrn.queue <+: t.jrn.queue ∧ s.jrn.gap ≤ t.jrn.gap := by
  obtain ⟨-, put, poll, queue, gap⟩ := h.lanes.recorded.waiting waits
  rw [← h.jrnBefore] at put poll queue gap
  have counted : t = w.setJrn { w.jrn with poll := w.jrn.poll.map (fun k => k - 1) } := by
    rw [h.poll, ← poll, tickRunningPoll_goesOn (by rw [poll]; exact goes)]
  rw [counted, ← poll]
  exact ⟨rfl, put, queue, gap⟩

/-- Outside the rings the bytes are as they were when a record waits. -/
theorem Stages.reads (h : Stages s l g p w t) (waits : s.jrn.queue ≠ []) (wf : Memory.wf s.xmem) {a : Nat}
    (gate : OutsideRing s.cfg.gate s.gate.take a) (list : OutsideRing s.cfg.list s.list.take a)
    (kept : ∀ k, s.list.kept = some k → OutsideRing s.cfg.list k.index a) : w.read a = s.read a := by
  have xmem := (h.lanes.recorded.waiting waits).1
  have first : l.read a = s.read a := by
    rw [State.read_def, xmem]
    rfl
  have wfl := h.lanes.recorded.wf wf
  have atGate : OutsideGate l a := by rw [OutsideGate, h.lanes.cfg, h.lanes.gate]; exact gate
  have second := (h.gateExamined.outside wfl a atGate).1
  have wfg := h.gateExamined.wf wfl
  have atList : OutsideList g a := by
    rw [OutsideList, h.gateExamined.rest.cfg, h.lanes.cfg, h.listBefore]
    exact ⟨list, kept⟩
  obtain ⟨third, stillList⟩ := h.listExamined.outside wfg a atList
  have fourth := (h.waitExamined.outside (h.listExamined.wf wfg) a stillList).1
  exact fourth.trans (third.trans (second.trans first))

theorem Stages.journal_ends (h : Stages s l g p w t) (waits : s.jrn.queue ≠ []) (ends : ¬GoesOn s.jrn.poll) :
    ∃ u, exec .journalPollExpiry u = .next t ∧ u.jrn.put = s.jrn.put ∧ u.jrn.poll = s.jrn.poll ∧ u.cfg = s.cfg ∧
      s.jrn.queue <+: u.jrn.queue ∧
      (Memory.wf s.xmem → ∀ a, OutsideRing s.cfg.gate s.gate.take a → OutsideRing s.cfg.list s.list.take a →
        (∀ k, s.list.kept = some k → OutsideRing s.cfg.list k.index a) → u.read a = s.read a) := by
  obtain ⟨-, put, poll, queue, -⟩ := h.lanes.recorded.waiting waits
  rw [← h.jrnBefore] at put poll queue
  obtain ⟨examined, on⟩ := tickRunningPoll_ends (s := w) (by rw [poll]; exact ends)
  have cfg : w.cfg = s.cfg :=
    h.waitExamined.rest.cfg.trans (h.listExamined.rest.cfg.trans (h.gateExamined.rest.cfg.trans h.lanes.cfg))
  refine ⟨w, ?_, put, poll, cfg, queue, fun wf a gate list kept => h.reads waits wf gate list kept⟩
  rw [h.poll, ← poll, examined]
  exact exec_journalPoll h.waitUp on

/-! ## The lanes -/

theorem Stages.lane (h : Stages s l g p w t) (i : LaneId) : LaneTicked i s t := by
  obtain ⟨inputs, counted, lapsed, settled, still⟩ := h.lanes.lane i
  have lane : t.lane i = l.lane i := congrArg (fun v => v.get i) h.rest.lanes
  have hold : t.hold i = l.hold i := congrArg (fun v => v.get i) h.rest.holds
  refine ⟨?_, ?_, ?_, ?_, ?_⟩
  · rw [lane]; exact inputs
  · rw [lane, hold]; exact counted
  · rw [hold]; exact lapsed
  · rw [Settled, hold]; exact settled
  · rw [lane, hold]; exact still

end Stage

/-- Settles O2. -/
theorem idleStepIsOneMillisecond : Obligations.IdleStepIsOneMillisecond := by
  unfold Obligations.IdleStepIsOneMillisecond
  intro s empty goesOn down like
  have ticks : step s = .next (tick s) := by rw [step, empty]
  by_cases active : s.ctl.resetActive = true
  · have still : tick s = s := if_pos active
    exact ⟨tick s, ticks, by rw [still]; exact empty, fun _ => still, fun up => absurd (active.symm.trans up) (by decide)⟩
  · have up : s.ctl.resetActive = false := Bool.eq_false_iff.2 active
    obtain ⟨l, g, p, w, h⟩ := tick_stages up
    generalize tick s = t at ticks h
    refine ⟨t, ticks, (h.rest.pending.trans h.lanes.pending).trans empty, fun on => absurd on active, fun _ => ?_⟩
    refine ⟨h.rest.clk.trans h.lanes.clk, fun i => ?_, h.gate_goesOn, h.gate_ends, h.list_goesOn, h.list_ends,
      fun c goes waits out => h.wait_ends goes waits out, h.journal_stopped, fun waits => ⟨h.journal_goesOn waits, h.journal_ends waits⟩⟩
    obtain ⟨⟨token, raw, between, due⟩, counted, lapsed, settled, still⟩ := h.lane i
    refine ⟨token, raw, between, due, ?_, fun ended => settled ?_, fun same off => still same ?_⟩
    · intro h' held standing part rest asks
      have counting : s.countingHold i = some h' := by
        rw [countingHold_eq up, if_pos ⟨part, rest⟩]
        exact standingHold_eq_some_iff.2 ⟨held, standing⟩
      have closing : h'.needsClosing .lapsed = true ↔ asks := by
        rw [needsClosing_iff]
        simp only [reduceCtorEq, false_or]
        rfl
      refine ⟨fun c counts only => counted h' counting c counts only, fun out => ?_⟩
      obtain ⟨asking, plain⟩ := lapsed h' counting out
      exact ⟨fun h => asking (closing.2 h), fun h => plain (mt closing.1 h)⟩
    · cases stands : s.standingHold i with
      | none => rfl
      | some h' =>
        obtain ⟨held, standing⟩ := standingHold_eq_some_iff.1 stands
        exact absurd standing (ended h' held)
    · rw [countingHold_eq up, if_neg fun both => off.elim (fun n => n both.1) (fun n => n both.2)]

end Sys2Proof.Proofs.Millisecond

end
